-- ==== Sys2Proof/Word.lean ====
section
/-! DEFINITION. The word types of the ET416's messages and counters (00_scope "Units", R194). Every
other quantity of the manual is an integer in a fixed unit and is an `Int` or a `Nat` in this model. -/

namespace Sys2Proof

/-- One octet of a message, a body or a head frame (R183, R125). -/
abbrev Octet := BitVec 8

/-- A signed 24-bit reading: a raw count of the converter (R109) or an elongation (R125). -/
abbrev Word24 := BitVec 24

/-- A four-octet field, two's complement (R194), and the signed 32-bit crosshead positions, which wrap
(R147). -/
abbrev Word32 := BitVec 32

end Sys2Proof
end

