-- ==== Sys2Proof/Syntax.lean ====
section
/-! DEFINITION. The commands of the ET416: one constructor for each row of spec/opcode_table.json, in the
table's order. A request row carries the port that took it and the fields of its body in the order of its
layout (R185, R194); an event row carries what the event brings from outside (a raw count, a frame). -/

namespace Sys2Proof

/-- The role of a link port, fixed by its position: L0, L1, L2 (R180). -/
inductive Role where
  | console | cell | quality
  deriving DecidableEq, Repr

/-- The two directions of crosshead motion: opening is positive (00_scope "Direction and sign"). -/
inductive Direction where
  | opening | closing
  deriving DecidableEq, Repr

/-- The arms states of the extensometer head (R125): codes 0 to 3. -/
inductive ArmsState where
  | opened | closing | closed | opening
  deriving DecidableEq, Repr

/-- The two filtered input pins (R172). -/
inductive InputPin where
  | frameStop | gripsClosed
  deriving DecidableEq, Repr

/-- The five cases in which the link discards a head frame (R125). -/
inductive DiscardReason where
  | badCheck        -- the check octet does not match
  | unknownType     -- the type octet is neither 0xA0 nor 0xA5
  | lowStopBit      -- a character of the frame has a low stop bit
  | restedHigh      -- the line rests high for 20 bit-times before the frame's last octet
  | armsAboveThree  -- a STATUS frame carries an arms state octet above 3
  deriving DecidableEq, Repr

/-- One sample of the encoder's channels ENCA and ENCB: their levels, true for high (R148). -/
structure Channels where
  encA : Bool
  encB : Bool
  deriving DecidableEq, Repr

/-- The commands. `p` is the port a request is taken at. -/
inductive Instr where
  | nop (p : Role)
  | getNotices (p : Role)
  | linkReset (p : Role)
  | readLive (p : Role)
  | resetController (p : Role)
  | storeConfig (p : Role)
  /-- 11.8.2, octets 0 to 33: the ID's twelve octets, slot, shape, and the five lengths. -/
  | enqueue (p : Role) (id : List Octet) (slot shape : Octet)
      (width thickness diameter parallel gauge : Word32)
  | withdraw (p : Role) (id : List Octet)
  | readQueue (p : Role)
  /-- The slot octet followed by the program body of 11.8.3; 74 to 116 octets pass the port (R185). -/
  | writeProgram (p : Role) (body : List Octet)
  | clearProgram (p : Role) (slot : Octet)
  | readProgram (p : Role) (slot : Octet)
  | fetchResult (p : Role)
  | takeResult (p : Role) (id : List Octet)
  | setResultReaders (p : Role) (readers : Octet)
  | arm (p : Role)
  | disarm (p : Role)
  | start (p : Role)
  | hold (p : Role)
  | resume (p : Role)
  | abort (p : Role)
  | setAutoArm (p : Role) (setting : Octet)
  /-- Range, full scale, point count and the points (R106, R194); 6 to 70 octets pass the port. -/
  | writeCalibration (p : Role) (body : List Octet)
  | writeReference (p : Role) (expected tolerance : Word32)
  | readCalibration (p : Role)
  | setRange (p : Role) (range : Octet)
  | tare (p : Role)
  | writeFrameConstants (p : Role) (compliance datum : Word32)
  | readFrameConstants (p : Role)
  | extAttach (p : Role)
  | extDetach (p : Role)
  | extRead (p : Role)
  | requestAuthority (p : Role)
  | releaseAuthority (p : Role)
  | moveTo (p : Role) (target speed : Word32)
  | moveBy (p : Role) (distance speed : Word32)
  | jog (p : Role) (direction : Octet) (speed : Word32)
  | stopMove (p : Role)
  | setPosition (p : Role) (position : Word32)
  /-- 11.8.7: step length, vmax, jog limit, soft limits, following limit. -/
  | writeDriveConfig (p : Role) (stepLength : Octet) (vmax jogLimit lower upper following : Word32)
  | readDrive (p : Role)
  | writeSpeedConfig (p : Role) (gate : Octet) (restSpeed : Word32)
  | readSpeedMeter (p : Role)
  | clearFrameStop (p : Role)
  | readInputs (p : Role)
  /-- The octets clocked in by a transaction whose request fails a check of R183. -/
  | malformedRequest (p : Role) (octets : List Octet)
  /-- SEL of the port goes low (R181). -/
  | transactionBegin (p : Role)
  /-- SEL of the port goes high after a transaction that carries no request (R181). -/
  | transactionWithoutRequest (p : Role)
  | replyReady (p : Role)
  | powerOn
  | configImageLoadDone
  | resetPin
  /-- `readsBack`: every octet read back as written (R192). -/
  | configStoreCompletion (readsBack : Bool)
  /-- `reading`: what the converter delivers in the slot, the raw count of the bridge on a converted slot,
  the reading of the internal reference on a reference slot; a settling slot delivers none (R109). -/
  | conversionSlot (reading : Word24)
  | tareRangeComplete
  | tareCommit
  | stalenessLost
  | testCompletion
  | endingTimerExpiry
  | autoArm
  | gripsStart
  | periodEnd
  | moveCompletion
  /-- `levels`: the sample of the two channels (R148). -/
  | encoderCount (levels : Channels)
  | gateBoundary
  | intervalTimeout
  | overspeed
  | frameStopAcceptedActive
  | frameStopAcceptedInactive
  | gripsClosingEdge
  | gripsOpeningEdge
  /-- A STATUS frame received with its check correct (R125). -/
  | statusFrame (arms : ArmsState) (fault : Octet)
  /-- A reading frame received with its check correct; `status` is its reading status octet (R125). -/
  | readingFrame (sequence : Octet) (elongation : Word24) (status : Octet)
  | frameDiscarded (reason : DiscardReason)
  | commandSent
  | answerTimeout
  | breakEnd
  /-- `count`: ticks from the first to the fifth falling edge; `character`: the octet the character decodes
  as at a bit time of count / 8 ticks (R126). -/
  | syncCharacter (count : Nat) (character : Octet)
  | syncWindowTimeout
  | wakeRetry
  | operationTimeout
  | sleepTimeout
  | recoveryTimeout
  /-- A sample of the pin: `level` is the level on the pin, true for high (R171, R172). -/
  | inputPinChange (pin : InputPin) (level : Bool)
  | lossOfSupply
  | lineRestedHigh
  deriving DecidableEq, Repr

end Sys2Proof
end

