-- ==== Sys2Proof/Machine/Arith.lean ====
section
/-! DEFINITION. The arithmetic of the manual's conventions (00_scope "Numbers and arithmetic"), the byte order of
bodies (R194) and the two cyclic redundancy checks (R183, R191). -/

namespace Sys2Proof.Machine

/-- A division rounded half away from zero (00_scope). The callers divide by a nonzero value. -/
def roundDiv (n d : Int) : Int :=
  let q : Nat := (2 * n.natAbs + d.natAbs) / (2 * d.natAbs)
  if n < 0 then (if d < 0 then q else -q) else (if d < 0 then -q else q)

/-- `x` brought into `lo` to `hi`: a value beyond either bound becomes that bound. -/
def clampInt (lo hi x : Int) : Int :=
  if x < lo then lo else if hi < x then hi else x

/-- `x` lies in `lo` to `hi`, bounds included. -/
def within (lo hi x : Int) : Bool :=
  decide (lo ≤ x) && decide (x ≤ hi)

/-- Four octets, most significant first (R194). -/
def be4 (w : Word32) : List Octet :=
  [w.extractLsb' 24 8, w.extractLsb' 16 8, w.extractLsb' 8 8, w.extractLsb' 0 8]

/-- A numeric item in four octets, two's complement, most significant first (R194). -/
def num4 (x : Int) : List Octet :=
  be4 (BitVec.ofInt 32 x)

/-- Two octets, unsigned, most significant first (R194). -/
def num2 (x : Int) : List Octet :=
  let w := BitVec.ofInt 16 x
  [w.extractLsb' 8 8, w.extractLsb' 0 8]

/-- One octet (R194). -/
def num1 (x : Nat) : List Octet :=
  [BitVec.ofNat 8 x]

/-- A flag: 1 for true (R194). -/
def flag1 (b : Bool) : List Octet :=
  [if b then 1 else 0]

/-- An optional item: one octet 1 and its octets when present, one octet 0 and as many octets 0 when absent
(R194). -/
def optional (width : Nat) (x : Option (List Octet)) : List Octet :=
  match x with
  | some octets => (1 : Octet) :: octets
  | none => List.replicate (width + 1) 0

/-- One octet fed into the CRC-8 from its most significant bit: polynomial x⁸ + x² + x + 1 (R183). -/
def crc8Step (crc octet : BitVec 8) : BitVec 8 :=
  (List.range 8).foldl (fun c _ => if c.msb then (c <<< 1) ^^^ 0x07 else c <<< 1) (crc ^^^ octet)

/-- The CRC-8 of messages and head frames: initial value 0, no final inversion (R125, R183). -/
def crc8 (octets : List Octet) : BitVec 8 :=
  octets.foldl crc8Step 0

/-- One octet fed into the CRC-16 from its most significant bit: polynomial x¹⁶ + x¹² + x⁵ + 1 (R191). -/
def crc16Step (crc : BitVec 16) (octet : Octet) : BitVec 16 :=
  (List.range 8).foldl (fun c _ => if c.msb then (c <<< 1) ^^^ 0x1021 else c <<< 1)
    (crc ^^^ ((octet.zeroExtend 16) <<< 8))

/-- The CRC-16 of the configuration image: initial value 0xFFFF, no final inversion (R191). -/
def crc16 (octets : List Octet) : BitVec 16 :=
  octets.foldl crc16Step 0xFFFF

end Sys2Proof.Machine
end

