-- ==== Sys2Proof/Config.lean ====
section
/-! DEFINITION. What the part fixes: the times of the manual in ticks of the 10 MHz reference (0.1 µs, 11.10),
the fixed sizes, and the three values the manual leaves open, which have no body. -/

namespace Sys2Proof.Config

/-- A pending reply becomes ready 50 µs after its transaction ended (R182). -/
def replyReadyTicks : Nat := 500
/-- The filter time of FRAME_STOP, 100 µs (R172). -/
def frameStopFilterTicks : Nat := 1000
/-- The filter time of GRIPS_CLOSED, 2 ms (R172). -/
def gripsFilterTicks : Nat := 20000
/-- The ending timer's limit, 3 s (R48). -/
def endingTicks : Nat := 30000000
/-- The answer timer's limit, 5 ms (R128). -/
def answerTicks : Nat := 50000
/-- The sync window after a break, 2 ms (R129, R139). -/
def syncWindowTicks : Nat := 20000
/-- The time from one wake break to the next, 5 ms (R129). -/
def wakeRetryTicks : Nat := 50000
/-- The operation timer's limit, 2 s (R130). -/
def operationTicks : Nat := 20000000
/-- The sleep timer's limit, 10 s (R137). -/
def sleepTicks : Nat := 100000000
/-- The time from one recovery attempt to the next, 100 ms (R139). -/
def recoveryTicks : Nat := 1000000
/-- The interval counter's end, 65,535 µs (R164). -/
def intervalEnd : Nat := 65535
/-- Ticks of the 10 MHz reference in one microsecond of the speed meter's 1 MHz reference (R163). -/
def ticksPerMicro : Nat := 10

/-- The queue's length (R1). -/
def queueSize : Nat := 8
/-- The number of result places (R17). -/
def resultPlaces : Nat := 12
/-- The number of program slots (R11). -/
def programSlots : Nat := 16
/-- The octets a port keeps of one transaction (R180, R181). -/
def inputBufferSize : Nat := 123
/-- The conversions of one tare range (R119). -/
def tareConversions : Nat := 64
/-- The staleness count at which the link is lost (R133). -/
def stalenessLimit : Nat := 8
/-- The entries of the fracture ring (R96). -/
def ringSize : Nat := 8

/-- FREE VALUE. The target in effect that the record and the reply of a JOG carry: R154 lists a target in
effect in every move's record and reply and gives it a value for MOVE_TO and MOVE_BY alone. Applied to the
state's free counter. -/
opaque jogTarget : Nat → Word32

/-- FREE VALUE. Whether an EXT_ATTACH taken in OPENING is answered ACCEPTED (true) or OK (false): R140 lists
the cases of either status and OPENING is in neither list. Applied to the state's free counter. -/
opaque attachInOpeningAccepted : Nat → Bool

/-- FREE VALUE. The four octets that stand for a last speed beyond the signed 32-bit range: R162 allows a gated
speed of up to ±3,276,700,000 nm/s, and R194 and 11.8.5 give such a number no coding in four octets. Applied to
the speed. -/
opaque speedBeyondWord : Int → Word32

end Sys2Proof.Config
end

