-- ==== Sys2Proof/Machine/State.lean ====
section
/-! DEFINITION. The state of the ET416, block by block as the manual's state rules list it (R24, R51, R65,
R81, R103, R123, R147, R160, R171, R180, R191 and the collections of chapter 1), and its value at reset. -/

namespace Sys2Proof.Machine

/-! ## Why a step stops -/

/-- No command of this block ends in a fault: the manual gives every row an effect or leaves the state as it
was, so the type has no constructor (safe: nothing is hidden behind a stop). -/
inductive Fault where
  deriving DecidableEq, Repr

/-- The reasons a command is turned away by the model itself. -/
inductive Refusal where
  /-- Raised by an arm of `exec` whose command has no meaning yet (safe). Every arm has one. -/
  | notModelled (mnemonic : String)
  deriving DecidableEq, Repr

/-! ## Per-port and per-range data -/

/-- One value for each of the three ports (R180). -/
structure PerRole (α : Type) where
  console : α
  cell : α
  quality : α
  deriving DecidableEq, Repr

/-- One value for each of the four load ranges, 0 (widest) to 3 (narrowest) (R103). -/
structure PerRange (α : Type) where
  r0 : α
  r1 : α
  r2 : α
  r3 : α
  deriving DecidableEq, Repr

/-- A set of roles (R18, R20). -/
structure RoleSet where
  console : Bool
  cell : Bool
  quality : Bool
  deriving DecidableEq, Repr

/-! ## Link ports (R180, R184) -/

/-- The reply statuses (R184). -/
inductive Status where
  | ok | accepted | none | notReady
  | checkFailed | lengthError | unknownKind | roleRefused
  | busy | invalidField | notFound | duplicate | full | inUse
  | wrongState | notHolder | alreadyHeld | alreadyWaiting | unreferenced | calibrationInvalid | frameStopped
  deriving DecidableEq, Repr

/-- A reply message before its length octets and its check octet are formed (R184). -/
structure Reply where
  kind : Octet
  status : Status
  body : List Octet
  deriving DecidableEq, Repr

/-- A pending reply with the ticks left until its ready time (R182). -/
structure PendingReply where
  reply : Reply
  wait : Nat
  deriving DecidableEq, Repr

/-- One link port. `notices` is the 32-bit set of 11.4.1; the attention line is active while it is not 0.
`clockingOut` is the message chosen when SEL went low, while a transaction is in progress (R181). -/
structure Port where
  inputBuffer : List Octet
  pendingReply : Option PendingReply
  notices : BitVec 32
  clockingOut : Option Reply
  deriving DecidableEq, Repr

/-! ## Specimen queue (R1, R2) -/

/-- The shape of a specimen with the dimensions that apply to it, in µm (R2). -/
inductive Shape where
  | flat (width thickness : Int)
  | round (diameter : Int)
  deriving DecidableEq, Repr

inductive EntryState where
  | waiting | armed | inTest
  deriving DecidableEq, Repr

/-- A specimen entry (R2). -/
structure SpecimenEntry where
  id : List Octet
  slot : Nat
  shape : Shape
  parallel : Int
  gauge : Int
  area : Int
  state : EntryState
  capture : Option Word32
  deriving DecidableEq, Repr

/-! ## Program table (R11 to R13) -/

inductive StartMode where | console | grips deriving DecidableEq, Repr
inductive GripOpenAction where | hold | abort deriving DecidableEq, Repr
inductive LengthSource where | entered | gripSeparation deriving DecidableEq, Repr
inductive ExtUse where | none | auto deriving DecidableEq, Repr
inductive ModulusMode where | nominal | secant deriving DecidableEq, Repr
inductive SegmentMode where | strainRate | stressRate | crossheadSpeed deriving DecidableEq, Repr
inductive EndEvent where | strain | yieldEnd | extReleased | fracture deriving DecidableEq, Repr

/-- One segment of a program (R13). -/
structure Segment where
  mode : SegmentMode
  rate : Int
  gain : Int
  lead : Int
  endEvent : EndEvent
  endStrain : Int
  deriving DecidableEq, Repr

/-- A program body: the general fields of R12 in their order, then the segments. -/
structure ProgramBody where
  startMode : StartMode
  gripOpen : GripOpenAction
  lengthSource : LengthSource
  initialRange : Fin 4
  approach : Int
  preload : Int
  travelLimit : Int
  extUse : ExtUse
  extGauge : Int
  releaseStrain : Int
  releaseDrop : Int
  modulusMode : ModulusMode
  nominal : Int
  sigmaLo : Int
  sigmaHi : Int
  proofOffset : Int
  yieldDrop : Int
  searchLimit : Int
  transient : Int
  rise : Int
  fractureArm : Int
  fractureDrop : Int
  lowCut : Int
  segments : List Segment
  deriving DecidableEq, Repr

/-- A program slot: VALID with its body or EMPTY, and its in-use count (R11). -/
structure ProgramSlot where
  body : Option ProgramBody
  inUse : Nat
  deriving DecidableEq, Repr

/-! ## Result store (R17, R18) -/

inductive TestOutcome where | complete | aborted deriving DecidableEq, Repr

/-- The abort causes and post-test notes (R18); `endingTimeout` is a note only. -/
inductive Cause where
  | operator | gripsOpened | frameStop | travelLimit | followingError | overspeed
  | loadOverrange | loadReferenceFault | controllerReset | noPreload | endingTimeout
  deriving DecidableEq, Repr

inductive ModulusSource where | nominal | secant | substituted deriving DecidableEq, Repr
inductive StrainSource where | extensometer | crosshead deriving DecidableEq, Repr

/-- The modulus in use and its source (R81). -/
structure Modulus where
  e : Int
  source : ModulusSource
  deriving DecidableEq, Repr

/-- The flags of a result record (R18). -/
structure RecordFlags where
  extLost : Bool
  extAttachFailed : Bool
  extRangeEnd : Bool
  extAtBreak : Bool
  lengthSubstituted : Bool
  modulusSubstituted : Bool
  yieldNotFound : Bool
  deriving DecidableEq, Repr

/-- A result record (R18). -/
structure ResultRecord where
  id : List Octet
  slot : Nat
  outcome : TestOutcome
  cause : Option Cause
  note : Option Cause
  area : Int
  gauge : Int
  parallel : Int
  modulus : Option Modulus
  reh : Option Int
  rel : Option Int
  ae : Option Int
  rp : Option Int
  fmRm : Option (Int × Int)
  ag : Option Int
  elongation : Option Int
  source : Option StrainSource
  rangeSwitches : Nat
  holds : Nat
  flags : RecordFlags
  duration : Nat
  required : RoleSet
  takenBy : RoleSet
  deriving DecidableEq, Repr

/-- The result store: the records, oldest first, whether a place is RESERVED, and the configured readers
(R17, R20). A place is free when it is neither. -/
structure ResultStore where
  records : List ResultRecord
  reserved : Bool
  readers : RoleSet
  deriving DecidableEq, Repr

/-! ## Authority arbiter (R143) -/

inductive Party where | console | cell | sequencer deriving DecidableEq, Repr

structure Arbiter where
  holder : Option Party
  waiting : List Party
  deriving DecidableEq, Repr

/-! ## Crosshead drive (R147, R152, R154, R156) -/

structure DriveConfig where
  step : Int
  vmax : Int
  jogLimit : Int
  lower : Word32
  upper : Word32
  following : Int
  deriving DecidableEq, Repr

/-- A period in progress: its ticks, the ticks elapsed in it and its direction (R147). -/
structure Period where
  ticks : Nat
  elapsed : Nat
  direction : Direction
  deriving DecidableEq, Repr

inductive VelocitySource where | none | move | sequencer deriving DecidableEq, Repr

/-- The kind of a move; a JOG has its direction (R154). -/
inductive MoveKind where
  | moveTo | moveBy | jog (direction : Direction)
  deriving DecidableEq, Repr

inductive MovePhase where | travelling | settling deriving DecidableEq, Repr
inductive MoveEndCause where | limit | fault | frameStop | released | replaced deriving DecidableEq, Repr

structure MoveRecord where
  number : BitVec 16
  kind : MoveKind
  issuer : Role
  target : Word32
  speed : Int
  clamped : Bool
  phase : MovePhase
  deriving DecidableEq, Repr

/-- The last move outcome; `cause` is absent for DONE (R156). -/
structure MoveOutcome where
  number : BitVec 16
  kind : MoveKind
  cause : Option MoveEndCause
  commanded : Word32
  encoder : Word32
  deriving DecidableEq, Repr

inductive DriveFaultKind where | followingError | overspeed deriving DecidableEq, Repr

structure DriveFault where
  kind : DriveFaultKind
  commanded : Word32
  encoder : Word32
  deriving DecidableEq, Repr

/-- The crosshead drive. `channels` is the last sample of ENCA and ENCB (R148); `generator` is the period in progress
while RUNNING, absent when STOPPED. -/
structure Drive where
  channels : Channels
  encoder : Word32
  commanded : Word32
  referenced : Bool
  generator : Option Period
  buffer : Option Nat
  velocity : Int
  source : VelocitySource
  move : Option MoveRecord
  moveCounter : BitVec 16
  lastOutcome : Option MoveOutcome
  lastFault : Option DriveFault
  config : DriveConfig
  deriving DecidableEq, Repr

/-! ## Speed meter (R160, R168) -/

inductive MeterMethod where | gated | interval deriving DecidableEq, Repr

/-- The measurement in flight (R160); an open gate has its length and the boundaries passed since it opened. -/
inductive Measurement where
  | none
  | gateWaiting
  | gateOpen (lengthMs elapsedMs : Nat)
  | intervalWaiting
  | intervalTiming (direction : Direction)
  deriving DecidableEq, Repr

/-- The last measurement with its raw value (R160). -/
inductive LastMeasurement where
  | gated (count : Int) (lengthMs : Nat)
  | interval (micros : Nat)
  | timeout
  deriving DecidableEq, Repr

structure SpeedConfig where
  gate : Nat
  restSpeed : Int
  deriving DecidableEq, Repr

/-- The speed meter; `counter` is the shared 16-bit counter, a signed count or microseconds. -/
structure SpeedMeter where
  method : MeterMethod
  inFlight : Measurement
  counter : Int
  lastSpeed : Int
  last : Option LastMeasurement
  rest : Bool
  lowRun : Nat
  overspeedCount : Nat
  config : SpeedConfig
  deriving DecidableEq, Repr

/-! ## Load unit (R103, R105) -/

structure RangeTable where
  fullScale : Int
  points : List (Int × Int)
  deriving DecidableEq, Repr

structure ReferenceExpectation where
  expected : Int
  tolerance : Int
  deriving DecidableEq, Repr

/-- A force sample: its force or absence, its held mark and the range it was produced on (R111). -/
structure ForceSample where
  force : Option Int
  held : Bool
  range : Fin 4
  deriving DecidableEq, Repr

/-- A tare walk in flight (R103, R119); the new offsets found so far stand in range order. -/
structure TareWalk where
  range : Fin 4
  count : Nat
  sum : Int
  found : List Int
  returnRange : Fin 4
  deriving DecidableEq, Repr

structure LoadUnit where
  slotNumber : BitVec 8
  activeRange : Fin 4
  settling : Bool
  tables : PerRange (Option RangeTable)
  reference : Option ReferenceExpectation
  offsets : PerRange Int
  referenceFault : Bool
  last : ForceSample
  tare : Option TareWalk
  deriving DecidableEq, Repr

/-! ## Extensometer link (R123) -/

inductive LinkState where
  | asleep | waking | ready | closing | streaming | opening | lost
  deriving DecidableEq, Repr

inductive HeadCommand where | closeArms | openArms | streamOn | streamOff | sleep deriving DecidableEq, Repr

/-- On whose behalf a command was handed to the transmit path (R127). -/
inductive CommandOwner where | console | sequencer | link deriving DecidableEq, Repr

structure QueuedCommand where
  command : HeadCommand
  owner : CommandOwner
  deriving DecidableEq, Repr

/-- The shifter: empty, a break, or one command with its try and its answer timer in ticks, absent until the
command's last octet has left (R123, R128). -/
inductive Shifter where
  | empty
  | sendingBreak
  | command (c : QueuedCommand) (secondTry : Bool) (answerTimer : Option Nat)
  deriving DecidableEq, Repr

/-- The latest reading (R123). -/
structure Reading where
  sequence : Octet
  elongation : Int
  arms : ArmsState
  overrange : Bool
  fault : Bool
  deriving DecidableEq, Repr

structure HeadReport where
  arms : ArmsState
  fault : Octet
  deriving DecidableEq, Repr

/-- The wake attempt, 1 to 3, with the ticks since its break began (R123). The link has none outside WAKING (DESIGN
CHOICE, log entry 40). -/
structure WakeAttempt where
  number : Nat
  elapsed : Nat
  deriving DecidableEq, Repr

/-- The extensometer link. Timers hold elapsed ticks and are absent when stopped. `syncWindow` is the time
since the end of a break while the sync is awaited (R126, R129), `discarding` whether octets are being
discarded until the line has rested high (R125). -/
structure ExtLink where
  state : LinkState
  armsUnknown : Bool
  lock : Option Nat
  shifter : Shifter
  holding : Option QueuedCommand
  waiting : List QueuedCommand
  attachPending : Bool
  streamRequested : Bool
  operationTimer : Option Nat
  wake : Option WakeAttempt
  syncWindow : Option Nat
  sleepTimer : Option Nat
  recoveryTimer : Option Nat
  lastSequence : Option Octet
  latest : Option Reading
  staleness : Nat
  headReport : Option HeadReport
  discarding : Bool
  deriving DecidableEq, Repr

/-! ## Strain and stress unit (R65, R67) -/

structure FrameConstants where
  compliance : Int
  datum : Word32
  deriving DecidableEq, Repr

structure StrainUnit where
  area : Option Int
  parallel : Option Int
  extGauge : Option Int
  lengthSubstituted : Bool
  p0 : Option Word32
  fPre : Option Int
  zero : Option Int
  lastUsable : Option Int
  source : Option StrainSource
  delta : Int
  handedOff : Bool
  sigma : Option Int
  epsilon : Option Int
  epsilonE : Option Int
  epsilonC : Option Int
  frame : FrameConstants
  deriving DecidableEq, Repr

/-! ## Test sequencer (R24) -/

inductive SeqState where
  | idle | armed | preload | attach | run | hold | ending
  deriving DecidableEq, Repr

structure Sequencer where
  state : SeqState
  autoArm : Bool
  autoArmPause : Bool
  openSeen : Bool
  segment : Nat
  startPosition : Word32
  yieldEndSeen : Bool
  releaseSeen : Bool
  holds : Nat
  rangeSwitches : Nat
  duration : Nat
  outcome : Option TestOutcome
  cause : Option Cause
  note : Option Cause
  endingTimer : Option Nat
  extLost : Bool
  extAttachFailed : Bool
  extRangeEnd : Bool
  deriving DecidableEq, Repr

/-! ## Rate controller (R51) -/

structure RateController where
  target : Int
  mode : Option SegmentMode
  rate : Int
  gain : Int
  lead : Int
  initPending : Bool
  deriving DecidableEq, Repr

/-! ## Result evaluator (R81) -/

structure StressStrain where
  sigma : Int
  epsilon : Int
  deriving DecidableEq, Repr

/-- Force, stress and strain of one sample: a ring entry, the break sample, or the sample of Fm (R81). -/
structure TestSample where
  force : Int
  sigma : Int
  epsilon : Int
  deriving DecidableEq, Repr

inductive YieldSearch where | active | foundReh | foundRp | ended deriving DecidableEq, Repr
inductive Plateau where | none | opened | closed deriving DecidableEq, Repr

structure Evaluator where
  maximum : Option TestSample
  modulus : Option Modulus
  secant1 : Option StressStrain
  secant2 : Option StressStrain
  search : YieldSearch
  peak : Option StressStrain
  reh : Option StressStrain
  plateau : Plateau
  plateauMin : Option Int
  rel : Option Int
  ae : Option Int
  rp : Option Int
  yieldEndRaised : Bool
  ring : List TestSample
  breakSample : Option TestSample
  modulusSubstituted : Bool
  yieldNotFound : Bool
  extAtBreak : Bool
  detectors : Bool
  deriving DecidableEq, Repr

/-! ## Frame inputs (R171) -/

/-- The frame inputs. A filter is idle (absent) or timing toward the level other than the accepted one, with
the ticks the pin has held it. `true` is ACTIVE. -/
structure FrameInputs where
  frameStop : Bool
  frameStopFilter : Option Nat
  latch : Bool
  grips : Bool
  gripsFilter : Option Nat
  deriving DecidableEq, Repr

/-! ## Configuration store (R191, R192) -/

/-- The items of the configuration image (R191). -/
structure ConfigItems where
  drive : DriveConfig
  speed : SpeedConfig
  tables : PerRange (Option RangeTable)
  reference : Option ReferenceExpectation
  frame : FrameConstants
  programs : List (Option ProgramBody)
  readers : RoleSet
  autoArm : Bool
  deriving DecidableEq, Repr

/-- The nonvolatile image: its items and the CRC-16 written with them (R191). -/
structure ConfigImage where
  items : ConfigItems
  crc : BitVec 16
  deriving DecidableEq, Repr

/-- The configuration store: the image, and the copy being written while a store is in flight (R192). -/
structure ConfigStore where
  image : ConfigImage
  inFlight : Option ConfigItems
  deriving DecidableEq, Repr

/-- The supply: off, on with the image read in progress (R193), or on and running. -/
inductive Power where | off | loading | running deriving DecidableEq, Repr

/-! ## The state -/

/-- The whole part. `refPhase`, `freeCount` and `pending` are the model's own: the tick within the current
microsecond of the 1 MHz reference, the number of free values used so far, and the queue of commands. -/
structure State where
  power : Power
  ports : PerRole Port
  queue : List SpecimenEntry
  programs : List ProgramSlot
  results : ResultStore
  arbiter : Arbiter
  drive : Drive
  meter : SpeedMeter
  load : LoadUnit
  link : ExtLink
  strain : StrainUnit
  seq : Sequencer
  rate : RateController
  eval : Evaluator
  inputs : FrameInputs
  config : ConfigStore
  refPhase : Nat
  freeCount : Nat
  pending : List Instr
  deriving DecidableEq, Repr

/-! ## Reset -/

/-- Every item of R191 at the default it takes when the image fails its check. -/
def ConfigItems.defaults : ConfigItems where
  drive := { step := 1, vmax := 1000000, jogLimit := 200000, lower := 0, upper := 15000000, following := 20000 }
  speed := { gate := 4, restSpeed := 2000 }
  tables := { r0 := none, r1 := none, r2 := none, r3 := none }
  reference := none
  frame := { compliance := 0, datum := 0 }
  programs := List.replicate 16 none
  readers := { console := true, cell := false, quality := true }
  autoArm := false

/-- The test items of the strain and stress unit at their cleared values, with the frame constants given
(R65). -/
def StrainUnit.cleared (frame : FrameConstants) : StrainUnit where
  area := none
  parallel := none
  extGauge := none
  lengthSubstituted := false
  p0 := none
  fPre := none
  zero := none
  lastUsable := none
  source := none
  delta := 0
  handedOff := false
  sigma := none
  epsilon := none
  epsilonE := none
  epsilonC := none
  frame := frame

/-- The rate controller's cleared state (R51). -/
def RateController.cleared : RateController where
  target := 0
  mode := none
  rate := 0
  gain := 0
  lead := 0
  initPending := false

/-- The result evaluator's cleared state (R81). -/
def Evaluator.cleared : Evaluator where
  maximum := none
  modulus := none
  secant1 := none
  secant2 := none
  search := .active
  peak := none
  reh := none
  plateau := .none
  plateauMin := none
  rel := none
  ae := none
  rp := none
  yieldEndRaised := false
  ring := []
  breakSample := none
  modulusSubstituted := false
  yieldNotFound := false
  extAtBreak := false
  detectors := false

/-- The sequencer in IDLE with everything of a test cleared (R50). -/
def Sequencer.cleared (autoArm : Bool) : Sequencer where
  state := .idle
  autoArm := autoArm
  autoArmPause := false
  openSeen := false
  segment := 1
  startPosition := 0
  yieldEndSeen := false
  releaseSeen := false
  holds := 0
  rangeSwitches := 0
  duration := 0
  outcome := none
  cause := none
  note := none
  endingTimer := none
  extLost := false
  extAttachFailed := false
  extRangeEnd := false

/-- A port at the end of the image load, with the notice set given (R193). -/
def Port.afterLoad (notices : BitVec 32) : Port where
  inputBuffer := []
  pendingReply := none
  notices := notices
  clockingOut := none

/-- The part right after power-on: the image read has ended and the image has failed its check, so that every
item of R191 has its default and the notice sets are POWER_ON and CONFIG_DEFAULTED (R193; DESIGN CHOICE, log
entry 3: the manual gives no contents of the image a new part has). The other values are those of R10, R23,
R50, R51, R65, R81, R122, R142, R159, R170 and R179 after power-on; the channels' last sample is low (DESIGN
CHOICE, log entry 39), and the wake attempt, for which R142 has no row, is absent (DESIGN CHOICE, log entry 40). -/
def State.reset : State where
  power := .running
  ports := { console := Port.afterLoad 5, cell := Port.afterLoad 5, quality := Port.afterLoad 5 }
  queue := []
  programs := List.replicate 16 { body := none, inUse := 0 }
  results := { records := [], reserved := false, readers := ConfigItems.defaults.readers }
  arbiter := { holder := none, waiting := [] }
  drive :=
    { channels := ⟨false, false⟩, encoder := 0, commanded := 0, referenced := false, generator := none, buffer := none, velocity := 0
      source := .none, move := none, moveCounter := 0, lastOutcome := none, lastFault := none
      config := ConfigItems.defaults.drive }
  meter :=
    { method := .gated, inFlight := .none, counter := 0, lastSpeed := 0, last := none, rest := false
      lowRun := 0, overspeedCount := 0, config := ConfigItems.defaults.speed }
  load :=
    { slotNumber := 0, activeRange := 0, settling := true, tables := ConfigItems.defaults.tables
      reference := none, offsets := { r0 := 0, r1 := 0, r2 := 0, r3 := 0 }, referenceFault := false
      last := { force := some 0, held := true, range := 0 }, tare := none }
  link :=
    { state := .asleep, armsUnknown := false, lock := none, shifter := .empty, holding := none, waiting := []
      attachPending := false, streamRequested := false, operationTimer := none, wake := none
      syncWindow := none, sleepTimer := none, recoveryTimer := none, lastSequence := none, latest := none
      staleness := 0, headReport := none, discarding := false }
  strain := StrainUnit.cleared ConfigItems.defaults.frame
  seq := Sequencer.cleared false
  rate := RateController.cleared
  eval := Evaluator.cleared
  inputs := { frameStop := true, frameStopFilter := none, latch := true, grips := false, gripsFilter := none }
  config := { image := { items := ConfigItems.defaults, crc := 0 }, inFlight := none }
  refPhase := 0
  freeCount := 0
  pending := []

end Sys2Proof.Machine
end

