-- ==== Sys2Proof/Machine/Operands.lean ====
section
/-! DEFINITION. The operand forms of the requests: the fields read from a body (R194, 11.8), the enumeration codes
of 11.8.1, and the checks of a program body (R12, R13) and of a range table (R106). -/

namespace Sys2Proof.Machine

/-! ## Reading a body -/

/-- The one-octet field at octet `i`. -/
def field1 (b : List Octet) (i : Nat) : Nat :=
  (b.getD i 0).toNat

/-- The two-octet field at octet `i`, unsigned, most significant octet first (R194). -/
def field2 (b : List Octet) (i : Nat) : Int :=
  (b.getD i 0).toNat * 256 + (b.getD (i + 1) 0).toNat

/-- The four octets at octet `i` as a word, most significant octet first (R194). -/
def word4 (b : List Octet) (i : Nat) : Word32 :=
  b.getD i 0 ++ b.getD (i + 1) 0 ++ b.getD (i + 2) 0 ++ b.getD (i + 3) 0

/-- The four-octet field at octet `i`, two's complement (R194). -/
def field4 (b : List Octet) (i : Nat) : Int :=
  (word4 b i).toInt

/-! ## Enumeration codes (11.8.1) -/

/-- The status codes (R184). -/
def Status.code : Status → Octet
  | .ok => 0x00 | .accepted => 0x01 | .none => 0x02 | .notReady => 0x03
  | .checkFailed => 0x10 | .lengthError => 0x11 | .unknownKind => 0x12 | .roleRefused => 0x13
  | .busy => 0x20 | .invalidField => 0x21 | .notFound => 0x22 | .duplicate => 0x23
  | .full => 0x24 | .inUse => 0x25 | .wrongState => 0x26 | .notHolder => 0x27
  | .alreadyHeld => 0x28 | .alreadyWaiting => 0x29 | .unreferenced => 0x2A
  | .calibrationInvalid => 0x2B | .frameStopped => 0x2C

def EntryState.code : EntryState → Nat
  | .waiting => 0 | .armed => 1 | .inTest => 2

def StartMode.code : StartMode → Nat | .console => 0 | .grips => 1
def StartMode.ofCode (n : Nat) : StartMode := if n = 0 then .console else .grips
def GripOpenAction.code : GripOpenAction → Nat | .hold => 0 | .abort => 1
def GripOpenAction.ofCode (n : Nat) : GripOpenAction := if n = 0 then .hold else .abort
def LengthSource.code : LengthSource → Nat | .entered => 0 | .gripSeparation => 1
def LengthSource.ofCode (n : Nat) : LengthSource := if n = 0 then .entered else .gripSeparation
def ExtUse.code : ExtUse → Nat | .none => 0 | .auto => 1
def ExtUse.ofCode (n : Nat) : ExtUse := if n = 0 then .none else .auto
def ModulusMode.code : ModulusMode → Nat | .nominal => 0 | .secant => 1
def ModulusMode.ofCode (n : Nat) : ModulusMode := if n = 0 then .nominal else .secant

def SegmentMode.code : SegmentMode → Nat
  | .strainRate => 0 | .stressRate => 1 | .crossheadSpeed => 2
def SegmentMode.ofCode (n : Nat) : SegmentMode :=
  if n = 0 then .strainRate else if n = 1 then .stressRate else .crossheadSpeed

def EndEvent.code : EndEvent → Nat
  | .strain => 0 | .yieldEnd => 1 | .extReleased => 2 | .fracture => 3
def EndEvent.ofCode (n : Nat) : EndEvent :=
  if n = 0 then .strain else if n = 1 then .yieldEnd else if n = 2 then .extReleased else .fracture

def TestOutcome.code : TestOutcome → Nat | .complete => 0 | .aborted => 1

/-- The abort cause and note codes; code 9 is not used (11.8.1). -/
def Cause.code : Cause → Nat
  | .operator => 1 | .gripsOpened => 2 | .frameStop => 3 | .travelLimit => 4 | .followingError => 5
  | .overspeed => 6 | .loadOverrange => 7 | .loadReferenceFault => 8 | .controllerReset => 10
  | .noPreload => 11 | .endingTimeout => 12

def ModulusSource.code : ModulusSource → Nat | .nominal => 0 | .secant => 1 | .substituted => 2
def StrainSource.code : StrainSource → Nat | .extensometer => 0 | .crosshead => 1

def SeqState.code : SeqState → Nat
  | .idle => 0 | .armed => 1 | .preload => 2 | .attach => 3 | .run => 4 | .hold => 5 | .ending => 6

def LinkState.code : LinkState → Nat
  | .asleep => 0 | .waking => 1 | .ready => 2 | .closing => 3 | .streaming => 4 | .opening => 5 | .lost => 6

def Party.code : Party → Nat | .console => 1 | .cell => 2 | .sequencer => 3

/-- The authority holder, none 0 (11.8.1). -/
def holderCode : Option Party → Nat
  | none => 0
  | some p => p.code

/-- The issuing port of a move, coded as the authority holder (11.8.1). No move is issued by QUALITY. -/
def issuerCode : Role → Nat | .console => 1 | .cell => 2 | .quality => 0

def directionCode : Direction → Nat | .opening => 0 | .closing => 1

/-- The direction a JOG names: OPEN 0, CLOSE 1, and no other octet (R154, 11.8.1). -/
def directionOfOctet (o : Octet) : Option Direction :=
  if o = 0 then some .opening else if o = 1 then some .closing else none

/-- The setting of SET_AUTO_ARM: OFF 0, ON 1, and no other octet (R26, 11.8.1). -/
def autoArmOfOctet (o : Octet) : Option Bool :=
  if o = 0 then some false else if o = 1 then some true else none

def MoveKind.code : MoveKind → Nat | .moveTo => 0 | .moveBy => 1 | .jog _ => 2
def MovePhase.code : MovePhase → Nat | .travelling => 0 | .settling => 1

/-- The move end cause, sent as 0 for DONE (11.8.1). -/
def moveEndCauseCode : Option MoveEndCause → Nat
  | none => 0 | some .limit => 0 | some .fault => 1 | some .frameStop => 2 | some .released => 3
  | some .replaced => 4

def VelocitySource.code : VelocitySource → Nat | .none => 0 | .move => 1 | .sequencer => 2
def DriveFaultKind.code : DriveFaultKind → Nat | .followingError => 0 | .overspeed => 1
def MeterMethod.code : MeterMethod → Nat | .gated => 0 | .interval => 1

def Measurement.code : Measurement → Nat
  | .none => 0 | .gateWaiting => 1 | .gateOpen _ _ => 2 | .intervalWaiting => 3 | .intervalTiming _ => 4

def armsCode : ArmsState → Nat | .opened => 0 | .closing => 1 | .closed => 2 | .opening => 3

/-- The arms state in bits 1 to 0 of a reading status octet (R125). -/
def armsOfStatus (status : Octet) : ArmsState :=
  match (status &&& 3).toNat with
  | 0 => .opened
  | 1 => .closing
  | 2 => .closed
  | _ => .opening

/-! ## Role sets (R18, R20) -/

def RoleSet.empty : RoleSet := { console := false, cell := false, quality := false }

def RoleSet.mem (s : RoleSet) : Role → Bool
  | .console => s.console
  | .cell => s.cell
  | .quality => s.quality

def RoleSet.add (s : RoleSet) : Role → RoleSet
  | .console => { s with console := true }
  | .cell => { s with cell := true }
  | .quality => { s with quality := true }

/-- Every role of `t` is in `s`. -/
def RoleSet.contains (s t : RoleSet) : Bool :=
  (!t.console || s.console) && (!t.cell || s.cell) && (!t.quality || s.quality)

/-- A set with bit 0 for CONSOLE, bit 1 for CELL and bit 2 for QUALITY (R194). -/
def RoleSet.code (s : RoleSet) : Nat :=
  (if s.console then 1 else 0) + (if s.cell then 2 else 0) + (if s.quality then 4 else 0)

/-- The sets SET_RESULT_READERS accepts: 0x01, 0x04 and 0x05 (R20). -/
def RoleSet.ofReaders (o : Octet) : Option RoleSet :=
  if o = 0x01 then some { console := true, cell := false, quality := false }
  else if o = 0x04 then some { console := false, cell := false, quality := true }
  else if o = 0x05 then some { console := true, cell := false, quality := true }
  else none

/-! ## Per-role and per-range values -/

/-- The value of role `p`. -/
def PerRole.get {α : Type} (x : PerRole α) : Role → α
  | .console => x.console
  | .cell => x.cell
  | .quality => x.quality

/-- `x` with the value of role `p` replaced. -/
def PerRole.set {α : Type} (x : PerRole α) (p : Role) (v : α) : PerRole α :=
  match p with
  | .console => { x with console := v }
  | .cell => { x with cell := v }
  | .quality => { x with quality := v }

/-- The value of range `k`. -/
def PerRange.get {α : Type} (x : PerRange α) (k : Fin 4) : α :=
  match k with
  | 0 => x.r0
  | 1 => x.r1
  | 2 => x.r2
  | 3 => x.r3

/-- `x` with the value of range `k` replaced. -/
def PerRange.set {α : Type} (x : PerRange α) (k : Fin 4) (v : α) : PerRange α :=
  match k with
  | 0 => { x with r0 := v }
  | 1 => { x with r1 := v }
  | 2 => { x with r2 := v }
  | 3 => { x with r3 := v }

/-- The four values in range order. -/
def PerRange.toList {α : Type} (x : PerRange α) : List α :=
  [x.r0, x.r1, x.r2, x.r3]

/-! ## Checks by index -/

/-- The lowest failing index of checks listed in ascending order of their indices (R3, R12, R106, R154). -/
def lowestFailing : List (Nat × Bool) → Option Nat
  | [] => none
  | (i, passes) :: rest => if passes then lowestFailing rest else some i

/-! ## Specimens (R2, R3, R66) -/

/-- A specimen ID is well formed: each character in 0x20 to 0x7E and not all spaces (R2, R3 check 2). -/
def idWellFormed (id : List Octet) : Bool :=
  id.all (fun c => decide (0x20 ≤ c.toNat) && decide (c.toNat ≤ 0x7E)) && id.any (fun c => c != 0x20)

/-- The shape an ENQUEUE names, with the dimensions that apply to it: FLAT 0, ROUND 1 (11.8.1). The others
are ignored and discarded (R2). -/
def Shape.ofFields (shape : Octet) (width thickness diameter : Int) : Option Shape :=
  if shape = 0 then some (.flat width thickness) else if shape = 1 then some (.round diameter) else none

/-- The area rule (R66), in area units. -/
def Shape.area : Shape → Int
  | .flat w t => roundDiv (w * t) 1000
  | .round d => roundDiv (d * d * 785398163) 1000000000000

/-- The range checks of the dimensions that apply, of Lc and of L0, by index (R2, R3 check 7). -/
def dimensionChecks (shape : Shape) (parallel gauge : Int) : List (Nat × Bool) :=
  (match shape with
   | .flat w t => [(4, within 1000 100000 w), (5, within 100 60000 t)]
   | .round d => [(6, within 2000 50000 d)])
  ++ [(7, within 10000 400000 parallel), (8, within 10000 400000 gauge)]

/-! ## Program bodies (R12, R13, 11.8.3) -/

/-- Octet of segment `s` (1 to 4) in a program body (11.8.3). -/
def segmentOctet (s : Nat) : Nat := 59 + 14 * (s - 1)

/-- The length of a program body of `s` segments (11.8.3). -/
def bodyLength (s : Nat) : Nat := 59 + 14 * s

/-- The full scale of range `k` when its table is written (R12). -/
def fullScaleOf (tables : PerRange (Option RangeTable)) (k : Nat) : Option Int :=
  if h : k < 4 then (tables.get ⟨k, h⟩).map (·.fullScale) else none

/-- The checks of the general fields, index 1 to 24 (R12). `b` is the program body, at least 73 octets. The
length of the body is judged at index 24 (R13). -/
def generalChecks (tables : PerRange (Option RangeTable)) (b : List Octet) : List (Nat × Bool) :=
  let isAuto := field1 b 14 == 1
  let count := field1 b 58
  [ (1, decide (field1 b 0 ≤ 1)),
    (2, decide (field1 b 1 ≤ 1)),
    (3, decide (field1 b 2 ≤ 1)),
    (4, decide (field1 b 3 ≤ 3)),
    (5, within 1000 1000000 (field4 b 4)),
    (6, match fullScaleOf tables (field1 b 3) with
        | some fs => within 1 (roundDiv fs 5) (field4 b 8)
        | none => false),
    (7, within 100 50000 (field2 b 12)),
    (8, decide (field1 b 14 ≤ 1)),
    (9, !isAuto || within 10000 200000 (field4 b 15)),
    (10, !isAuto || within 1000 600000 (field4 b 19)),
    (11, !isAuto || within 0 500 (field2 b 23)),
    (12, decide (field1 b 25 ≤ 1)),
    (13, within 50000 400000 (field4 b 26)),
    (14, within 100 200000 (field4 b 30)),
    (15, within 100 200000 (field4 b 34) && decide (field4 b 30 < field4 b 34)),
    (16, within 100 20000 (field2 b 38)),
    (17, within 10 10000 (field2 b 40)),
    (18, within 1000 100000 (field4 b 42)),
    (19, within 0 50000 (field2 b 46)),
    (20, within 10 10000 (field2 b 48)),
    (21, match fullScaleOf tables 0 with
         | some fs => within 1 fs (field4 b 50)
         | none => false),
    (22, within 10 900 (field2 b 54)),
    (23, within 1 500 (field2 b 56)),
    (24, within 1 4 count && b.length == bodyLength count) ]

/-- The range of a segment's rate, by its mode (R13). -/
def rateInRange (mode : Nat) (rate : Int) : Bool :=
  if mode = 0 then within 1 20000 rate
  else if mode = 1 then within 1 10000 rate
  else within 1000 2000000 rate

/-- The checks of segment `s` of `count`, its fields at indices 24 + 6 × (s − 1) + 1 to 6 (R13). -/
def segmentChecks (b : List Octet) (count s : Nat) : List (Nat × Bool) :=
  let o := segmentOctet s
  let base := 24 + 6 * (s - 1)
  let endEvent := field1 b (o + 9)
  [ (base + 1, decide (field1 b o ≤ 2)),
    (base + 2, rateInRange (field1 b o) (field4 b (o + 1))),
    (base + 3, within 0 65535 (field2 b (o + 5))),
    (base + 4, within 10 50000 (field2 b (o + 7))),
    (base + 5, decide (endEvent ≤ 3) && ((s == count) == (endEvent == 3))
        && (endEvent != 2 || field1 b 14 == 1)),
    (base + 6, endEvent != 0 || within 1 1000000 (field4 b (o + 10))) ]

/-- The lowest failing index of a program body, or none (R12 to R14). -/
def programFailure (tables : PerRange (Option RangeTable)) (b : List Octet) : Option Nat :=
  let count := field1 b 58
  match lowestFailing (generalChecks tables b) with
  | some i => some i
  | none => lowestFailing ((List.range count).flatMap fun s => segmentChecks b count (s + 1))

/-- Segment `s` of a program body (11.8.3). -/
def segmentOfOctets (b : List Octet) (s : Nat) : Segment :=
  let o := segmentOctet s
  { mode := SegmentMode.ofCode (field1 b o)
    rate := field4 b (o + 1)
    gain := field2 b (o + 5)
    lead := field2 b (o + 7)
    endEvent := EndEvent.ofCode (field1 b (o + 9))
    endStrain := field4 b (o + 10) }

/-- The load range an octet names; the checks refuse an octet above 3 first. -/
def rangeOfNat (n : Nat) : Fin 4 := ⟨n % 4, Nat.mod_lt n (by decide)⟩

/-- A checked program body (11.8.3). -/
def programOfOctets (b : List Octet) : ProgramBody where
  startMode := StartMode.ofCode (field1 b 0)
  gripOpen := GripOpenAction.ofCode (field1 b 1)
  lengthSource := LengthSource.ofCode (field1 b 2)
  initialRange := rangeOfNat (field1 b 3)
  approach := field4 b 4
  preload := field4 b 8
  travelLimit := field2 b 12
  extUse := ExtUse.ofCode (field1 b 14)
  extGauge := field4 b 15
  releaseStrain := field4 b 19
  releaseDrop := field2 b 23
  modulusMode := ModulusMode.ofCode (field1 b 25)
  nominal := field4 b 26
  sigmaLo := field4 b 30
  sigmaHi := field4 b 34
  proofOffset := field2 b 38
  yieldDrop := field2 b 40
  searchLimit := field4 b 42
  transient := field2 b 46
  rise := field2 b 48
  fractureArm := field4 b 50
  fractureDrop := field2 b 54
  lowCut := field2 b 56
  segments := (List.range (field1 b 58)).map fun s => segmentOfOctets b (s + 1)

/-! ## Range tables (R105, R106) -/

/-- The points of a WRITE_CALIBRATION body: range, full scale, count, then c and F of each point (R106). -/
def pointsOfOctets (b : List Octet) (n : Nat) : List (Int × Int) :=
  (List.range n).map fun i => (field4 b (6 + 8 * i), field4 b (10 + 8 * i))

/-- The full-scale check of R106: below every written wider range's, above every written narrower range's. -/
def fullScaleFits (tables : PerRange (Option RangeTable)) (k : Fin 4) (fs : Int) : Bool :=
  (List.finRange 4).all fun j =>
    match tables.get j with
    | none => true
    | some t => if j < k then decide (fs < t.fullScale) else if k < j then decide (t.fullScale < fs) else true

/-- The checks of point `i` and those after it, `i` from 1: index 2 + 2i and 3 + 2i (R106). -/
def pointChecks : Nat → Option (Int × Int) → List (Int × Int) → List (Nat × Bool)
  | _, _, [] => []
  | i, before, (c, f) :: rest =>
    (2 + 2 * i, within (-16777215) 16777215 c && (match before with | none => true | some q => decide (q.1 < c)))
      :: (3 + 2 * i, within (-10000000) 10000000 f && (match before with | none => true | some q => decide (q.2 < f)))
      :: pointChecks (i + 1) (some (c, f)) rest

/-- The lowest failing index of a WRITE_CALIBRATION body, or none (R106). -/
def calibrationFailure (tables : PerRange (Option RangeTable)) (b : List Octet) : Option Nat :=
  let k := field1 b 0
  let fs := field4 b 1
  let n := field1 b 5
  lowestFailing <|
    [ (1, decide (k ≤ 3)),
      (2, within 1 10000000 fs && fullScaleFits tables (rangeOfNat k) fs),
      (3, within 2 8 n && b.length == 6 + 8 * n) ]
    ++ pointChecks 1 none (pointsOfOctets b n)

/-! ## Moves and configurations -/

/-- The checks of a drive configuration's fields (R152). -/
def driveConfigChecks (c : DriveConfig) : List (Nat × Bool) :=
  [ (1, within 1 100 c.step),
    (2, within 1000 2000000 c.vmax),
    (3, within 1000 500000 c.jogLimit),
    (5, decide (c.lower.toInt < c.upper.toInt)),
    (6, within 10 100000 c.following) ]

/-- The checks of a speed configuration's fields (R168). -/
def speedConfigChecks (c : SpeedConfig) : List (Nat × Bool) :=
  [ (1, c.gate == 1 || c.gate == 4 || c.gate == 8),
    (2, within 100 50000 c.restSpeed) ]

/-- The calibration is VALID when all four tables and
the reference expectation are written, and INVALID otherwise (R105). -/
def LoadUnit.calibrationValid (l : LoadUnit) : Bool :=
  l.tables.r0.isSome && l.tables.r1.isSome && l.tables.r2.isSome && l.tables.r3.isSome && l.reference.isSome

end Sys2Proof.Machine
end

