-- ==== Sys2Proof/Machine/Bodies.lean ====
section
/-! DEFINITION. The bodies of replies, octet by octet: the layouts of 11.8 and, where 11.8 gives none, the items of
the owning rule in that rule's order, coded as R194 gives. The octets of the configuration image stand at the end. -/

namespace Sys2Proof.Machine

/-! ## Layouts of 11.8 -/

/-- A specimen entry in 44 octets (11.8.2). -/
def entryOctets (e : SpecimenEntry) : List Octet :=
  let (shape, width, thickness, diameter) := match e.shape with
    | .flat w t => ((0 : Nat), w, t, (0 : Int))
    | .round d => ((1 : Nat), (0 : Int), (0 : Int), d)
  e.id ++ num1 e.slot ++ num1 shape ++ num4 width ++ num4 thickness ++ num4 diameter
    ++ num4 e.parallel ++ num4 e.gauge ++ num4 e.area ++ num1 e.state.code
    ++ optional 4 (e.capture.map be4)

/-- The queue: one count octet and the entries from the head (R6, 11.8.2). -/
def queueOctets (q : List SpecimenEntry) : List Octet :=
  num1 q.length ++ q.flatMap entryOctets

/-- One segment in 14 octets (11.8.3). -/
def segmentOctets (g : Segment) : List Octet :=
  num1 g.mode.code ++ num4 g.rate ++ num2 g.gain ++ num2 g.lead ++ num1 g.endEvent.code ++ num4 g.endStrain

/-- A program body in 59 + 14 × s octets (11.8.3). -/
def programOctets (b : ProgramBody) : List Octet :=
  num1 b.startMode.code ++ num1 b.gripOpen.code ++ num1 b.lengthSource.code ++ num1 b.initialRange.val
    ++ num4 b.approach ++ num4 b.preload ++ num2 b.travelLimit ++ num1 b.extUse.code
    ++ num4 b.extGauge ++ num4 b.releaseStrain ++ num2 b.releaseDrop ++ num1 b.modulusMode.code
    ++ num4 b.nominal ++ num4 b.sigmaLo ++ num4 b.sigmaHi ++ num2 b.proofOffset ++ num2 b.yieldDrop
    ++ num4 b.searchLimit ++ num2 b.transient ++ num2 b.rise ++ num4 b.fractureArm ++ num2 b.fractureDrop
    ++ num2 b.lowCut ++ num1 b.segments.length ++ b.segments.flatMap segmentOctets

/-- READ_PROGRAM's body: slot state, in-use count, and the program body of a VALID slot (R16, 11.8.3). -/
def slotOctets (s : ProgramSlot) : List Octet :=
  num1 (if s.body.isSome then 1 else 0) ++ num1 s.inUse
    ++ (match s.body with | some b => programOctets b | none => [])

/-- An absent field of the record is sent as 0 (11.8.4). -/
def numOrZero (x : Option Int) : List Octet := num4 (x.getD 0)

/-- The presence mask of a record (11.8.4). -/
def presenceMask (r : ResultRecord) : Nat :=
  let bit (n : Nat) (p : Bool) : Nat := if p then 2 ^ n else 0
  bit 0 r.cause.isSome + bit 1 r.note.isSome + bit 2 r.modulus.isSome + bit 3 r.reh.isSome
    + bit 4 r.rel.isSome + bit 5 r.ae.isSome + bit 6 r.rp.isSome + bit 7 r.fmRm.isSome
    + bit 8 r.ag.isSome + bit 9 r.elongation.isSome + bit 10 r.source.isSome

/-- The flags octet of a record (11.8.4). -/
def flagsOctet (f : RecordFlags) : Nat :=
  let bit (n : Nat) (p : Bool) : Nat := if p then 2 ^ n else 0
  bit 0 f.extLost + bit 1 f.extAttachFailed + bit 2 f.extRangeEnd + bit 3 f.extAtBreak
    + bit 4 f.lengthSubstituted + bit 5 f.modulusSubstituted + bit 6 f.yieldNotFound

/-- A code, or 0 when absent. -/
def codeOrZero {α : Type} (code : α → Nat) (x : Option α) : List Octet :=
  num1 (match x with | some v => code v | none => 0)

/-- A result record in 78 octets (11.8.4). -/
def recordOctets (r : ResultRecord) : List Octet :=
  r.id ++ num1 r.slot ++ num1 r.outcome.code ++ num2 (presenceMask r)
    ++ codeOrZero Cause.code r.cause ++ codeOrZero Cause.code r.note
    ++ num4 r.area ++ num4 r.gauge ++ num4 r.parallel
    ++ numOrZero (r.modulus.map (·.e)) ++ codeOrZero (fun m : Modulus => m.source.code) r.modulus
    ++ numOrZero r.reh ++ numOrZero r.rel ++ numOrZero r.ae ++ numOrZero r.rp
    ++ numOrZero (r.fmRm.map (·.1)) ++ numOrZero (r.fmRm.map (·.2)) ++ numOrZero r.ag
    ++ numOrZero r.elongation ++ codeOrZero StrainSource.code r.source
    ++ num1 r.rangeSwitches ++ num2 r.holds ++ num1 (flagsOctet r.flags) ++ num4 r.duration
    ++ num1 r.required.code ++ num1 r.takenBy.code

/-- A speed in four octets; beyond the signed 32-bit range R194 gives it no coding, and the octets are a free value
(DESIGN CHOICE, log entry 38). -/
def speedOctets (v : Int) : List Octet :=
  if within (-2147483648) 2147483647 v then num4 v else be4 (Config.speedBeyondWord v)

/-- The live snapshot (R188, 11.8.5). The segment index is 0 in IDLE and ARMED. -/
def liveOctets (s : State) : List Octet :=
  let bit (n : Nat) (p : Bool) : Nat := if p then 2 ^ n else 0
  let bits := bit 0 s.load.last.force.isSome + bit 1 s.load.last.held + bit 2 s.strain.sigma.isSome
    + bit 3 s.strain.epsilon.isSome + bit 4 s.strain.source.isSome + bit 5 s.drive.referenced
    + bit 6 s.meter.rest + bit 7 s.inputs.latch
  let segment := if s.seq.state = .idle ∨ s.seq.state = .armed then 0 else s.seq.segment
  numOrZero s.load.last.force ++ num1 bits ++ numOrZero s.strain.sigma ++ numOrZero s.strain.epsilon
    ++ codeOrZero StrainSource.code s.strain.source ++ be4 s.drive.encoder ++ be4 s.drive.commanded
    ++ speedOctets s.meter.lastSpeed ++ num1 s.seq.state.code ++ num1 segment ++ num1 s.link.state.code
    ++ num1 s.load.activeRange.val ++ num1 s.load.last.range.val ++ num1 (holderCode s.arbiter.holder)

/-! ## Bodies coded by R194 alone -/

/-- The items of the drive configuration, in R152's order. -/
def driveConfigOctets (c : DriveConfig) : List Octet :=
  num4 c.step ++ num4 c.vmax ++ num4 c.jogLimit ++ be4 c.lower ++ be4 c.upper ++ num4 c.following

/-- READ_DRIVE's body (R158). A STOPPED generator has no period in progress and its items are sent as 0. -/
def driveOctets (d : Drive) (a : Arbiter) : List Octet :=
  be4 d.encoder ++ be4 d.commanded ++ flag1 d.referenced
    ++ (match d.generator with
        | none => num1 0 ++ num4 0 ++ num1 0
        | some g => num1 1 ++ num4 g.ticks ++ num1 (directionCode g.direction))
    ++ optional 4 (d.buffer.map fun n => num4 n)
    ++ num4 d.velocity ++ num1 d.source.code
    ++ optional 16 (d.move.map fun m =>
        num4 m.number.toNat ++ num1 m.kind.code ++ num1 (issuerCode m.issuer) ++ be4 m.target ++ num4 m.speed
          ++ flag1 m.clamped ++ num1 m.phase.code)
    ++ optional 15 (d.lastOutcome.map fun o =>
        num4 o.number.toNat ++ num1 o.kind.code ++ num1 (if o.cause.isSome then 1 else 0)
          ++ num1 (moveEndCauseCode o.cause) ++ be4 o.commanded ++ be4 o.encoder)
    ++ optional 9 (d.lastFault.map fun f => num1 f.kind.code ++ be4 f.commanded ++ be4 f.encoder)
    ++ driveConfigOctets d.config
    ++ num1 (holderCode a.holder)
    ++ num1 a.waiting.length ++ a.waiting.flatMap fun p => num1 p.code

/-- The meter configuration, in R168's order. -/
def speedConfigOctets (c : SpeedConfig) : List Octet :=
  num4 c.gate ++ num4 c.restSpeed

/-- READ_SPEED_METER's body (R169). -/
def meterOctets (m : SpeedMeter) : List Octet :=
  num1 m.method.code ++ num1 m.inFlight.code ++ speedOctets m.lastSpeed
    ++ optional 9 (m.last.map fun l => match l with
        | .gated count length => num1 0 ++ num4 count ++ num4 length
        | .interval micros => num1 1 ++ num4 micros ++ num4 0
        | .timeout => num1 2 ++ num4 0 ++ num4 0)
    ++ flag1 m.rest ++ num1 m.lowRun ++ num1 m.overspeedCount ++ speedConfigOctets m.config

/-- A range table, optional, with the list of its points (R108). -/
def tableOctets (t : Option RangeTable) : List Octet :=
  optional 5 (t.map fun t => num4 t.fullScale ++ num1 t.points.length
    ++ t.points.flatMap fun q => num4 q.1 ++ num4 q.2)

/-- The reference expectation, optional (R108). -/
def referenceOctets (r : Option ReferenceExpectation) : List Octet :=
  optional 8 (r.map fun r => num4 r.expected ++ num4 r.tolerance)

/-- READ_CALIBRATION's body (R108). -/
def calibrationOctets (l : LoadUnit) : List Octet :=
  l.tables.toList.flatMap tableOctets ++ referenceOctets l.reference ++ flag1 l.calibrationValid
    ++ l.offsets.toList.flatMap num4 ++ num1 l.activeRange.val ++ flag1 l.referenceFault
    ++ optional 1 (l.tare.map fun t => num1 t.range.val)

/-- READ_FRAME_CONSTANTS' body (R67). -/
def frameConstantsOctets (f : FrameConstants) : List Octet :=
  num4 f.compliance ++ be4 f.datum

/-- EXT_READ's body (R141). -/
def linkOctets (l : ExtLink) : List Octet :=
  num1 l.state.code ++ flag1 l.armsUnknown
    ++ optional 11 (l.latest.map fun r =>
        num4 r.sequence.toNat ++ num4 r.elongation ++ num1 (armsCode r.arms) ++ flag1 r.overrange ++ flag1 r.fault)
    ++ optional 2 (l.headReport.map fun h => num1 (armsCode h.arms) ++ [h.fault])
    ++ num1 l.staleness ++ flag1 l.attachPending
    ++ optional 4 (l.lock.map fun n => num4 n)

/-- READ_INPUTS' body (R178). 11.8.1 gives an accepted level no code: it is sent as a flag, 1 for ACTIVE, and the latch
as a flag, 1 when it is set (DEDUCED, log entry 25). -/
def inputsOctets (i : FrameInputs) : List Octet :=
  flag1 i.frameStop ++ flag1 i.grips ++ flag1 i.latch

/-! ## The configuration image (R191) -/

/-- The octets of the image's items, in R191's order, coded as R194 codes bodies (DESIGN CHOICE, log entry 4: the
manual gives the image no octet layout). -/
def imageOctets (c : ConfigItems) : List Octet :=
  driveConfigOctets c.drive ++ speedConfigOctets c.speed
    ++ c.tables.toList.flatMap tableOctets ++ referenceOctets c.reference ++ frameConstantsOctets c.frame
    ++ (c.programs.flatMap fun b => match b with
        | some b => num1 1 ++ programOctets b
        | none => num1 0)
    ++ num1 c.readers.code ++ flag1 c.autoArm

/-- The image's check: its CRC-16 is that of its items (R191, R193). -/
def ConfigImage.passes (i : ConfigImage) : Bool :=
  i.crc == crc16 (imageOctets i.items)

/-- The image a completed store writes (R192). -/
def ConfigImage.written (items : ConfigItems) : ConfigImage :=
  { items := items, crc := crc16 (imageOctets items) }

/-- The image a store that does not finish leaves: one whose check fails (R192). -/
def ConfigImage.broken (items : ConfigItems) : ConfigImage :=
  { items := items, crc := ~~~ crc16 (imageOctets items) }

end Sys2Proof.Machine
end

