-- ==== Sys2Proof/Machine/Catalogue.lean ====
section
/-! DEFINITION. The request catalogue (R185): each kind's code, the roles the port's filter lets through and the
body lengths the port lets through. -/

namespace Sys2Proof.Machine

/-- The request kinds, in the catalogue's order (R185). -/
inductive RequestKind where
  | nop | getNotices | linkReset | readLive | resetController | storeConfig
  | enqueue | withdraw | readQueue | writeProgram | clearProgram | readProgram | fetchResult | takeResult
  | setResultReaders
  | arm | disarm | start | hold | resume | abort | setAutoArm
  | writeCalibration | writeReference | readCalibration | setRange | tare
  | writeFrameConstants | readFrameConstants
  | extAttach | extDetach | extRead
  | requestAuthority | releaseAuthority | moveTo | moveBy | jog | stopMove | setPosition | writeDriveConfig
  | readDrive
  | writeSpeedConfig | readSpeedMeter
  | clearFrameStop | readInputs
  deriving DecidableEq, Repr

/-- One row of the catalogue. -/
structure CatalogueRow where
  kind : RequestKind
  code : Octet
  roles : RoleSet
  shortest : Nat
  longest : Nat
  deriving DecidableEq, Repr

/-- The roles of the catalogue's letters. -/
def rolesC : RoleSet := { console := true, cell := false, quality := false }
def rolesL : RoleSet := { console := false, cell := true, quality := false }
def rolesCL : RoleSet := { console := true, cell := true, quality := false }
def rolesCQ : RoleSet := { console := true, cell := false, quality := true }
def rolesCLQ : RoleSet := { console := true, cell := true, quality := true }

/-- The catalogue of R185. -/
def RequestKind.row : RequestKind → CatalogueRow
  | .nop => ⟨.nop, 0x01, rolesCLQ, 0, 0⟩
  | .getNotices => ⟨.getNotices, 0x02, rolesCLQ, 0, 0⟩
  | .linkReset => ⟨.linkReset, 0x03, rolesCLQ, 0, 0⟩
  | .readLive => ⟨.readLive, 0x04, rolesCLQ, 0, 0⟩
  | .resetController => ⟨.resetController, 0x05, rolesC, 0, 0⟩
  | .storeConfig => ⟨.storeConfig, 0x06, rolesC, 0, 0⟩
  | .enqueue => ⟨.enqueue, 0x10, rolesL, 34, 34⟩
  | .withdraw => ⟨.withdraw, 0x11, rolesCL, 12, 12⟩
  | .readQueue => ⟨.readQueue, 0x12, rolesCLQ, 0, 0⟩
  | .writeProgram => ⟨.writeProgram, 0x13, rolesC, 74, 116⟩
  | .clearProgram => ⟨.clearProgram, 0x14, rolesC, 1, 1⟩
  | .readProgram => ⟨.readProgram, 0x15, rolesCLQ, 1, 1⟩
  | .fetchResult => ⟨.fetchResult, 0x16, rolesCLQ, 0, 0⟩
  | .takeResult => ⟨.takeResult, 0x17, rolesCQ, 12, 12⟩
  | .setResultReaders => ⟨.setResultReaders, 0x18, rolesC, 1, 1⟩
  | .arm => ⟨.arm, 0x20, rolesC, 0, 0⟩
  | .disarm => ⟨.disarm, 0x21, rolesC, 0, 0⟩
  | .start => ⟨.start, 0x22, rolesC, 0, 0⟩
  | .hold => ⟨.hold, 0x23, rolesC, 0, 0⟩
  | .resume => ⟨.resume, 0x24, rolesC, 0, 0⟩
  | .abort => ⟨.abort, 0x25, rolesCL, 0, 0⟩
  | .setAutoArm => ⟨.setAutoArm, 0x26, rolesC, 1, 1⟩
  | .writeCalibration => ⟨.writeCalibration, 0x30, rolesC, 6, 70⟩
  | .writeReference => ⟨.writeReference, 0x31, rolesC, 8, 8⟩
  | .readCalibration => ⟨.readCalibration, 0x32, rolesCLQ, 0, 0⟩
  | .setRange => ⟨.setRange, 0x33, rolesC, 1, 1⟩
  | .tare => ⟨.tare, 0x34, rolesC, 0, 0⟩
  | .writeFrameConstants => ⟨.writeFrameConstants, 0x38, rolesC, 8, 8⟩
  | .readFrameConstants => ⟨.readFrameConstants, 0x39, rolesCLQ, 0, 0⟩
  | .extAttach => ⟨.extAttach, 0x40, rolesC, 0, 0⟩
  | .extDetach => ⟨.extDetach, 0x41, rolesC, 0, 0⟩
  | .extRead => ⟨.extRead, 0x42, rolesCLQ, 0, 0⟩
  | .requestAuthority => ⟨.requestAuthority, 0x50, rolesCL, 0, 0⟩
  | .releaseAuthority => ⟨.releaseAuthority, 0x51, rolesCL, 0, 0⟩
  | .moveTo => ⟨.moveTo, 0x52, rolesCL, 8, 8⟩
  | .moveBy => ⟨.moveBy, 0x53, rolesCL, 8, 8⟩
  | .jog => ⟨.jog, 0x54, rolesCL, 5, 5⟩
  | .stopMove => ⟨.stopMove, 0x55, rolesCL, 0, 0⟩
  | .setPosition => ⟨.setPosition, 0x56, rolesC, 4, 4⟩
  | .writeDriveConfig => ⟨.writeDriveConfig, 0x57, rolesC, 21, 21⟩
  | .readDrive => ⟨.readDrive, 0x58, rolesCLQ, 0, 0⟩
  | .writeSpeedConfig => ⟨.writeSpeedConfig, 0x60, rolesC, 5, 5⟩
  | .readSpeedMeter => ⟨.readSpeedMeter, 0x61, rolesCLQ, 0, 0⟩
  | .clearFrameStop => ⟨.clearFrameStop, 0x68, rolesC, 0, 0⟩
  | .readInputs => ⟨.readInputs, 0x69, rolesCLQ, 0, 0⟩

/-- The kind code of a request. -/
def RequestKind.code (k : RequestKind) : Octet := k.row.code

/-- Every kind of the catalogue. -/
def RequestKind.all : List RequestKind :=
  [.nop, .getNotices, .linkReset, .readLive, .resetController, .storeConfig,
   .enqueue, .withdraw, .readQueue, .writeProgram, .clearProgram, .readProgram, .fetchResult, .takeResult,
   .setResultReaders,
   .arm, .disarm, .start, .hold, .resume, .abort, .setAutoArm,
   .writeCalibration, .writeReference, .readCalibration, .setRange, .tare,
   .writeFrameConstants, .readFrameConstants,
   .extAttach, .extDetach, .extRead,
   .requestAuthority, .releaseAuthority, .moveTo, .moveBy, .jog, .stopMove, .setPosition, .writeDriveConfig,
   .readDrive, .writeSpeedConfig, .readSpeedMeter, .clearFrameStop, .readInputs]

/-- The kind a kind octet names, if the catalogue has it (R183 check 3). -/
def RequestKind.ofCode (o : Octet) : Option RequestKind :=
  RequestKind.all.find? fun k => k.code == o

/-- The body length is one the catalogue allows (R183 check 5). -/
def RequestKind.lengthAllowed (k : RequestKind) (n : Nat) : Bool :=
  decide (k.row.shortest ≤ n) && decide (n ≤ k.row.longest)

end Sys2Proof.Machine
end

