-- ==== Sys2Proof/Machine/Flags.lean ====
section
/-! DEFINITION. The notices and the notice sets of the ports (R186, 11.4.1). -/

namespace Sys2Proof.Machine

/-- The notices, in the order of their bits (11.4.1). -/
inductive Notice where
  | powerOn | controllerReset | configDefaulted | queueChanged | authorityGranted | authorityRevoked
  | authorityDenied | moveDone | moveStopped | testArmed | testStarted | testEnded | specimenDone
  | resultReady | frameStop | frameStopCleared | tareDone | tareFailed | extState | storeDone | storeFailed
  deriving DecidableEq, Repr

/-- The bit of a notice in the 32-bit set (11.4.1). -/
def Notice.bit : Notice → Nat
  | .powerOn => 0 | .controllerReset => 1 | .configDefaulted => 2 | .queueChanged => 3
  | .authorityGranted => 4 | .authorityRevoked => 5 | .authorityDenied => 6 | .moveDone => 7
  | .moveStopped => 8 | .testArmed => 9 | .testStarted => 10 | .testEnded => 11 | .specimenDone => 12
  | .resultReady => 13 | .frameStop => 14 | .frameStopCleared => 15 | .tareDone => 16 | .tareFailed => 17
  | .extState => 18 | .storeDone => 19 | .storeFailed => 20

/-- The set with `n` added; a kind already present leaves it as it was (R186). -/
def withNotice (notices : BitVec 32) (n : Notice) : BitVec 32 :=
  notices ||| BitVec.ofNat 32 (2 ^ n.bit)

/-- The notice is in the port's set. -/
def Port.hasNotice (q : Port) (n : Notice) : Bool :=
  q.notices.getLsbD n.bit

/-- The attention line is active while the notice set is not empty (R180, R186). -/
def Port.attention (q : Port) : Bool :=
  q.notices != 0

/-- `s` with port `p` changed by `f`. -/
def State.onPort (s : State) (p : Role) (f : Port → Port) : State :=
  { s with ports := s.ports.set p (f (s.ports.get p)) }

/-- `s` with a notice added to one port's set (R186). -/
def State.addNotice (s : State) (p : Role) (n : Notice) : State :=
  s.onPort p fun q => { q with notices := withNotice q.notices n }

/-- `s` with a notice added to the sets of CONSOLE, CELL and QUALITY. -/
def State.addNoticeAll (s : State) (n : Notice) : State :=
  ((s.addNotice .console n).addNotice .cell n).addNotice .quality n

/-- `s` with a notice added to the sets of the roles in `roles`. -/
def State.addNoticeTo (s : State) (roles : RoleSet) (n : Notice) : State :=
  let s := if roles.console then s.addNotice .console n else s
  let s := if roles.cell then s.addNotice .cell n else s
  if roles.quality then s.addNotice .quality n else s

end Sys2Proof.Machine
end

