-- ==== Sys2Proof/Machine/Ports.lean ====
section
/-! DEFINITION. The link ports' own operations: forming a reply, taking a request through the role filter, and the
beginning and end of a transaction (R181 to R184). -/

namespace Sys2Proof.Machine

/-- The end of a transaction that leaves the pending reply as it stands (R181). -/
def State.endTransaction (s : State) (p : Role) : State :=
  s.onPort p fun q => { q with clockingOut := none, inputBuffer := [] }

/-- The transaction's end with a reply formed: it becomes the pending reply, with a ready time 50 µs later
(R182). -/
def State.answerKind (s : State) (p : Role) (kind : Octet) (status : Status) (body : List Octet) : State :=
  s.onPort p fun q =>
    { q with
      pendingReply := some ⟨⟨kind, status, body⟩, Config.replyReadyTicks⟩
      clockingOut := none
      inputBuffer := [] }

/-- The reply to a request of kind `k` (R184). -/
def State.answer (s : State) (p : Role) (k : RequestKind) (status : Status) (body : List Octet) : State :=
  s.answerKind p k.code status body

/-- A refusal, with an empty body (R184). -/
def State.refuse (s : State) (p : Role) (k : RequestKind) (status : Status) : State :=
  s.answer p k status []

/-- INVALID_FIELD, whose body is one octet giving the field index (R184). -/
def State.refuseField (s : State) (p : Role) (k : RequestKind) (index : Nat) : State :=
  s.answer p k .invalidField (num1 index)

/-- A reply has a status other than those of the fillers, so a transaction that clocks out NOT_READY is the one
whose message has that status (R181, R184). -/
def Port.clocksNotReady (q : Port) : Bool :=
  match q.clockingOut with
  | some r => r.status == .notReady
  | none => false

/-- A request is taken at the end of its transaction, unless that transaction clocked out NOT_READY or the image
is still being read: then its octets are discarded (R181, R193). -/
def State.takes (s : State) (p : Role) : Bool :=
  (s.power == .running) && !(s.ports.get p).clocksNotReady

/-- What happens at the end of a transaction that clocks in octets: the request is taken and `act` follows, or
the octets are discarded. With the supply off nothing happens. -/
def State.whenTaken (s : State) (p : Role) (act : State → State) : State :=
  if s.power = .off then s
  else if s.takes p then act s
  else s.endTransaction p

/-- A request of kind `k` whose message passed checks 1 to 3 of R183: the role filter (check 4), then the owning
block. -/
def State.request (s : State) (p : Role) (k : RequestKind) (own : State → State) : State :=
  s.whenTaken p fun s => if k.row.roles.mem p then own s else s.refuse p k .roleRefused

/-- A request of kind `k` whose body has `n` octets and is of no fixed width in `Instr`: the role filter (check 4),
the body length (check 5), then the owning block (R183). -/
def State.sizedRequest (s : State) (p : Role) (k : RequestKind) (n : Nat) (own : State → State) : State :=
  s.request p k fun s => if k.lengthAllowed n then own s else s.refuse p k .lengthError

/-- A refusal by its status and body. -/
def State.refuseWith (s : State) (p : Role) (k : RequestKind) (f : Status × List Octet) : State :=
  s.answer p k f.1 f.2

/-- The refusal INVALID_FIELD with a field index (R184). -/
def badField (index : Nat) : Status × List Octet := (.invalidField, num1 index)

/-- `act` while the part runs; an event reaches no block while the supply is off or the image is read (R193). -/
def State.whenRunning (s : State) (act : State → State) : State :=
  if s.power = .running then act s else s

/-- The message a transaction clocks out, chosen when SEL goes low (R181, R184). While the image is read it is
NOT_READY (R193). -/
def State.messageOut (s : State) (p : Role) : Reply :=
  if s.power = .running then
    match (s.ports.get p).pendingReply with
    | some r => if r.wait = 0 then r.reply else ⟨0x00, .notReady, []⟩
    | none => ⟨0x00, .none, []⟩
  else ⟨0x00, .notReady, []⟩

/-! ## Messages on the line (R183, R184) -/

/-- A reply message: kind, status, two length octets, body and check (R184). -/
def Reply.message (r : Reply) : List Octet :=
  let m := r.kind :: r.status.code :: (num2 r.body.length ++ r.body)
  m ++ [crc8 m]

/-- The octet at place `n`, from 0, of a transaction that clocks out `r`: the message's octets, then 0x00 for every
further one (R181). -/
def Reply.octetOut (r : Reply) (n : Nat) : Octet :=
  r.message.getD n 0x00

/-- The octet the port drives at place `n` of the transaction in progress (R181); the manual gives no level
between transactions, and the model none (log entry 28). -/
def Port.octetOut (q : Port) (n : Nat) : Option Octet :=
  q.clockingOut.map fun r => r.octetOut n

/-- The level on SDO, true for high, at rising edge `n` of SCK, from 0, in the transaction in progress: the octets from
their most significant bit (R181). -/
def Port.sdo (q : Port) (n : Nat) : Option Bool :=
  (q.octetOut (n / 8)).map fun o => o.getMsbD (n % 8)

/-- The levels of one octet on the line, the most significant bit first (R181). -/
def octetLevels (o : Octet) : List Bool :=
  (List.range 8).map fun n => o.getMsbD n

/-- The complete octets in the levels of SDI at the rising edges of SCK, the most significant bit first; the bits of an
incomplete last octet are discarded (R181). -/
def octetsClockedIn : List Bool → List Octet
  | a :: b :: c :: d :: e :: f :: g :: h :: rest =>
    BitVec.ofNat 8 ([a, b, c, d, e, f, g, h].foldl (fun n x => 2 * n + (if x then 1 else 0)) 0) :: octetsClockedIn rest
  | _ => []

/-- The first two checks of R183 on the octets clocked in (at least three): the body, or the failed check. -/
def messageBody (octets : List Octet) : Except Status (List Octet) :=
  let length := field1 octets 1
  if length > 120 ∨ octets.length < length + 3 then .error .lengthError
  else if octets.getD (length + 2) 0 ≠ crc8 (octets.take (length + 2)) then .error .checkFailed
  else .ok ((octets.drop 2).take length)

/-- The five checks of R183, in order, on the octets clocked in at port `p`. -/
def checkRequest (p : Role) (octets : List Octet) : Except Status (RequestKind × List Octet) :=
  match messageBody octets with
  | .error st => .error st
  | .ok body =>
    match RequestKind.ofCode (octets.getD 0 0) with
    | none => .error .unknownKind
    | some k =>
      if ¬ k.row.roles.mem p then .error .roleRefused
      else if k.lengthAllowed body.length then .ok (k, body)
      else .error .lengthError

end Sys2Proof.Machine
end

