-- ==== Sys2Proof/Machine/Ops.lean ====
section
/-! DEFINITION. The operations the blocks share, in the order in which they rest on one another: the crosshead drive's
generator and moves, the active range, the extensometer link's transmit path and states, the sequencer's
ENDING, disarming and start, the arbiter's grants and revocations, arming, and the completion of a test. -/

namespace Sys2Proof.Machine

/-! ## Crosshead drive: velocity, stop and the end of a move (R149, R150, R156) -/

/-- A stop: the period in progress is discarded with no pulse, the buffer empties, the generator becomes STOPPED
and the commanded velocity becomes 0 (R149). -/
def State.stopGenerator (s : State) : State :=
  { s with drive := { s.drive with generator := none, buffer := none, velocity := 0 } }

/-- The period of a velocity, in ticks, or none for a stop value (R149). -/
def periodTicks (step v : Int) : Option Nat :=
  if v = 0 then none
  else
    let t := roundDiv (1000000000 * step) v.natAbs
    if t > 16777215 then none else if t < 20 then some 20 else some t.toNat

/-- The direction from one position toward another, on the wrapped difference (R147, R150). -/
def directionToward (here target : Word32) : Direction :=
  if 0 ≤ (target - here).toInt then .opening else .closing

/-- The sign of a direction: opening is positive (00_scope "Direction and sign"). -/
def signOf : Direction → Int
  | .opening => 1
  | .closing => -1

/-- The direction taken at the start of a period, by the velocity source (R150). -/
def Drive.periodDirection (d : Drive) : Direction :=
  match d.source, d.move with
  | .move, some m =>
    match m.kind with
    | .jog dir => dir
    | _ => directionToward d.commanded m.target
  | _, _ => if 0 ≤ d.velocity then .opening else .closing

/-- The level on DIR of a direction, true for high: high for OPEN and low for CLOSE (R149). -/
def dirLevel : Direction → Bool
  | .opening => true
  | .closing => false

/-- The level on DIR while the generator is RUNNING: that of the direction of the period in progress. The manual gives
none while it is STOPPED (R149; log entry 28). -/
def Drive.dirPin (d : Drive) : Option Bool :=
  d.generator.map fun g => dirLevel g.direction

/-- A write of the commanded velocity by `source`: clamped to ±vmax and converted to a period, which starts a
STOPPED generator at once and waits in the buffer of a RUNNING one; a stop value stops it (R149, R150). The
callers write for the holder of authority alone. -/
def State.writeVelocity (s : State) (source : VelocitySource) (v : Int) : State :=
  let v := clampInt (-s.drive.config.vmax) s.drive.config.vmax v
  let d := { s.drive with source := source, velocity := v }
  match periodTicks d.config.step v with
  | none => { s with drive := d }.stopGenerator
  | some t =>
    match d.generator with
    | none => { s with drive := { d with generator := some ⟨t, 0, d.periodDirection⟩, buffer := none } }
    | some _ => { s with drive := { d with buffer := some t } }

/-- A move in flight ends, with a cause for STOPPED and none for DONE: the last move outcome is written, the move
record and the velocity source become none, and the issuing port is notified (R156). -/
def State.endMove (s : State) (cause : Option MoveEndCause) : State :=
  match s.drive.move with
  | none => s
  | some m =>
    let outcome : MoveOutcome := ⟨m.number, m.kind, cause, s.drive.commanded, s.drive.encoder⟩
    let s := { s with drive := { s.drive with lastOutcome := some outcome, move := none, source := .none } }
    s.addNotice m.issuer (if cause = none then .moveDone else .moveStopped)

/-- A move in SETTLING completes with result DONE while the rest flag is set (R155). -/
def State.completeSettledMove (s : State) : State :=
  match s.drive.move with
  | some m => if m.phase = .settling ∧ s.meter.rest then s.endMove none else s
  | none => s

/-! ## Active load range (R115) -/

/-- The active range changes: a different range sets settling pending, the same one changes nothing (R115). -/
def LoadUnit.setRange (l : LoadUnit) (k : Fin 4) : LoadUnit :=
  if k = l.activeRange then l else { l with activeRange := k, settling := true }

/-! ## Extensometer link: transmit path (R127) -/

/-- `cmd` is on the line: it stands in the shifter (R127). -/
def ExtLink.onLine (l : ExtLink) (cmd : HeadCommand) : Bool :=
  match l.shifter with
  | .command c _ _ => c.command == cmd
  | _ => false

/-- `cmd` stands in the holding slot or the wait position. -/
def ExtLink.queued (l : ExtLink) (cmd : HeadCommand) : Bool :=
  (l.holding.toList ++ l.waiting).any fun c => c.command == cmd

/-- A command is handed to the transmit path: to an empty shifter, else to an empty holding slot, else to the wait
position (R127). -/
def ExtLink.hand (l : ExtLink) (cmd : HeadCommand) (owner : CommandOwner) : ExtLink :=
  match l.shifter, l.holding with
  | .empty, _ => { l with shifter := .command ⟨cmd, owner⟩ false none }
  | _, none => { l with holding := some ⟨cmd, owner⟩ }
  | _, some _ => { l with waiting := l.waiting ++ [⟨cmd, owner⟩] }

/-- A command not yet on the line is removed, and the commands behind it move forward (R127). -/
def ExtLink.withdraw (l : ExtLink) (cmd : HeadCommand) : ExtLink :=
  let rest := (l.holding.toList ++ l.waiting).filter fun c => c.command != cmd
  { l with holding := rest.head?, waiting := rest.tail }

/-- The transmit path is emptied (R138, R139). -/
def ExtLink.emptyPath (l : ExtLink) : ExtLink :=
  { l with shifter := .empty, holding := none, waiting := [] }

/-! ## Extensometer link: states (R124, R129, R130, R136, R138, R139) -/

/-- A change of link state adds EXT_STATE to CONSOLE's set (R124). -/
def State.toLinkState (s : State) (st : LinkState) : State :=
  { s with link := { s.link with state := st } }.addNotice .console .extState

/-- The pending attach is the sequencer's: in ATTACH, and in RUN or HOLD after a loss of SLEEP has ended ATTACH with
EXT_ATTACH_FAILED while the attach goes on by a wake (R37, R47, R137; log entry 16). -/
def State.sequencerAttaching (s : State) : Bool :=
  s.link.attachPending
    && (s.seq.state == .attach || ((s.seq.state == .run || s.seq.state == .hold) && s.seq.extAttachFailed))

/-- The party on whose behalf a pending attach hands its commands: the sequencer for its own attach, else the link's
own procedures. -/
def State.attachOwner (s : State) : CommandOwner :=
  if s.sequencerAttaching then .sequencer else .link

/-- The link enters CLOSING from READY: stream requested is cleared and the sleep timer stops (R124, R130). -/
def State.enterClosing (s : State) : State :=
  { s with link := { s.link with streamRequested := false, sleepTimer := none } }.toLinkState .closing

/-- A pending attach goes on in READY: CLOSE_ARMS is handed, and the link enters CLOSING unless the command must
wait behind a full holding slot (R130). -/
def State.continueAttach (s : State) (owner : CommandOwner) : State :=
  let s := { s with link := { s.link.hand .closeArms owner with streamRequested := false } }
  if s.link.waiting.any (fun c => c.command == .closeArms) then s else s.enterClosing

/-- Entry to READY: STREAM_OFF is handed and the sleep timer starts at 0; the operation timer stops unless a
pending attach runs it (R129, R136, R139). `arriveReady` goes on with a pending attach. -/
def State.enterReady (s : State) : State :=
  let l := s.link
  let l := { l with
    wake := none, syncWindow := none, recoveryTimer := none, staleness := 0, sleepTimer := some 0
    operationTimer := if l.attachPending then l.operationTimer else none }
  { s with link := l.hand .streamOff .link }.toLinkState .ready

/-- A recovery attempt begins: the lock is dropped, the transmit path emptied, a break sent and the recovery timer
set to 0 (R138, R139). -/
def ExtLink.beginRecovery (l : ExtLink) : ExtLink :=
  { l.emptyPath with lock := none, shifter := .sendingBreak, recoveryTimer := some 0, syncWindow := none }

/-- A wake begins: WAKING, attempt 1, a break (R129). From LOST a recovery in progress stops, its lock and its
transmit path with it (R130). -/
def State.beginWake (s : State) : State :=
  let l := s.link.emptyPath
  let l := { l with
    lock := none, shifter := .sendingBreak, wake := some ⟨1, 0⟩, syncWindow := none, recoveryTimer := none
    sleepTimer := none }
  { s with link := l }.toLinkState .waking

/-- Entry to LOST (R138). -/
def State.enterLost (s : State) : State :=
  let l := s.link
  let unknown := l.armsUnknown || l.state == .closing || l.state == .streaming || l.state == .opening
  let l := { l.emptyPath with
    armsUnknown := unknown, lock := none, attachPending := false, streamRequested := false
    operationTimer := none, staleness := 0, wake := none, syncWindow := none, sleepTimer := none
    recoveryTimer := none }
  let s := { s with link := l }.toLinkState .lost
  if unknown then { s with link := s.link.beginRecovery } else s

/-- Entry to ASLEEP on SLEEP's answer: the lock is dropped; the operation timer stops unless a pending attach runs
it (R135, R137). `arriveAsleep` goes on with a pending attach. -/
def State.enterAsleep (s : State) : State :=
  let l := { s.link with
    lock := none, sleepTimer := none, syncWindow := none
    operationTimer := if s.link.attachPending then s.link.operationTimer else none }
  { s with link := l }.toLinkState .asleep

/-- The shifter empties: the holding slot's command goes onto the line and the oldest of the wait position into the
holding slot. A CLOSE_ARMS so taken up with an attach pending in READY enters CLOSING (R127, R130). -/
def State.shifterEmpties (s : State) : State :=
  let l := s.link
  match l.holding with
  | none => { s with link := { l with shifter := .empty } }
  | some c =>
    let s := { s with
      link := { l with shifter := .command c false none, holding := l.waiting.head?, waiting := l.waiting.tail } }
    if l.state = .ready ∧ l.attachPending ∧ (l.waiting.head?.map (·.command)) = some .closeArms
    then s.enterClosing else s

/-- A wake or recovery attempt fails: a wake's third attempt enters LOST; otherwise the next break waits for its
time, and the lock stays unlocked (R129, R139). -/
def State.attemptFails (s : State) : State :=
  let s := { s with link := { s.link with lock := none, syncWindow := none } }
  match s.link.state, s.link.wake with
  | .waking, some w => if 3 ≤ w.number then s.enterLost else s
  | _, _ => s

/-! ## Attach and detach (R130, R135, R140) -/

/-- Whether an attach request would hand CLOSE_ARMS now: READY with no SLEEP on the line, and no CLOSE_ARMS of the
pending attach waiting already (R130). The table's row for READY does not say what a request does that finds
CLOSE_ARMS in the wait position: it joins the attach in progress, which is answered OK and hands no second
CLOSE_ARMS (DESIGN CHOICE, log entry 36). -/
def ExtLink.attachHands (l : ExtLink) : Bool :=
  l.state == .ready && !l.onLine .sleep && !(l.attachPending && l.queued .closeArms)

/-- The attach request (R130). -/
def State.requestAttach (s : State) (owner : CommandOwner) : State :=
  let pending (timer : Option Nat) : State :=
    { s with link := { s.link with attachPending := true, operationTimer := timer } }
  match s.link.state with
  | .asleep => (pending (some 0)).beginWake
  | .lost => (pending (some 0)).beginWake
  | .ready =>
    if s.link.attachHands then (pending (some 0)).continueAttach owner
    else if s.link.onLine .sleep then pending (some 0)
    else s
  | .opening => pending (some 0)
  | .waking => if s.link.attachPending then s else pending (some 0)
  | .closing => s
  | .streaming => s

/-- Whether a detach request hands OPEN_ARMS: STREAMING, or CLOSING with CLOSE_ARMS on the line or answered
(R135). -/
def ExtLink.detachHands (l : ExtLink) : Bool :=
  l.state == .streaming || (l.state == .closing && !l.queued .closeArms)

/-- The detach request (R135). -/
def State.requestDetach (s : State) (owner : CommandOwner) : State :=
  let l := s.link
  if l.detachHands then
    let l := (l.withdraw .streamOn).hand .openArms owner
    { s with link := { l with attachPending := false, operationTimer := some 0, staleness := 0 } }.toLinkState
      .opening
  else
    match l.state with
    | .waking => { s with link := { l with attachPending := false } }
    | .ready =>
      if l.attachPending then
        if l.queued .closeArms then
          { s with link := { l.withdraw .closeArms with attachPending := false, operationTimer := none } }
        else { s with link := { l with attachPending := false } }
      else s
    | .closing =>
      { s with link := { l.withdraw .closeArms with attachPending := false, operationTimer := none } }.enterReady
    | _ => s

/-! ## Queue, program table and reservation -/

/-- The head entry's state changes (R7). -/
def State.setHeadState (s : State) (st : EntryState) : State :=
  match s.queue with
  | [] => s
  | e :: rest => { s with queue := { e with state := st } :: rest }

/-- The program body of a VALID slot. -/
def State.programAt (s : State) (slot : Nat) : Option ProgramBody :=
  (s.programs[slot]?).bind (·.body)

/-- The program of the head entry. -/
def State.headProgram (s : State) : Option ProgramBody :=
  s.queue.head?.bind fun e => s.programAt e.slot

/-- The active segment of the head's program (R24, R54). -/
def State.activeSegment (s : State) : Option Segment :=
  s.headProgram.bind fun b => b.segments[s.seq.segment - 1]?

/-- A slot's in-use count changes (R11). -/
def State.changeInUse (s : State) (slot : Nat) (f : Nat → Nat) : State :=
  { s with programs := s.programs.modify slot fun p => { p with inUse := f p.inUse } }

/-- The head leaves the queue: the entries behind it move forward, its slot's in-use count falls by one, an
auto-arm pause set for it is cleared, and QUEUE_CHANGED goes to CONSOLE (R9, R10, R29). -/
def State.removeHead (s : State) : State :=
  match s.queue with
  | [] => s
  | e :: rest =>
    let s := { s with queue := rest, seq := { s.seq with autoArmPause := false } }
    (s.changeInUse e.slot (· - 1)).addNotice .console .queueChanged

/-- The number of free result places (R17). -/
def ResultStore.free (r : ResultStore) : Nat :=
  Config.resultPlaces - r.records.length - (if r.reserved then 1 else 0)

/-! ## Sequencer: writes, ENDING, disarming (R25, R31, R46, R47) -/

/-- PRELOAD, ATTACH, RUN or HOLD: a reported fault aborts the test (R46). -/
def SeqState.underTest : SeqState → Bool
  | .preload | .attach | .run | .hold => true
  | _ => false

/-- PRELOAD to ENDING (R7, R113, R143). -/
def SeqState.inTest (st : SeqState) : Bool :=
  st.underTest || st == .ending

/-- The sequencer writes a commanded velocity, accepted while SEQUENCER holds the authority (R25, R60, R150). -/
def State.seqWrite (s : State) (v : Int) : State :=
  if s.arbiter.holder = some .sequencer then s.writeVelocity .sequencer v else s

/-- The extensometer is brought off the specimen on entry to ENDING: a detach in CLOSING or STREAMING, and the
withdrawal of the sequencer's own attach in WAKING or READY (R47, step 5). -/
def State.detachForEnding (s : State) : State :=
  match s.link.state with
  | .closing => s.requestDetach .sequencer
  | .streaming => s.requestDetach .sequencer
  | .waking => if s.sequencerAttaching then s.requestDetach .sequencer else s
  | .ready => if s.sequencerAttaching then s.requestDetach .sequencer else s
  | _ => s

/-- Entry to ENDING (R47). The test of the wait's conditions on entry is `testEnding`, at the end of the event. -/
def State.enterEnding (s : State) (outcome : TestOutcome) (cause : Option Cause) : State :=
  let s := s.detachForEnding
  let s := { s with
    seq := { s.seq with state := .ending, outcome := some outcome, cause := cause, endingTimer := some 0 }
    eval := { s.eval with detectors := false } }
  s.seqWrite 0

/-- A cause that arises in ENDING becomes the post-test note if no note is present (R47). -/
def State.addNote (s : State) (c : Cause) : State :=
  if s.seq.note = none then { s with seq := { s.seq with note := some c } } else s

/-- A fault reaches the sequencer: it aborts the test in PRELOAD to HOLD, is a note in ENDING, and does not act in
IDLE and ARMED (R46). -/
def State.reportFault (s : State) (c : Cause) : State :=
  if s.seq.state.underTest then s.enterEnding .aborted (some c)
  else if s.seq.state = .ending then s.addNote c
  else s

/-- Effects 1, 2 and 4 of R30: the head becomes WAITING, the reserved place free, the sequencer IDLE. -/
def State.undoArming (s : State) : State :=
  let s := s.setHeadState .waiting
  { s with
    results := { s.results with reserved := false }
    seq := { s.seq with state := .idle, openSeen := false } }

/-- The auto-arm pause is set when auto-arm is ON (R30, R31). -/
def State.pauseAutoArm (s : State) : State :=
  if s.seq.autoArm then { s with seq := { s.seq with autoArmPause := true } } else s

/-- SEQUENCER loses the authority or its place for it: a fault in a test, a disarming in ARMED, with the pause for
a fault of the drive and without it for the frame stop (R31, R46, R146). -/
def State.authorityLost (s : State) (reason : Cause) : State :=
  if s.seq.state = .armed then
    if reason = .frameStop then s.undoArming else s.undoArming.pauseAutoArm
  else s.reportFault reason

/-! ## Test start (R33, R35, R68) -/

/-- The parallel length in use and whether it was substituted (R68). -/
def resolveLength (source : LengthSource) (entered : Int) (capture : Option Word32) (datum : Word32) :
    Int × Bool :=
  match source, capture with
  | .entered, _ => (entered, false)
  | .gripSeparation, some c =>
    let l := roundDiv (c.toInt - datum.toInt) 10
    if within 10000 400000 l then (l, false) else (entered, true)
  | .gripSeparation, none => (entered, true)

/-- A test starts (R35): the head becomes IN_TEST, the lengths are resolved (R68), the start position is taken,
PRELOAD is entered, the approach speed is written and TEST_STARTED is raised. -/
def State.startTest (s : State) : State :=
  match s.queue.head?, s.headProgram with
  | some e, some b =>
    let (length, substituted) := resolveLength b.lengthSource e.parallel e.capture s.strain.frame.datum
    let s := s.setHeadState .inTest
    let s := { s with
      strain := { s.strain with
        area := some e.area
        parallel := some length
        extGauge := if b.extUse = ExtUse.auto then some b.extGauge else none
        lengthSubstituted := substituted }
      seq := { s.seq with
        state := .preload, segment := 1, startPosition := s.drive.encoder, openSeen := false } }
    let s := s.seqWrite (min b.approach s.drive.config.vmax)
    (s.addNotice .console .testStarted).addNotice .cell .testStarted
  | _, _ => s

/-- The conditions of a start by the grips (R33). -/
def State.gripsStartReady (s : State) : Bool :=
  s.seq.state == .armed && (s.headProgram.map (·.startMode)) == some .grips
    && s.arbiter.holder == some .sequencer && s.seq.openSeen && s.inputs.grips && s.load.tare.isNone
    && !s.load.referenceFault

/-- The start conditions are tested (R33). -/
def State.testGripsStart (s : State) : State :=
  if s.gripsStartReady then s.startTest else s

/-! ## Authority arbiter (R143 to R146) -/

/-- Grants are held back while the sequencer is in a test and SEQUENCER does not hold (R143). -/
def State.grantHeldBack (s : State) : Bool :=
  s.seq.state.inTest && s.arbiter.holder != some .sequencer

/-- A grant to SEQUENCER reaches the sequencer: 0 is written in ARMED, and the start conditions are tested
(R25, R33, R143). -/
def State.grantSequencer (s : State) : State :=
  let s := { s with arbiter := { s.arbiter with holder := some .sequencer } }
  let s := if s.seq.state = .armed then s.seqWrite 0 else s
  s.testGripsStart

/-- The request at the front of the list is granted, if there is one (R143). -/
def State.grantFront (s : State) : State :=
  match s.arbiter.waiting with
  | [] => s
  | .console :: rest =>
    { s with arbiter := { holder := some .console, waiting := rest } }.addNotice .console .authorityGranted
  | .cell :: rest =>
    { s with arbiter := { holder := some .cell, waiting := rest } }.addNotice .cell .authorityGranted
  | .sequencer :: rest => { s with arbiter := { s.arbiter with waiting := rest } }.grantSequencer

/-- With no holder the front of the list is granted, unless the grant is held back (R143). -/
def State.grantIfFree (s : State) : State :=
  if s.arbiter.holder = none ∧ ¬ s.grantHeldBack then s.grantFront else s

/-- The holder gives the authority up or loses it: the generator stops at once, a move in flight ends with the
cause given, the velocity source and the holder become none (R145, R146, R156). -/
def State.dropHolder (s : State) (cause : MoveEndCause) : State :=
  let s := s.stopGenerator.endMove (some cause)
  { s with
    drive := { s.drive with source := .none }
    arbiter := { s.arbiter with holder := none } }

/-- The party as a port, none for SEQUENCER. -/
def Party.port : Party → Option Role
  | .console => some .console
  | .cell => some .cell
  | .sequencer => none

/-- The port as a party, none for QUALITY, which requests no authority (R144). -/
def partyOf : Role → Option Party
  | .console => some .console
  | .cell => some .cell
  | .quality => none

/-- The port holds the authority. -/
def State.portHolds (s : State) (p : Role) : Bool :=
  match partyOf p with
  | some q => s.arbiter.holder == some q
  | none => false

/-- The authority is revoked from its holder: AUTHORITY_REVOKED to a port, the reason to the sequencer. Without a
holder nothing is revoked (R146). -/
def State.revokeHolder (s : State) (move : MoveEndCause) (reason : Cause) : State :=
  match s.arbiter.holder with
  | none => s
  | some q =>
    let s := s.dropHolder move
    match q.port with
    | some p => s.addNotice p .authorityRevoked
    | none => s.authorityLost reason

/-- The waiting list is emptied and each waiting port receives AUTHORITY_DENIED (R146). -/
def State.denyWaiting (s : State) : State :=
  let waits (q : Party) : Bool := s.arbiter.waiting.contains q
  let s' := { s with arbiter := { s.arbiter with waiting := [] } }
  let s' := if waits .console then s'.addNotice .console .authorityDenied else s'
  if waits .cell then s'.addNotice .cell .authorityDenied else s'

/-- SEQUENCER requests the authority on arming, by the cases of R144 and without a reply. -/
def State.sequencerRequests (s : State) : State :=
  if s.inputs.latch then s
  else if s.arbiter.holder = some .sequencer ∨ s.arbiter.waiting.contains .sequencer then s
  else if s.arbiter.holder = none ∧ ¬ s.grantHeldBack then s.grantSequencer
  else { s with arbiter := { s.arbiter with waiting := s.arbiter.waiting ++ [.sequencer] } }

/-- SEQUENCER releases the authority it holds, or withdraws its waiting request (R30, R145). -/
def State.sequencerReleases (s : State) : State :=
  if s.arbiter.holder = some .sequencer then (s.dropHolder .released).grantIfFree
  else { s with arbiter := { s.arbiter with waiting := s.arbiter.waiting.filter (· != .sequencer) } }

/-! ## Arming (R27 to R29) -/

/-- The first of checks 2 to 8 of R27 that fails, with its status, or none. -/
def State.armFailure (s : State) : Option Status :=
  if s.queue.isEmpty then some .notFound
  else if ¬ s.load.calibrationValid then some .calibrationInvalid
  else if ¬ s.drive.referenced then some .unreferenced
  else if s.inputs.latch then some .frameStopped
  else if s.load.referenceFault then some .wrongState
  else if s.load.tare.isSome then some .busy
  else if s.results.free = 0 then some .full
  else none

/-- The effects of an arming (R28). -/
def State.armHead (s : State) : State :=
  match s.headProgram with
  | none => s
  | some b =>
    let s := s.setHeadState .armed
    let s := { s with
      results := { s.results with reserved := true }
      load := s.load.setRange b.initialRange
      seq := { s.seq with
        state := .armed, openSeen := !s.inputs.grips, segment := 1, holds := 0, rangeSwitches := 0
        duration := 0, yieldEndSeen := false, releaseSeen := false, outcome := none, cause := none
        note := none, extLost := false, extAttachFailed := false, extRangeEnd := false } }
    (s.sequencerRequests.addNotice .console .testArmed).addNotice .cell .testArmed

/-- The auto-arm conditions (R29). -/
def State.autoArmReady (s : State) : Bool :=
  s.seq.state == .idle && s.seq.autoArm && !s.seq.autoArmPause && s.armFailure.isNone

/-- The sequencer examines the head (R29). -/
def State.examineHead (s : State) : State :=
  if s.autoArmReady then s.armHead else s

/-! ## The record and the completion of a test (R18, R84, R99, R101, R49) -/

/-- The elastic strain of a stress under a modulus (R78). -/
def elasticStrain (sigma e : Int) : Int :=
  roundDiv (sigma * 10000) e

/-- The modulus the elongations are formed with at assembly: the modulus in use, or E nominal (R84, R99). -/
def State.modulusAtAssembly (s : State) : Option Int :=
  match s.eval.modulus with
  | some m => some m.e
  | none => s.headProgram.map (·.nominal)

/-- The record assembled from the entry and from the values the blocks hold (R18, R49 step 1, R101). The required
set is stamped with the configured readers and the taken-by set is empty (R19). -/
def State.assembleRecord (s : State) (e : SpecimenEntry) (outcome : TestOutcome) (cause note : Option Cause) :
    ResultRecord where
  id := e.id
  slot := e.slot
  outcome := outcome
  cause := cause
  note := note
  area := e.area
  gauge := e.gauge
  parallel := s.strain.parallel.getD e.parallel
  modulus := s.eval.modulus
  reh := s.eval.reh.map (·.sigma)
  rel := s.eval.rel
  ae := s.eval.ae
  rp := s.eval.rp
  fmRm := s.eval.maximum.map fun m => (m.force, roundDiv (m.force * 10000) e.area)
  ag := s.eval.maximum.bind fun m => s.modulusAtAssembly.map fun k => m.epsilon - elasticStrain m.sigma k
  elongation :=
    if outcome = .complete then
      s.eval.breakSample.bind fun b => s.modulusAtAssembly.map fun k => b.epsilon - elasticStrain b.sigma k
    else none
  source := s.strain.source
  rangeSwitches := s.seq.rangeSwitches
  holds := s.seq.holds
  flags :=
    { extLost := s.seq.extLost
      extAttachFailed := s.seq.extAttachFailed
      extRangeEnd := s.seq.extRangeEnd
      extAtBreak := s.eval.extAtBreak
      lengthSubstituted := s.strain.lengthSubstituted
      modulusSubstituted := s.eval.modulusSubstituted
      yieldNotFound := s.eval.yieldNotFound }
  duration := s.seq.duration
  required := s.results.readers
  takenBy := RoleSet.empty

/-- A record is written into the reserved place and RESULT_READY goes to its required readers (R19, R23). -/
def State.fileRecord (s : State) (r : ResultRecord) : State :=
  { s with results := { s.results with records := s.results.records ++ [r], reserved := false } }.addNoticeTo
    r.required .resultReady

/-- The state of the test is cleared in the strain and stress unit, the rate controller and the evaluator (R49,
step 5; R51, R65, R81). -/
def State.clearTest (s : State) : State :=
  { s with strain := StrainUnit.cleared s.strain.frame, rate := RateController.cleared, eval := Evaluator.cleared }

/-- TEST_ENDED to CONSOLE and SPECIMEN_DONE to CELL (R49, R50). -/
def State.noticeTestEnd (s : State) : State :=
  (s.addNotice .console .testEnded).addNotice .cell .specimenDone

/-- Step 4 of R49: SEQUENCER releases the authority it holds, and with no holder the front of the list is granted,
also a grant that was held back (R143). -/
def State.releaseAtCompletion (s : State) : State :=
  let s := if s.arbiter.holder = some .sequencer then s.dropHolder .released else s
  if s.arbiter.holder = none then s.grantFront else s

/-- The completion of a test (R49). -/
def State.completeTest (s : State) : State :=
  match s.queue.head?, s.seq.outcome with
  | some e, some outcome =>
    let r := s.assembleRecord e outcome s.seq.cause s.seq.note
    let s := (s.fileRecord r).removeHead.releaseAtCompletion
    let s := { s with seq := { s.seq with state := .idle, openSeen := false, endingTimer := none } }
    s.clearTest.noticeTestEnd.examineHead
  | _, _ => s

/-- The conditions of the ending wait (R48). -/
def State.endingSettled (s : State) : Bool :=
  s.seq.state == .ending && s.meter.rest
    && (s.link.state == .ready || s.link.state == .asleep || s.link.state == .lost)

/-- The ending wait is tested: when both conditions hold, the test completes (R48). -/
def State.testEnding (s : State) : State :=
  if s.endingSettled then s.completeTest else s

/-! ## ATTACH and the entry to RUN (R37, R38) -/

/-- Entry to RUN: the strain source is set, a test without an extensometer has nothing to release, and the rate
controller's initialisation becomes pending (R38, R53, R75). -/
def State.enterRun (s : State) (source : StrainSource) : State :=
  { s with
    strain := { s.strain with source := some source, delta := 0 }
    seq := { s.seq with state := .run, releaseSeen := s.seq.releaseSeen || source == .crosshead }
    rate := { s.rate with initPending := true } }

/-- The zero z and the first usable reading are the latest reading's elongation (R71). -/
def State.takeZero (s : State) : State :=
  match s.link.latest with
  | some r => { s with strain := { s.strain with zero := some r.elongation, lastUsable := some r.elongation } }
  | none => s

/-- ATTACH ends on the link's state: STREAMING gives RUN on the extensometer, LOST gives RUN on the crosshead with
EXT_ATTACH_FAILED (R37). -/
def State.testAttach (s : State) : State :=
  if s.seq.state = .attach then
    if s.link.state = .streaming then s.takeZero.enterRun .extensometer
    else if s.link.state = .lost then
      { s with seq := { s.seq with extAttachFailed := true } }.enterRun .crosshead
    else s
  else s

/-- A change of the link reaches the sequencer, in ATTACH and in ENDING (R37, R48). -/
def State.linkChanged (s : State) : State :=
  s.testAttach.testEnding

/-- The link enters READY, and a pending attach goes on from it (R130). The wait of ENDING is tested on each change
of the link's state (R48), so READY reaches the sequencer before the attach takes the link on to CLOSING. -/
def State.arriveReady (s : State) : State :=
  let s := s.enterReady
  if s.link.attachPending then
    let s := s.linkChanged
    s.continueAttach s.attachOwner
  else s

/-- The link enters ASLEEP, and a pending attach begins a wake under the timer it started (R137). ASLEEP reaches the
sequencer before the wake takes the link on to WAKING (R48). -/
def State.arriveAsleep (s : State) : State :=
  let s := s.enterAsleep
  if s.link.attachPending then s.linkChanged.beginWake else s

end Sys2Proof.Machine
end

