-- ==== Sys2Proof/Machine/Control.lean ====
section
/-! DEFINITION. The sequencer's requests and its own events (R26 to R34, R42 to R49). -/

namespace Sys2Proof.Machine

/-! ## Requests -/

/-- SET_AUTO_ARM (R26). -/
def execSetAutoArm (p : Role) (setting : Octet) (s : State) : Host.Outcome State Fault Refusal :=
  .next <| s.request p .setAutoArm fun s =>
    if s.config.inFlight.isSome then s.refuse p .setAutoArm .busy
    else
      match autoArmOfOctet setting with
      | none => s.refuseField p .setAutoArm 1
      | some b =>
        ({ s with seq := { s.seq with autoArm := b, autoArmPause := false } }.answer p .setAutoArm .ok
          []).examineHead

/-- ARM (R27, R28). -/
def execArm (p : Role) (s : State) : Host.Outcome State Fault Refusal :=
  .next <| s.request p .arm fun s =>
    if s.seq.state ≠ .idle then s.refuse p .arm .wrongState
    else
      match s.armFailure with
      | some st => s.refuse p .arm st
      | none => s.armHead.answer p .arm .ok []

/-- DISARM (R30). -/
def execDisarm (p : Role) (s : State) : Host.Outcome State Fault Refusal :=
  .next <| s.request p .disarm fun s =>
    if s.seq.state ≠ .armed then s.refuse p .disarm .wrongState
    else s.undoArming.sequencerReleases.pauseAutoArm.answer p .disarm .ok []

/-- START (R34, R35). -/
def execStart (p : Role) (s : State) : Host.Outcome State Fault Refusal :=
  .next <| s.request p .start fun s =>
    if s.seq.state ≠ .armed then s.refuse p .start .wrongState
    else if s.load.tare.isSome then s.refuse p .start .busy
    else if s.arbiter.holder ≠ some .sequencer ∨ ¬ s.inputs.grips ∨ s.load.referenceFault then
      s.refuse p .start .wrongState
    else s.startTest.answer p .start .ok []

/-- RUN becomes HOLD: commanded velocity 0 is written and the hold count rises (R42). -/
def State.enterHold (s : State) : State :=
  { s with seq := { s.seq with state := .hold, holds := min (s.seq.holds + 1) 65535 } }.seqWrite 0

/-- HOLD (R42). -/
def execHold (p : Role) (s : State) : Host.Outcome State Fault Refusal :=
  .next <| s.request p .hold fun s =>
    if s.seq.state ≠ .run then s.refuse p .hold .wrongState
    else s.enterHold.answer p .hold .ok []

/-- RESUME (R43, R53). The rate controller initialises on the next sample, on which the velocity is written. -/
def execResume (p : Role) (s : State) : Host.Outcome State Fault Refusal :=
  .next <| s.request p .resume fun s =>
    if s.seq.state ≠ .hold ∨ ¬ s.inputs.grips then s.refuse p .resume .wrongState
    else
      { s with
        seq := { s.seq with state := .run }
        rate := { s.rate with initPending := true } }.answer p .resume .ok []

/-- ABORT (R45). The ending wait is tested on entry (R48). -/
def execAbort (p : Role) (s : State) : Host.Outcome State Fault Refusal :=
  .next <| s.request p .abort fun s =>
    if ¬ s.seq.state.underTest then s.refuse p .abort .wrongState
    else ((s.enterEnding .aborted (some .operator)).testEnding).answer p .abort .ok []

/-! ## Events -/

/-- TEST_COMPLETION (R48, R49): with both conditions of the wait the test completes. -/
def execTestCompletion (s : State) : Host.Outcome State Fault Refusal :=
  .next <| s.whenRunning State.testEnding

/-- ENDING_TIMER_EXPIRY (R48): the note ENDING_TIMEOUT when none is present, and the completion. -/
def execEndingTimerExpiry (s : State) : Host.Outcome State Fault Refusal :=
  .next <| s.whenRunning fun s =>
    if s.seq.state = .ending then (s.addNote .endingTimeout).completeTest else s

/-- AUTO_ARM (R29). -/
def execAutoArm (s : State) : Host.Outcome State Fault Refusal :=
  .next <| s.whenRunning State.examineHead

/-- GRIPS_START (R33). -/
def execGripsStart (s : State) : Host.Outcome State Fault Refusal :=
  .next <| s.whenRunning State.testGripsStart

end Sys2Proof.Machine
end

