-- ==== Sys2Proof/Machine/Drive.lean ====
section
/-! DEFINITION. Motion authority and the crosshead drive: the requests of R144, R145 and R152 to R158, the end of a
period, the completion of a move, and the faults of the drive (R149 to R157). -/

namespace Sys2Proof.Machine

/-! ## Authority -/

/-- REQUEST_AUTHORITY (R144). -/
def execRequestAuthority (p : Role) (s : State) : Host.Outcome State Fault Refusal :=
  .next <| s.request p .requestAuthority fun s =>
    match partyOf p with
    | none => s.refuse p .requestAuthority .roleRefused
    | some q =>
      if s.inputs.latch then s.refuse p .requestAuthority .frameStopped
      else if s.arbiter.holder = some q then s.refuse p .requestAuthority .alreadyHeld
      else if q ∈ s.arbiter.waiting then s.refuse p .requestAuthority .alreadyWaiting
      else if s.arbiter.holder = none ∧ ¬ s.grantHeldBack then
        { s with arbiter := { s.arbiter with holder := some q } }.answer p .requestAuthority .ok []
      else
        { s with arbiter := { s.arbiter with waiting := s.arbiter.waiting ++ [q] } }.answer p
          .requestAuthority .accepted []

/-- A party's request leaves the waiting list, the order of the others kept (R143, R145). -/
def State.leaveList (s : State) (q : Party) : State :=
  { s with arbiter := { s.arbiter with waiting := s.arbiter.waiting.filter (· != q) } }

/-- RELEASE_AUTHORITY (R145). -/
def execReleaseAuthority (p : Role) (s : State) : Host.Outcome State Fault Refusal :=
  .next <| s.request p .releaseAuthority fun s =>
    match partyOf p with
    | none => s.refuse p .releaseAuthority .roleRefused
    | some q =>
      if s.arbiter.holder = some q then
        ((s.dropHolder .released).grantIfFree).answer p .releaseAuthority .ok []
      else if q ∈ s.arbiter.waiting then (s.leaveList q).answer p .releaseAuthority .ok []
      else s.refuse p .releaseAuthority .notHolder

/-! ## Moves (R154 to R156) -/

/-- Check 3 of R154, with the check of field 1 given. -/
def moveChecks (field1Passes : Bool) (speed : Int) : List (Nat × Bool) :=
  [(1, field1Passes), (2, within 1000 2000000 speed)]

/-- The speed in effect (R154): clamped to vmax, and to the jog limit for a JOG and while unreferenced. -/
def Drive.speedInEffect (d : Drive) (isJog : Bool) (speed : Int) : Int :=
  let v := min speed d.config.vmax
  if isJog ∨ ¬ d.referenced then min v d.config.jogLimit else v

/-- The raw target brought into the soft limits while referenced (R154). -/
def Drive.clampTarget (d : Drive) (raw : Int) : Int :=
  if d.referenced then clampInt d.config.lower.toInt d.config.upper.toInt raw else raw

/-- A position brought onto the step grid of the commanded position, counted toward it; the difference is formed
on the wrapped values (R147, R154). -/
def Drive.onGrid (d : Drive) (target : Word32) : Word32 :=
  d.commanded + BitVec.ofInt 32 ((target - d.commanded).toInt.tdiv d.config.step * d.config.step)

/-- A move in flight ends REPLACED, the counter advances and the new record is written (R154, R156). -/
def State.recordMove (s : State) (p : Role) (kind : MoveKind) (target : Word32) (speed : Int) (clamped : Bool) :
    State :=
  let s := s.endMove (some .replaced)
  let n := s.drive.moveCounter + 1
  { s with drive := { s.drive with moveCounter := n, move := some ⟨n, kind, p, target, speed, clamped, .travelling⟩ } }

/-- A move at its target: the generator stops at once, the phase becomes SETTLING, and the move completes while
the rest flag is set (R154, R155). -/
def State.settleMove (s : State) : State :=
  let s := s.stopGenerator
  let settled := s.drive.move.map fun m : MoveRecord => { m with phase := .settling }
  { s with drive := { s.drive with source := .move, move := settled } }.completeSettledMove

/-- The body of an accepted move's reply: number, target, speed and clamped mark (R154). -/
def moveBody (n : BitVec 16) (target : Word32) (speed : Int) (clamped : Bool) : List Octet :=
  num4 n.toNat ++ be4 target ++ num4 speed ++ flag1 clamped

/-- An accepted MOVE_TO or MOVE_BY with the raw target given (R154). The velocity written carries the sign of the
direction toward the target, the record and the reply the magnitude (R147, R150; 00_scope "Direction and
sign"). -/
def State.takeMove (s : State) (p : Role) (k : RequestKind) (kind : MoveKind) (raw speed : Int) : State :=
  let limited := s.drive.clampTarget raw
  let target := s.drive.onGrid (BitVec.ofInt 32 limited)
  let v := s.drive.speedInEffect false speed
  let clamped := limited != raw
  let s := s.recordMove p kind target v clamped
  let number := s.drive.moveCounter
  let toward := directionToward s.drive.commanded target
  let s := if target = s.drive.commanded then s.settleMove else s.writeVelocity .move (signOf toward * v)
  s.answer p k .ok (moveBody number target v clamped)

/-- MOVE_TO (R154). -/
def execMoveTo (p : Role) (target speed : Word32) (s : State) : Host.Outcome State Fault Refusal :=
  .next <| s.request p .moveTo fun s =>
    if ¬ s.portHolds p then s.refuse p .moveTo .notHolder
    else if ¬ s.drive.referenced then s.refuse p .moveTo .unreferenced
    else
      match lowestFailing (moveChecks true speed.toInt) with
      | some i => s.refuseField p .moveTo i
      | none => s.takeMove p .moveTo .moveTo target.toInt speed.toInt

/-- MOVE_BY (R154). -/
def execMoveBy (p : Role) (distance speed : Word32) (s : State) : Host.Outcome State Fault Refusal :=
  .next <| s.request p .moveBy fun s =>
    if ¬ s.portHolds p then s.refuse p .moveBy .notHolder
    else
      match lowestFailing (moveChecks (within (-100000000) 100000000 distance.toInt) speed.toInt) with
      | some i => s.refuseField p .moveBy i
      | none => s.takeMove p .moveBy .moveBy (s.drive.commanded.toInt + distance.toInt) speed.toInt

/-- An accepted JOG (R154). The velocity written carries the sign of the jog's direction. The manual gives its record
and its reply a target in effect without a value: a free value. -/
def State.takeJog (s : State) (p : Role) (direction : Direction) (speed : Int) : State :=
  let v := s.drive.speedInEffect true speed
  let target := Config.jogTarget s.freeCount
  let s := { s with freeCount := s.freeCount + 1 }.recordMove p (.jog direction) target v false
  let number := s.drive.moveCounter
  (s.writeVelocity .move (signOf direction * v)).answer p .jog .ok (moveBody number target v false)

/-- JOG (R154). -/
def execJog (p : Role) (direction : Octet) (speed : Word32) (s : State) : Host.Outcome State Fault Refusal :=
  .next <| s.request p .jog fun s =>
    if ¬ s.portHolds p then s.refuse p .jog .notHolder
    else
      match lowestFailing (moveChecks (directionOfOctet direction).isSome speed.toInt),
        directionOfOctet direction with
      | none, some dir => s.takeJog p dir speed.toInt
      | some i, _ => s.refuseField p .jog i
      | none, none => s.refuseField p .jog 1

/-- STOP_MOVE (R155). -/
def execStopMove (p : Role) (s : State) : Host.Outcome State Fault Refusal :=
  .next <| s.request p .stopMove fun s =>
    if ¬ s.portHolds p then s.refuse p .stopMove .notHolder
    else (s.stopGenerator.endMove (some .replaced)).answer p .stopMove .ok []

/-! ## Configuration and referencing (R152, R153) -/

/-- The generator is RUNNING or a move is in flight (R152, R153). -/
def Drive.busy (d : Drive) : Bool :=
  d.generator.isSome || d.move.isSome

/-- A position lies within the soft limits. -/
def DriveConfig.contains (c : DriveConfig) (x : Int) : Bool :=
  within c.lower.toInt c.upper.toInt x

/-- SET_POSITION (R153). -/
def execSetPosition (p : Role) (position : Word32) (s : State) : Host.Outcome State Fault Refusal :=
  .next <| s.request p .setPosition fun s =>
    if ¬ s.portHolds p then s.refuse p .setPosition .notHolder
    else if s.drive.busy then s.refuse p .setPosition .wrongState
    else if ¬ s.drive.config.contains position.toInt then s.refuseField p .setPosition 1
    else
      ({ s with
          drive := { s.drive with
            encoder := position, commanded := position, referenced := true } }.answer p .setPosition .ok
        []).examineHead

/-- Check 5 of R152: a referenced drive's commanded position lies within the new limits. -/
def Drive.limitChecks (d : Drive) (c : DriveConfig) : List (Nat × Bool) :=
  [ (4, !d.referenced || decide (c.lower.toInt ≤ d.commanded.toInt)),
    (5, !d.referenced || decide (d.commanded.toInt ≤ c.upper.toInt)) ]

/-- WRITE_DRIVE_CONFIG (R152, 11.8.7). -/
def execWriteDriveConfig (p : Role) (stepLength : Octet) (vmax jogLimit lower upper following : Word32)
    (s : State) : Host.Outcome State Fault Refusal :=
  .next <| s.request p .writeDriveConfig fun s =>
    let c : DriveConfig :=
      ⟨stepLength.toNat, vmax.toInt, jogLimit.toInt, lower, upper, following.toInt⟩
    if s.seq.state ≠ .idle then s.refuse p .writeDriveConfig .wrongState
    else if s.config.inFlight.isSome then s.refuse p .writeDriveConfig .busy
    else if s.drive.busy then s.refuse p .writeDriveConfig .wrongState
    else
      match lowestFailing (driveConfigChecks c), lowestFailing (s.drive.limitChecks c) with
      | some i, _ => s.refuseField p .writeDriveConfig i
      | none, some i => s.refuseField p .writeDriveConfig i
      | none, none =>
        { s with drive := { s.drive with config := c } }.answer p .writeDriveConfig .ok []

/-- READ_DRIVE (R158). -/
def execReadDrive (p : Role) (s : State) : Host.Outcome State Fault Refusal :=
  .next <| s.request p .readDrive fun s => s.answer p .readDrive .ok (driveOctets s.drive s.arbiter)

/-! ## Faults of the drive (R157) -/

/-- The abort cause of a drive fault (R46, R157). -/
def DriveFaultKind.cause : DriveFaultKind → Cause
  | .followingError => .followingError
  | .overspeed => .overspeed

/-- Step 3 of R157: the commanded position is set to the encoder position, and a drive whose encoder lies outside
the soft limits is no longer referenced. -/
def Drive.takeUp (d : Drive) : Drive :=
  { d with
    commanded := d.encoder
    referenced := d.referenced && d.config.contains d.encoder.toInt }

/-- A fault of the drive (R157): steps 1 to 5 for FOLLOWING_ERROR, and all but step 3 for OVERSPEED. -/
def State.driveFault (s : State) (kind : DriveFaultKind) : State :=
  let s := s.stopGenerator
  let d := { s.drive with lastFault := some ⟨kind, s.drive.commanded, s.drive.encoder⟩ }
  let s := { s with drive := match kind with
    | .followingError => d.takeUp
    | .overspeed => d }
  ((((s.endMove (some .fault)).revokeHolder .fault kind.cause).grantIfFree)).testEnding

/-- The magnitude of the following error, on the wrapped difference, exceeds the limit (R147, R157). -/
def Drive.followingExceeded (d : Drive) : Bool :=
  decide (d.config.following < ((d.commanded - d.encoder).toInt.natAbs : Int))

/-- The following-error supervision judges (R157). -/
def State.judgeFollowing (s : State) : State :=
  if s.drive.followingExceeded then s.driveFault .followingError else s

/-! ## The end of a period (R149, R151, R155) -/

/-- The step of one pulse, in counts. -/
def Drive.pulseStep (d : Drive) (dir : Direction) : Int :=
  match dir with
  | .opening => d.config.step
  | .closing => -d.config.step

/-- A pulse would carry a referenced commanded position outside the soft limits (R151). -/
def Drive.limitStops (d : Drive) (dir : Direction) : Bool :=
  d.referenced && !d.config.contains (d.commanded.toInt + d.pulseStep dir)

/-- The move in flight has a target and the commanded position stands on it. -/
def Drive.atTarget (d : Drive) : Bool :=
  match d.move with
  | some m =>
    (match m.kind with
     | .jog _ => false
     | _ => m.target == d.commanded)
  | none => false

/-- A soft-limit stop (R151): the generator stops without the pulse, a move ends with cause LIMIT, and under the
sequencer's velocity TRAVEL_LIMIT is reported. -/
def State.limitStop (s : State) : State :=
  let fromSequencer := s.drive.source == .sequencer
  let s := s.stopGenerator.endMove (some .limit)
  if fromSequencer then (s.reportFault .travelLimit).testEnding else s

/-- The pulse: the commanded position moves by the step length (R149). -/
def State.pulse (s : State) (dir : Direction) : State :=
  { s with drive := { s.drive with commanded := s.drive.commanded + BitVec.ofInt 32 (s.drive.pulseStep dir) } }

/-- The next period: the buffer's, else the same again, in the direction then taken (R149, R150). -/
def State.nextPeriod (s : State) (g : Period) : State :=
  { s with
    drive := { s.drive with
      generator := some ⟨s.drive.buffer.getD g.ticks, 0, s.drive.periodDirection⟩
      buffer := none } }

/-- The end of the period in progress (R149). The supervision judges the pulse before the move's target does. -/
def State.periodEnd (s : State) : State :=
  match s.drive.generator with
  | none => s
  | some g =>
    if s.drive.atTarget then s.settleMove
    else if s.drive.limitStops g.direction then s.limitStop
    else
      let s := s.pulse g.direction
      if s.drive.followingExceeded then s.driveFault .followingError
      else if s.drive.atTarget then s.settleMove
      else s.nextPeriod g

/-- PERIOD_END (R149). -/
def execPeriodEnd (s : State) : Host.Outcome State Fault Refusal :=
  .next <| s.whenRunning State.periodEnd

/-- MOVE_COMPLETION (R155): a move in SETTLING ends DONE while the rest flag is set. -/
def execMoveCompletion (s : State) : Host.Outcome State Fault Refusal :=
  .next <| s.whenRunning State.completeSettledMove

end Sys2Proof.Machine
end

