-- ==== Sys2Proof/Machine/HeadLine.lean ====
section
/-! DEFINITION. The head line (R125): characters, the command frames the part sends, and the forming of the head's
frames from the characters received, each of which names the command of the table that it is. -/

namespace Sys2Proof.Machine

/-! ## Characters -/

/-- The levels of one character, true for high: the start bit, eight data bits from the least significant, the stop
bit (R125). -/
def characterLevels (o : Octet) : List Bool :=
  [false] ++ (List.range 8).map (fun n => o.getLsbD n) ++ [true]

/-- An octet from the levels of its eight data bits, the least significant first (R125). -/
def octetOfLevels (levels : List Bool) : Octet :=
  BitVec.ofNat 8 (levels.foldr (fun b n => 2 * n + (if b then 1 else 0)) 0)

/-- A character received, from its levels sampled once a bit time after the start bit: its octet, or none with a low
stop bit (R125). -/
def characterOfLevels (levels : List Bool) : Option Octet :=
  if levels.getD 8 false then some (octetOfLevels (levels.take 8)) else none

/-! ## Commands -/

/-- The type octet of a command (R125). -/
def HeadCommand.code : HeadCommand → Octet
  | .closeArms => 0xC1
  | .openArms => 0xC2
  | .streamOn => 0xC3
  | .streamOff => 0xC4
  | .sleep => 0xC5

/-- A command frame: the type and its check (R125). -/
def HeadCommand.frame (c : HeadCommand) : List Octet :=
  [c.code, crc8 [c.code]]

/-- The octets the shifter's command puts on XTX; a break and an empty shifter put none (R125, R127). -/
def ExtLink.lineOctets (l : ExtLink) : List Octet :=
  match l.shifter with
  | .command c _ _ => c.command.frame
  | .sendingBreak => []
  | .empty => []

/-! ## Frames from the head -/

/-- The length a type octet fixes: STATUS and reading frames (R125). -/
def frameLength (type : Octet) : Option Nat :=
  if type = 0xA0 then some 4 else if type = 0xA5 then some 7 else none

/-- An arms state octet of a STATUS frame, none above 3 (R125). -/
def armsOfOctet (o : Octet) : Option ArmsState :=
  if o = 0 then some .opened
  else if o = 1 then some .closing
  else if o = 2 then some .closed
  else if o = 3 then some .opening
  else none

/-- The last octet of a frame is the CRC-8 of those before it (R125). -/
def frameChecks (f : List Octet) : Bool :=
  f.getD (f.length - 1) 0 == crc8 (f.take (f.length - 1))

/-- The elongation of a reading frame: its octets 2 to 4, the least significant first (R125). -/
def frameElongation (f : List Octet) : Word24 :=
  f.getD 4 0 ++ f.getD 3 0 ++ f.getD 2 0

/-- What a frame of its full length is: a STATUS frame, a reading frame, or a discarded frame (R125). -/
def frameEvent (f : List Octet) : Instr :=
  if ¬ frameChecks f then .frameDiscarded .badCheck
  else if f.getD 0 0 = 0xA0 then
    match armsOfOctet (f.getD 1 0) with
    | some arms => .statusFrame arms (f.getD 2 0)
    | none => .frameDiscarded .armsAboveThree
  else .readingFrame (f.getD 1 0) (frameElongation f) (f.getD 5 0)

/-- The octets of the leading characters that have a high stop bit. -/
def octetsBeforeLowStop : List (Option Octet) → List Octet
  | some o :: rest => o :: octetsBeforeLowStop rest
  | _ => []

/-- The first frame in a run of characters, and the characters after it. A run ends where the line rests high for 20
bit-times: a frame that needs more characters is cut short there, and an unknown type or a low stop bit in the
frame discards the rest of the run (R125). -/
def takeFrame (chars : List (Option Octet)) : Option (Instr × List (Option Octet)) :=
  match chars with
  | [] => none
  | none :: _ => some (.frameDiscarded .lowStopBit, [])
  | some type :: _ =>
    match frameLength type with
    | none => some (.frameDiscarded .unknownType, [])
    | some n =>
      let octets := octetsBeforeLowStop (chars.take n)
      if octets.length = n then some (frameEvent octets, chars.drop n)
      else if octets.length < chars.length then some (.frameDiscarded .lowStopBit, [])
      else some (.frameDiscarded .restedHigh, [])

/-- The frames of a run of characters, at most `fuel` of them; every frame takes a character. -/
def framesUpTo : Nat → List (Option Octet) → List Instr
  | 0, _ => []
  | fuel + 1, chars =>
    match takeFrame chars with
    | none => []
    | some (frame, rest) => frame :: framesUpTo fuel rest

/-- The commands that a run of characters brings, received while the rate lock is held between two rests of the line:
its frames in order, then the rest that ends it (R125). -/
def framesOfRun (chars : List (Option Octet)) : List Instr :=
  framesUpTo chars.length chars ++ [.lineRestedHigh]

end Sys2Proof.Machine
end

