-- ==== Sys2Proof/Machine/Evaluate.lean ====
section
/-! DEFINITION. The result evaluator's work on one sample (R82 to R100). -/

namespace Sys2Proof.Machine

/-- Step 1 of R82: the maximum-force tracker; a tie does not move the point (R83). -/
def Evaluator.track (e : Evaluator) (x : TestSample) : Evaluator :=
  match e.maximum with
  | none => { e with maximum := some x }
  | some m => if m.force < x.force then { e with maximum := some x } else e

/-- Fracture detection is armed: Fm has reached the arm force and the ring holds 8 entries (R97). -/
def fractureArmed (b : ProgramBody) (fm : Int) (ring : List TestSample) : Bool :=
  decide (b.fractureArm ≤ fm) && ring.length == Config.ringSize

/-- The drop condition or the low-cut condition (R98). -/
def fractureHolds (b : ProgramBody) (fm oldest force : Int) : Bool :=
  decide (force ≤ oldest - roundDiv (fm * b.fractureDrop) 1000) || decide (force * 1000 ≤ fm * b.lowCut)

/-- Step 2 of R82, on the evaluator after step 1: fracture is detected on the sample (R97, R98). -/
def Evaluator.fractures (e : Evaluator) (b : ProgramBody) (x : TestSample) : Bool :=
  match e.maximum, e.ring with
  | some m, oldest :: _ => fractureArmed b m.force e.ring && fractureHolds b m.force oldest.force x.force
  | _, _ => false

/-- At detection the oldest ring entry becomes the break sample, and EXT_AT_BREAK is set when the source is
EXTENSOMETER (R98, R99). -/
def Evaluator.takeBreak (e : Evaluator) (source : Option StrainSource) : Evaluator :=
  { e with
    breakSample := e.ring.head?
    extAtBreak := e.extAtBreak || source == some .extensometer }

/-- The modulus is substituted by E nominal when the mode is SECANT and it is unsettled (R88). -/
def Evaluator.substitute (e : Evaluator) (b : ProgramBody) : Evaluator :=
  if b.modulusMode = .secant ∧ e.modulus = none then
    { e with modulus := some ⟨b.nominal, .substituted⟩, modulusSubstituted := true }
  else e

/-- The secant is accepted: the strain difference is positive and E lies in half to one and a half times E nominal
(R87). -/
def secantAccepted (nominal : Int) (a c : StressStrain) : Bool :=
  let e := roundDiv ((c.sigma - a.sigma) * 10000) (c.epsilon - a.epsilon)
  decide (0 < c.epsilon - a.epsilon) && within (roundDiv nominal 2) (roundDiv (nominal * 3) 2) e

/-- The modulus is settled from the two secant points (R87). -/
def Evaluator.settleSecant (e : Evaluator) (b : ProgramBody) (a c : StressStrain) : Evaluator :=
  if secantAccepted b.nominal a c then
    { e with modulus := some ⟨roundDiv ((c.sigma - a.sigma) * 10000) (c.epsilon - a.epsilon), .secant⟩ }
  else { e with modulus := some ⟨b.nominal, .substituted⟩, modulusSubstituted := true }

/-- Step 3 of R82: the secant points, and the modulus on the second (R86, R87). -/
def Evaluator.modulusStep (e : Evaluator) (b : ProgramBody) (x : StressStrain) : Evaluator :=
  if b.modulusMode = .secant ∧ e.modulus = none then
    let e := if e.secant1 = none ∧ b.sigmaLo ≤ x.sigma then { e with secant1 := some x } else e
    match e.secant1, e.secant2 with
    | some a, none =>
      if b.sigmaHi ≤ x.sigma then { e with secant2 := some x }.settleSecant b a x else e
    | _, _ => e
  else e

/-- YIELD_END is raised, once in a test (R95). -/
def Evaluator.raiseYieldEnd (e : Evaluator) : Evaluator :=
  { e with yieldEndRaised := true }

/-- The running maximum of the yield search; a tie keeps the earlier sample (R89). -/
def Evaluator.updatePeak (e : Evaluator) (x : StressStrain) : Evaluator :=
  match e.peak with
  | none => { e with peak := some x }
  | some p => if p.sigma < x.sigma then { e with peak := some x } else e

/-- A plateau sample qualifies for ReL and for the plateau's end (R93, R94). R93 also says that with a transient window
of 0 every plateau sample qualifies; a sample whose strain has fallen below that of ReH does not, by the test that
R93 states first (DESIGN CHOICE, log entry 41). -/
def qualifies (b : ProgramBody) (reh : StressStrain) (x : StressStrain) : Bool :=
  decide (reh.epsilon + b.transient ≤ x.epsilon)

/-- Case 2 of R89: the drop test against the running maximum. -/
def Evaluator.dropFrom (e : Evaluator) (b : ProgramBody) (x : StressStrain) : Option StressStrain :=
  match e.peak with
  | some p => if b.sigmaLo ≤ p.sigma ∧ x.sigma ≤ p.sigma - b.yieldDrop then some p else none
  | none => none

/-- Case 3 of R89: the plastic strain has reached the proof offset under a settled modulus. -/
def Evaluator.proofReached (e : Evaluator) (b : ProgramBody) (x : StressStrain) : Bool :=
  match e.modulus with
  | some m => decide (b.proofOffset ≤ x.epsilon - elasticStrain x.sigma m.e)
  | none => false

/-- The upper yield point is found and the plateau opens with the drop sample (R90, R93). -/
def Evaluator.openPlateau (e : Evaluator) (b : ProgramBody) (peak x : StressStrain) : Evaluator :=
  let e := e.substitute b
  { e with
    reh := some peak
    search := .foundReh
    plateau := .opened
    plateauMin := some x.sigma
    rel := if qualifies b peak x then some x.sigma else none }

/-- One sample of the ACTIVE yield search (R89 to R92). -/
def Evaluator.searchStep (e : Evaluator) (b : ProgramBody) (x : StressStrain) : Evaluator :=
  if b.searchLimit ≤ x.epsilon then
    ({ e with search := .ended, yieldNotFound := true }.substitute b).raiseYieldEnd
  else
    match e.dropFrom b x with
    | some peak => e.openPlateau b peak x
    | none =>
      if e.proofReached b x then
        ({ e with search := .foundRp, rp := some x.sigma }.raiseYieldEnd).updatePeak x
      else e.updatePeak x

/-- One sample of the OPEN plateau: its end, or the two minima (R93, R94). -/
def Evaluator.plateauStep (e : Evaluator) (b : ProgramBody) (x : StressStrain) : Evaluator :=
  match e.reh, e.plateauMin with
  | some reh, some m =>
    if qualifies b reh x ∧ m + b.rise ≤ x.sigma then
      { e with plateau := .closed, ae := some (x.epsilon - reh.epsilon) }.raiseYieldEnd
    else
      { e with
        plateauMin := some (min m x.sigma)
        rel :=
          if qualifies b reh x then
            (match e.rel with
             | some r => some (min r x.sigma)
             | none => some x.sigma)
          else e.rel }
  | _, _ => e

/-- Step 4 of R82: the yield search while it is ACTIVE, else the plateau while it is OPEN. -/
def Evaluator.yieldStep (e : Evaluator) (b : ProgramBody) (x : StressStrain) : Evaluator :=
  if e.search = .active then e.searchStep b x
  else if e.plateau = .opened then e.plateauStep b x
  else e

/-- Step 5 of R82: the sample becomes the ring's newest entry; a full ring gives up its oldest first (R96). -/
def Evaluator.pushRing (e : Evaluator) (x : TestSample) : Evaluator :=
  let kept := if Config.ringSize ≤ e.ring.length then e.ring.tail else e.ring
  { e with ring := kept ++ [x] }

/-- The evaluator begins on the preload sample; with NOMINAL the modulus is settled from it (R82, R85). -/
def Evaluator.begin (e : Evaluator) (b : ProgramBody) : Evaluator :=
  { e with
    detectors := true
    modulus := if b.modulusMode = .nominal then some ⟨b.nominal, .nominal⟩ else e.modulus }

/-- The work of R82 on one computed sample: the evaluator after it, and whether fracture was detected. -/
def Evaluator.sample (e : Evaluator) (b : ProgramBody) (source : Option StrainSource) (x : TestSample) :
    Evaluator × Bool :=
  let e := e.track x
  if ¬ e.detectors then (e, false)
  else if e.fractures b x then (e.takeBreak source, true)
  else
    let y : StressStrain := ⟨x.sigma, x.epsilon⟩
    let e := if source.isSome then (e.modulusStep b y).yieldStep b y else e
    (e.pushRing x, false)

end Sys2Proof.Machine
end

