-- ==== Sys2Proof/Machine/Load.lean ====
section
/-! DEFINITION. The load unit: slots, the conversion to force, overrange, the reference check and the tare walk
(R103 to R122), and its requests. -/

namespace Sys2Proof.Machine

/-! ## Slots (R104) -/

inductive SlotKind where
  | reference | settling | converted
  deriving DecidableEq, Repr

/-- The number of the slot that begins, modulo 256 (R103). -/
def LoadUnit.nextSlot (l : LoadUnit) : BitVec 8 := l.slotNumber + 1

/-- The kind of the slot that begins (R104). -/
def LoadUnit.nextKind (l : LoadUnit) : SlotKind :=
  if l.nextSlot = 0 then .reference else if l.settling then .settling else .converted

/-- Every slot takes its number and clears settling pending at its start (R104). -/
def LoadUnit.beginSlot (l : LoadUnit) : LoadUnit :=
  { l with slotNumber := l.nextSlot, settling := false }

/-! ## From raw count to force (R109 to R112) -/

/-- A raw count at either end value is saturated (R109). -/
def saturated (r : Int) : Bool :=
  r == 8388607 || r == -8388608

/-- The calibration segment of a tared count: its lower and upper point (R110, step 2). -/
def segmentFor : List (Int × Int) → Int → Option ((Int × Int) × (Int × Int))
  | p :: q :: rest, c => if rest = [] ∨ c < q.1 then some (p, q) else segmentFor (q :: rest) c
  | _, _ => none

/-- The unclamped force of a tared count (R110, step 3). -/
def unclampedForce (points : List (Int × Int)) (c : Int) : Option Int :=
  (segmentFor points c).map fun (p, q) => p.2 + roundDiv ((c - p.1) * (q.2 - p.2)) (q.1 - p.1)

/-- Overrange (R112). -/
def overrange (fullScale r unclamped : Int) : Bool :=
  saturated r || decide (fullScale * 98 ≤ (unclamped.natAbs : Int) * 100)

/-- The force of a held sample: the previous force clamped to the active range, absent on an unwritten range or
after an absent sample (R111). R119 has the samples of a tare walk repeat the last force before the tare; with the
calibration INVALID the model follows R111 in the walk too, so that on an unwritten walk range, and on the written
ranges the walk measures after it, the held sample is absent (DESIGN CHOICE, log entry 13). -/
def LoadUnit.heldForce (l : LoadUnit) : Option Int :=
  match l.tables.get l.activeRange, l.last.force with
  | some t, some f => some (clampInt (-t.fullScale) t.fullScale f)
  | _, _ => none

/-- A held sample is delivered (R111). -/
def LoadUnit.deliverHeld (l : LoadUnit) : LoadUnit :=
  { l with last := ⟨l.heldForce, true, l.activeRange⟩ }

/-- The unclamped force of raw count `r` on the active range, when its table is written (R110). -/
def LoadUnit.convert (l : LoadUnit) (r : Int) : Option (RangeTable × Int) :=
  (l.tables.get l.activeRange).bind fun t =>
    (unclampedForce t.points (r - l.offsets.get l.activeRange)).map fun f => (t, f)

/-- Raw count `r` overranges the active range (R112). -/
def LoadUnit.overranges (l : LoadUnit) (r : Int) : Bool :=
  match l.convert r with
  | some (t, f) => overrange t.fullScale r f
  | none => false

/-- A converted sample is delivered: clamped to ±FS, or absent on an unwritten range (R110, R111). -/
def LoadUnit.deliverConverted (l : LoadUnit) (r : Int) : LoadUnit :=
  let force := (l.convert r).map fun (t, f) => clampInt (-t.fullScale) t.fullScale f
  { l with last := ⟨force, false, l.activeRange⟩ }

/-! ## Overrange during a test (R113, R114) -/

/-- The range one wider. -/
def widerRange (k : Fin 4) : Fin 4 :=
  match k with
  | 0 => 0
  | 1 => 0
  | 2 => 1
  | 3 => 2

/-- What overrange does after the sample is delivered: a step-up on ranges 1 to 3 in a test, counted by the
sequencer; a report on range 0; nothing outside a test (R113, R114). -/
def State.overrangeActs (s : State) : State :=
  if s.seq.state.inTest then
    if s.load.activeRange = 0 then s.reportFault .loadOverrange
    else
      { s with
        load := s.load.setRange (widerRange s.load.activeRange)
        seq := { s.seq with rangeSwitches := s.seq.rangeSwitches + 1 } }
  else s

/-! ## The tare walk (R118 to R121) -/

/-- A tare begins: the active range is the return range and range 0 is measured first (R119). -/
def LoadUnit.beginTare (l : LoadUnit) : LoadUnit :=
  { l.setRange 0 with
    tare := some { range := 0, count := 0, sum := 0, found := [], returnRange := l.activeRange } }

/-- The tare ends: the return range becomes active (R120, R121). -/
def LoadUnit.endTare (l : LoadUnit) (w : TareWalk) : LoadUnit :=
  { l.setRange w.returnRange with tare := none }

/-- The tare fails: the old offsets stay in force and TARE_FAILED goes to CONSOLE (R121). -/
def State.failTare (s : State) : State :=
  match s.load.tare with
  | none => s
  | some w => { s with load := s.load.endTare w }.addNotice .console .tareFailed

/-- The new offset of a range (R119, step 4). -/
def TareWalk.offset (w : TareWalk) : Int :=
  roundDiv w.sum Config.tareConversions

/-- The walk's range has its 64 conversions and is not range 3: its new offset is kept aside and the walk goes on
to the next range (R119). -/
def LoadUnit.nextTareRange (l : LoadUnit) (w : TareWalk) (k : Fin 4) : LoadUnit :=
  { l.setRange k with
    tare := some { w with range := k, count := 0, sum := 0, found := w.found ++ [w.offset] } }

/-- The tare commits: the four new offsets replace t_0 to t_3 together and the return range becomes active
(R120). -/
def LoadUnit.commitTare (l : LoadUnit) (w : TareWalk) : LoadUnit :=
  let found := w.found ++ [w.offset]
  { l.endTare w with
    offsets := ⟨found.getD 0 0, found.getD 1 0, found.getD 2 0, found.getD 3 0⟩ }

/-- A walk range with its 64th conversion: the next range, or the commit on range 3 (R119, R120). -/
def State.advanceTare (s : State) : State :=
  match s.load.tare with
  | none => s
  | some w =>
    if w.count < Config.tareConversions then s
    else
      match w.range with
      | 0 => { s with load := s.load.nextTareRange w 1 }
      | 1 => { s with load := s.load.nextTareRange w 2 }
      | 2 => { s with load := s.load.nextTareRange w 3 }
      | 3 => { s with load := s.load.commitTare w }.addNotice .console .tareDone

/-- A converted slot of the walk: the sample is held; a saturated count fails the tare, any other is added to the
sum (R119, R121). -/
def State.tareSlot (s : State) (w : TareWalk) (r : Int) : State :=
  let s := { s with load := s.load.deliverHeld }
  if saturated r then s.failTare
  else
    { s with
      load := { s.load with tare := some { w with count := w.count + 1, sum := w.sum + r } } }.advanceTare

/-! ## The reference check (R117) -/

/-- The reading is out of tolerance (R117). -/
def outOfTolerance (e : ReferenceExpectation) (r : Int) : Bool :=
  decide (e.tolerance < ((r - e.expected).natAbs : Int))

/-- The check of a reference slot: a fault newly set is reported to the sequencer, and an out-of-tolerance
reading fails a tare in flight (R117, R121). -/
def State.checkReference (s : State) (r : Int) : State :=
  match s.load.reference with
  | none => s
  | some e =>
    if outOfTolerance e r then
      let newly := !s.load.referenceFault
      let s := { s with load := { s.load with referenceFault := true } }
      let s := if newly then s.reportFault .loadReferenceFault else s
      s.failTare
    else { s with load := { s.load with referenceFault := false } }

/-! ## The load unit's part of a slot -/

/-- The load unit's part of a conversion slot whose converter delivers `r`: the slot begins, its sample is
delivered, and the reference check, the tare walk or the overrange test follows (R104, R110 to R121). -/
def State.loadSlot (s : State) (r : Int) : State :=
  let kind := s.load.nextKind
  let s := { s with load := s.load.beginSlot }
  match kind with
  | .reference => { s with load := s.load.deliverHeld }.checkReference r
  | .settling => { s with load := s.load.deliverHeld }
  | .converted =>
    match s.load.tare with
    | some w => s.tareSlot w r
    | none =>
      let exceeds := s.load.overranges r
      let s := { s with load := s.load.deliverConverted r }
      if exceeds then s.overrangeActs else s

/-- The end of a tare and the clearing of the reference fault are events on which auto-arm and the grips start are
tested (R29, R33, R117, R120, R121). `before` is the state before the event. -/
def State.afterLoadEvent (s : State) (before : LoadUnit) : State :=
  if (before.tare.isSome ∧ s.load.tare.isNone) ∨ (before.referenceFault ∧ ¬ s.load.referenceFault) then
    s.examineHead.testGripsStart
  else s

/-! ## Requests -/

/-- Checks 1 to 3 of R106, shared with R107. -/
def State.calibrationBlocked (s : State) : Option Status :=
  if s.seq.state ≠ .idle then some .wrongState
  else if s.load.tare.isSome then some .busy
  else if s.config.inFlight.isSome then some .busy
  else none

/-- WRITE_CALIBRATION (R106). -/
def execWriteCalibration (p : Role) (body : List Octet) (s : State) : Host.Outcome State Fault Refusal :=
  .next <| s.sizedRequest p .writeCalibration body.length fun s =>
    match s.calibrationBlocked with
    | some st => s.refuse p .writeCalibration st
    | none =>
      match calibrationFailure s.load.tables body with
      | some i => s.refuseField p .writeCalibration i
      | none =>
        let table : RangeTable := ⟨field4 body 1, pointsOfOctets body (field1 body 5)⟩
        let load := { s.load with tables := s.load.tables.set (rangeOfNat (field1 body 0)) (some table) }
        ({ s with load := load }.answer p .writeCalibration .ok (flag1 load.calibrationValid)).examineHead

/-- WRITE_REFERENCE (R107). -/
def execWriteReference (p : Role) (expected tolerance : Word32) (s : State) :
    Host.Outcome State Fault Refusal :=
  .next <| s.request p .writeReference fun s =>
    match s.calibrationBlocked with
    | some st => s.refuse p .writeReference st
    | none =>
      if ¬ within (-8388608) 8388607 expected.toInt then s.refuseField p .writeReference 1
      else if ¬ within 1 1000000 tolerance.toInt then s.refuseField p .writeReference 2
      else
        let load := { s.load with reference := some ⟨expected.toInt, tolerance.toInt⟩ }
        ({ s with load := load }.answer p .writeReference .ok (flag1 load.calibrationValid)).examineHead

/-- READ_CALIBRATION (R108). -/
def execReadCalibration (p : Role) (s : State) : Host.Outcome State Fault Refusal :=
  .next <| s.request p .readCalibration fun s =>
    s.answer p .readCalibration .ok (calibrationOctets s.load)

/-- SET_RANGE (R116). -/
def execSetRange (p : Role) (range : Octet) (s : State) : Host.Outcome State Fault Refusal :=
  .next <| s.request p .setRange fun s =>
    if 3 < range.toNat then s.refuseField p .setRange 1
    else if s.seq.state ≠ .idle then s.refuse p .setRange .wrongState
    else if s.load.tare.isSome then s.refuse p .setRange .busy
    else { s with load := s.load.setRange (rangeOfNat range.toNat) }.answer p .setRange .ok []

/-- TARE (R118). -/
def execTare (p : Role) (s : State) : Host.Outcome State Fault Refusal :=
  .next <| s.request p .tare fun s =>
    if s.seq.state ≠ .idle ∧ s.seq.state ≠ .armed then s.refuse p .tare .wrongState
    else if s.load.tare.isSome then s.refuse p .tare .busy
    else { s with load := s.load.beginTare }.answer p .tare .accepted []

/-! ## Events of the walk -/

/-- TARE_RANGE_COMPLETE (R119): a walk range other than 3 with its 64th conversion gives way to the next. -/
def execTareRangeComplete (s : State) : Host.Outcome State Fault Refusal :=
  .next <| s.whenRunning fun s =>
    match s.load.tare with
    | some w => if w.range = 3 then s else s.advanceTare
    | none => s

/-- TARE_COMMIT (R120): range 3 with its 64th conversion commits the tare. -/
def execTareCommit (s : State) : Host.Outcome State Fault Refusal :=
  .next <| s.whenRunning fun s =>
    match s.load.tare with
    | some w => if w.range = 3 then s.advanceTare.afterLoadEvent s.load else s
    | none => s

end Sys2Proof.Machine
end

