-- ==== Sys2Proof/Machine/Rate.lean ====
section
/-! DEFINITION. The rate controller's computation on one sample (R52 to R60). -/

namespace Sys2Proof.Machine

/-- The measured value of the active mode: ε in STRAIN_RATE, σ in STRESS_RATE (R56). CROSSHEAD_SPEED has none. -/
def RateController.measured (r : RateController) (epsilon sigma : Int) : Option Int :=
  match r.mode with
  | some .strainRate => some epsilon
  | some .stressRate => some sigma
  | _ => none

/-- An initialisation loads the segment and sets the target to the measured value (R54). -/
def RateController.initialise (g : Segment) (epsilon sigma : Int) : RateController where
  target := match g.mode with
    | .strainRate => epsilon * 10000
    | .stressRate => sigma * 10000
    | .crossheadSpeed => 0
  mode := some g.mode
  rate := g.rate
  gain := g.gain
  lead := g.lead
  initPending := false

/-- The advance of the target: rate × 5 in STRAIN_RATE and STRESS_RATE (R55). -/
def RateController.advance (r : RateController) : RateController :=
  match r.mode with
  | some .strainRate => { r with target := r.target + r.rate * 5 }
  | some .stressRate => { r with target := r.target + r.rate * 5 }
  | _ => r

/-- The lead clamp around the measured value `m` (R56). -/
def RateController.leadClamp (r : RateController) (m : Int) : RateController :=
  { r with target := m * 10000 + clampInt (-(r.lead * 10000)) (r.lead * 10000) (r.target - m * 10000) }

/-- The lead clamp in STRAIN_RATE and STRESS_RATE (R52 part 2, R56). -/
def RateController.clampLead (r : RateController) (epsilon sigma : Int) : RateController :=
  match r.measured epsilon sigma with
  | some m => r.leadClamp m
  | none => r

/-- The correction term: round(e × gain / 10,000) (R57, R58). -/
def RateController.correction (r : RateController) (m : Int) : Int :=
  roundDiv ((r.target - m * 10000) * r.gain) 10000

/-- The command of the active mode (R57, R58, R59); `parallel` is the length in use. -/
def RateController.command (r : RateController) (epsilon sigma parallel : Int) : Int :=
  match r.mode with
  | some .strainRate => roundDiv (r.rate * parallel) 1000 + r.correction epsilon
  | some .stressRate => r.correction sigma
  | some .crossheadSpeed => r.rate
  | none => 0

/-- One computation (R52): the controller after it and its output, limited to 0 to vmax (R60). -/
def RateController.compute (r : RateController) (g : Segment) (epsilon sigma parallel vmax : Int) :
    RateController × Int :=
  let r := if r.initPending then RateController.initialise g epsilon sigma else r.advance
  let r := r.clampLead epsilon sigma
  (r, clampInt 0 vmax (r.command epsilon sigma parallel))

end Sys2Proof.Machine
end

