-- ==== Sys2Proof/Machine/Strain.lean ====
section
/-! DEFINITION. The strain and stress unit's computations (R69 to R77), and its two requests (R67). -/

namespace Sys2Proof.Machine

/-- Stress from force and area (R72). -/
def stressOf (force area : Int) : Int :=
  roundDiv (force * 10000) area

/-- Extensometer strain from the last usable reading, the zero and the gauge length (R73). -/
def extStrainOf (reading zero gauge : Int) : Int :=
  roundDiv ((reading - zero) * 10000) gauge

/-- Crosshead strain (R74): the elongation in nanometres, then the strain. -/
def crossheadStrainOf (p p0 : Word32) (compliance force fPre parallel : Int) : Int :=
  let elongation := (p.toInt - p0.toInt) * 100 - roundDiv (compliance * (force - fPre)) 10000
  roundDiv (elongation * 1000) parallel

/-- Extensometer strain is formed while the zero is present (R69, R73). -/
def StrainUnit.extStrain (u : StrainUnit) : Option Int :=
  match u.lastUsable, u.zero, u.extGauge with
  | some r, some z, some l => some (extStrainOf r z l)
  | _, _, _ => none

/-- The reported strain before its clamp, by the strain source (R75). -/
def StrainUnit.unclamped (u : StrainUnit) (extStrain : Option Int) (crosshead : Int) : Int :=
  match u.source with
  | none => crosshead
  | some .extensometer => extStrain.getD crosshead
  | some .crosshead => crosshead + u.delta

/-- One computed sample (R69): σ, εe, εc and the reported ε, clamped (R76). -/
def StrainUnit.compute (u : StrainUnit) (force : Int) (p : Word32) : StrainUnit :=
  match u.area, u.parallel, u.p0, u.fPre with
  | some area, some parallel, some p0, some fPre =>
    let epsilonE := u.extStrain
    let epsilonC := crossheadStrainOf p p0 u.frame.compliance force fPre parallel
    { u with
      sigma := some (stressOf force area)
      epsilonE := epsilonE
      epsilonC := some epsilonC
      epsilon := some (clampInt (-2000000) 2000000 (u.unclamped epsilonE epsilonC)) }
  | _, _, _, _ => u

/-- The origins are set from the preload sample (R70). -/
def StrainUnit.setOrigins (u : StrainUnit) (force : Int) (p : Word32) : StrainUnit :=
  { u with p0 := some p, fPre := some force }

/-- The hand-off (R77): δ = εe − εc of this sample, and the source becomes CROSSHEAD. -/
def StrainUnit.handOff (u : StrainUnit) : StrainUnit :=
  match u.epsilonE, u.epsilonC with
  | some e, some c => { u with delta := e - c, source := some .crosshead, handedOff := true }
  | _, _ => u

/-- An accepted reading renews the last usable reading while the source is EXTENSOMETER and no hand-off has
happened, unless it is flagged head overrange (R71). -/
def StrainUnit.renew (u : StrainUnit) (r : Reading) : StrainUnit :=
  if u.source = some .extensometer ∧ ¬ u.handedOff ∧ ¬ r.overrange then
    { u with lastUsable := some r.elongation }
  else u

/-! ## Requests -/

/-- WRITE_FRAME_CONSTANTS (R67). -/
def execWriteFrameConstants (p : Role) (compliance datum : Word32) (s : State) :
    Host.Outcome State Fault Refusal :=
  .next <| s.request p .writeFrameConstants fun s =>
    if s.seq.state ≠ .idle then s.refuse p .writeFrameConstants .wrongState
    else if s.config.inFlight.isSome then s.refuse p .writeFrameConstants .busy
    else if ¬ within 0 65535 compliance.toInt then s.refuseField p .writeFrameConstants 1
    else
      { s with strain := { s.strain with frame := ⟨compliance.toInt, datum⟩ } }.answer p
        .writeFrameConstants .ok []

/-- READ_FRAME_CONSTANTS (R67). -/
def execReadFrameConstants (p : Role) (s : State) : Host.Outcome State Fault Refusal :=
  .next <| s.request p .readFrameConstants fun s =>
    s.answer p .readFrameConstants .ok (frameConstantsOctets s.strain.frame)

end Sys2Proof.Machine
end

