-- ==== Sys2Proof/Machine/Slot.lean ====
section
/-! DEFINITION. CONVERSION_SLOT: the force sample's way through the part, from the load unit to the commanded
velocity (R25, R36 to R41, R52, R69, R82, R104, R133). -/

namespace Sys2Proof.Machine

/-- The delivery of a force sample in STREAMING advances the staleness count, and the count reaching 8 enters LOST
(R133). The count is part of the delivery, before any report that the sample gives rise to (log entry 10). -/
def State.countStaleness (s : State) : State :=
  if s.link.state = .streaming then
    if Config.stalenessLimit ≤ s.link.staleness + 1 then s.enterLost
    else { s with link := { s.link with staleness := s.link.staleness + 1 } }
  else s

/-- A sample taken in PRELOAD, ATTACH, RUN or HOLD adds one to the test duration, saturating (R24, R35, R47). -/
def State.countDuration (s : State) : State :=
  if s.seq.state.underTest then
    { s with seq := { s.seq with duration := min (s.seq.duration + 1) 4294967295 } }
  else s

/-- The strain and stress unit, then the evaluator, process a sample of force `force` (R69, R82); the yield-end
mark is set when YIELD_END is raised (R41). The second component says whether fracture was detected. -/
def State.measure (s : State) (b : ProgramBody) (force : Int) : State × Bool :=
  let u := s.strain.compute force s.drive.encoder
  let x : TestSample := ⟨force, u.sigma.getD 0, u.epsilon.getD 0⟩
  let (e, fractured) := s.eval.sample b u.source x
  ({ s with
      strain := u
      eval := e
      seq := { s.seq with yieldEndSeen := s.seq.yieldEndSeen || e.yieldEndRaised } }, fractured)

/-- The hand-off and what every hand-off does to the sequencer: the release-seen mark is set, and EXT_RELEASED
with it (R39, R40, R77). -/
def State.handOff (s : State) : State :=
  { s with strain := s.strain.handOff, seq := { s.seq with releaseSeen := true } }

/-- The release decision (R40). -/
def State.releases (s : State) (b : ProgramBody) (force : Int) : Bool :=
  (match s.strain.epsilon with
   | some e => decide (b.releaseStrain ≤ e)
   | none => false)
  || (match s.eval.maximum with
      | some m => decide (b.releaseDrop ≠ 0 ∧ force ≤ m.force - roundDiv (m.force * b.releaseDrop) 1000)
      | none => false)

/-- The latest reading is flagged head overrange (R39). -/
def ExtLink.overrangeReading (l : ExtLink) : Bool :=
  match l.latest with
  | some r => r.overrange
  | none => false

/-- Step 2 of R38: the extensometer, while the strain source is EXTENSOMETER (R39, R40). R39 gives its two cases no
precedence where both hold on one sample, the link having left STREAMING after an overrange reading: the loss is
judged first, so EXT_LOST alone is set and no detach is asked for (DESIGN CHOICE, log entry 35). -/
def State.extensometerStep (s : State) (b : ProgramBody) (force : Int) : State :=
  if s.strain.source = some .extensometer then
    if s.link.state ≠ .streaming then
      let s := s.handOff
      { s with seq := { s.seq with extLost := true } }
    else if s.link.overrangeReading then
      let s := s.handOff
      { s with seq := { s.seq with extRangeEnd := true } }.requestDetach .sequencer
    else if s.releases b force then s.handOff.requestDetach .sequencer
    else s
  else s

/-- The active segment's end event holds (R41). -/
def State.endEventHolds (s : State) (g : Segment) : Bool :=
  match g.endEvent with
  | .strain =>
    (match s.strain.epsilon with
     | some e => decide (g.endStrain ≤ e)
     | none => false)
  | .yieldEnd => s.seq.yieldEndSeen
  | .extReleased => s.seq.releaseSeen
  | .fracture => false

/-- Step 3 of R38: when the end event holds, the segment index advances and initialisation becomes pending (R41,
R53). -/
def State.endEventStep (s : State) : State :=
  match s.activeSegment with
  | some g =>
    if s.endEventHolds g then
      { s with
        seq := { s.seq with segment := s.seq.segment + 1 }
        rate := { s.rate with initPending := true } }
    else s
  | none => s

/-- Step 4 of R38: in RUN the rate controller computes and the sequencer writes its output (R52, R60); in HOLD the
commanded velocity stays 0 (R25). -/
def State.commandStep (s : State) : State :=
  if s.seq.state = .run then
    match s.activeSegment, s.strain.epsilon, s.strain.sigma, s.strain.parallel with
    | some g, some epsilon, some sigma, some parallel =>
      let (r, v) := s.rate.compute g epsilon sigma parallel s.drive.config.vmax
      { s with rate := r }.seqWrite v
    | _, _, _, _ => s
  else s.seqWrite 0

/-- The four steps of R38 on a sample in RUN or HOLD. -/
def State.judge (s : State) (b : ProgramBody) (force : Int) (fractured : Bool) : State :=
  if fractured then s.enterEnding .complete none
  else ((s.extensometerStep b force).endEventStep).commandStep

/-- A sample in RUN or HOLD. -/
def State.runSample (s : State) (b : ProgramBody) (force : Int) : State :=
  let (s, fractured) := s.measure b force
  s.judge b force fractured

/-- Entry to ATTACH: velocity 0, and the link is asked to attach; a link STREAMING already ends ATTACH (R37). -/
def State.enterAttach (s : State) : State :=
  let s := { s with seq := { s.seq with state := .attach } }
  ((s.seqWrite 0).requestAttach .sequencer).testAttach

/-- Preload is reached on the sample (R36, step 1; R70, R82): the origins are set and the evaluator begins. With
extensometer use NONE the test enters RUN on the crosshead and the sample is its first of RUN; with AUTO the
sample is computed without a source and ATTACH is entered. Where the link is STREAMING already RUN is entered at the
end of this sample, and the rate controller first computes on the next one (R53, R63; DEDUCED, log entry 11). -/
def State.reachPreload (s : State) (b : ProgramBody) (force : Int) : State :=
  let s := { s with
    strain := s.strain.setOrigins force s.drive.encoder
    eval := s.eval.begin b }
  if b.extUse = .none then (s.enterRun .crosshead).runSample b force
  else (s.measure b force).1.enterAttach

/-- The preload travel limit is exceeded (R36, step 2). -/
def State.travelExceeded (s : State) (b : ProgramBody) : Bool :=
  decide (b.travelLimit * 10 < s.drive.encoder.toInt - s.seq.startPosition.toInt)

/-- A sample in PRELOAD on which preload is not reached: the travel limit is judged, and the approach goes on (R36,
step 2; R25, R63). -/
def State.approachSample (s : State) (b : ProgramBody) : State :=
  if s.travelExceeded b then s.enterEnding .aborted (some .noPreload)
  else s.seqWrite (min b.approach s.drive.config.vmax)

/-- A sample in PRELOAD (R36). -/
def State.preloadSample (s : State) (b : ProgramBody) (force : Int) : State :=
  if b.preload ≤ force then s.reachPreload b force else s.approachSample b

/-- A sample in ATTACH: the unit and the evaluator run, and a fracture ends the test (R37). -/
def State.attachSample (s : State) (b : ProgramBody) (force : Int) : State :=
  let (s, fractured) := s.measure b force
  if fractured then s.enterEnding .complete none else s.seqWrite 0

/-- A sample in ENDING: the unit goes on computing once preload was reached, and the maximum-force tracker goes on
(R47, R69, R82, R101). -/
def State.endingSample (s : State) (b : ProgramBody) (force : Int) : State :=
  (if s.strain.p0.isSome then (s.measure b force).1 else s).seqWrite 0

/-- A sample in a test without force. The first slots after the start hold the sample before them, which is absent
when the calibration became VALID without a converted slot since (R111). There is no force to compute with, and none
that reaches preload, so that step 2 of R36 is made; and the velocity of the state is written (R25, R63; DEDUCED, log
entry 43). No run has such a sample in RUN. -/
def State.absentSample (s : State) (b : ProgramBody) : State :=
  match s.seq.state with
  | .preload => s.approachSample b
  | .attach => s.seqWrite 0
  | .hold => s.seqWrite 0
  | .ending => s.seqWrite 0
  | .idle => s
  | .armed => s
  | .run => s

/-- The sample reaches the strain and stress unit, the evaluator, the sequencer and the rate controller by the
sequencer's state (R25, R38, R69). -/
def State.sampleTest (s : State) : State :=
  match s.seq.state, s.load.last.force, s.headProgram with
  | .armed, _, _ => s.seqWrite 0
  | .preload, some f, some b => s.preloadSample b f
  | .attach, some f, some b => s.attachSample b f
  | .run, some f, some b => s.runSample b f
  | .hold, some f, some b => s.runSample b f
  | .ending, some f, some b => s.endingSample b f
  | _, none, some b => s.absentSample b
  | _, _, _ => s

/-- A whole conversion slot. The delivery's own counts come before what the load unit reports of the sample (R133).
The sequencer's waits and the starts that the slot's events make possible are tested at its end. -/
def State.conversionSlot (s : State) (r : Int) : State :=
  let t := (((s.countDuration.countStaleness).loadSlot r).sampleTest).linkChanged
  t.afterLoadEvent s.load

/-- CONVERSION_SLOT (R104). -/
def execConversionSlot (reading : Word24) (s : State) : Host.Outcome State Fault Refusal :=
  .next <| s.whenRunning fun s => s.conversionSlot reading.toInt

end Sys2Proof.Machine
end

