-- ==== Sys2Proof/Machine/Extensometer.lean ====
section
/-! DEFINITION. The extensometer link's requests and events (R125 to R141). A change of the link reaches the
sequencer at the end of its event (R37, R48). -/

namespace Sys2Proof.Machine

/-! ## Requests (R140, R141) -/

/-- The shifter and the holding slot are both occupied (R127). -/
def ExtLink.pathFull (l : ExtLink) : Bool :=
  l.shifter != .empty && l.holding.isSome

/-- What an EXT_ATTACH is answered, by the state it finds: true for ACCEPTED (R140). In OPENING the manual gives
neither status: a free value. -/
def State.attachAccepted (s : State) : Bool :=
  match s.link.state with
  | .asleep => true
  | .lost => true
  | .ready => s.link.attachHands || (s.link.onLine .sleep && !s.link.attachPending)
  | .opening => Config.attachInOpeningAccepted s.freeCount
  | _ => false

/-- A free value has been used: the counter advances. -/
def State.countFree (s : State) (used : Bool) : State :=
  if used then { s with freeCount := s.freeCount + 1 } else s

/-- OK or ACCEPTED. -/
def acceptedOr (b : Bool) : Status :=
  if b then .accepted else .ok

/-- EXT_ATTACH (R140, R130). -/
def execExtAttach (p : Role) (s : State) : Host.Outcome State Fault Refusal :=
  .next <| s.request p .extAttach fun s =>
    if s.seq.state ≠ .idle then s.refuse p .extAttach .wrongState
    else if s.link.attachHands ∧ s.link.pathFull then s.refuse p .extAttach .busy
    else
      ((s.countFree (s.link.state == .opening)).requestAttach .console).answer p .extAttach
        (acceptedOr s.attachAccepted) []

/-- EXT_DETACH (R140, R135). A STREAM_ON not yet on the line is removed before OPEN_ARMS is handed. -/
def execExtDetach (p : Role) (s : State) : Host.Outcome State Fault Refusal :=
  .next <| s.request p .extDetach fun s =>
    if s.seq.state ≠ .idle then s.refuse p .extDetach .wrongState
    else if s.link.detachHands ∧ (s.link.withdraw .streamOn).pathFull then s.refuse p .extDetach .busy
    else (s.requestDetach .console).answer p .extDetach (acceptedOr s.link.detachHands) []

/-- EXT_READ (R141). -/
def execExtRead (p : Role) (s : State) : Host.Outcome State Fault Refusal :=
  .next <| s.request p .extRead fun s => s.answer p .extRead .ok (linkOctets s.link)

/-! ## Frames from the head (R125, R128, R131, R132, R134, R136, R139) -/

/-- Frames are assembled while the rate lock is held and no octets are being discarded (R125). -/
def ExtLink.hears (l : ExtLink) : Bool :=
  l.lock.isSome && !l.discarding

/-- A STATUS frame answers the command on the line while its answer timer runs (R128). -/
def State.answerCommand (s : State) : State :=
  match s.link.shifter with
  | .command _ _ (some _) => s.shifterEmpties
  | _ => s

/-- A STATUS frame would answer a SLEEP on the line. -/
def ExtLink.sleepAnswered (l : ExtLink) : Bool :=
  match l.shifter with
  | .command c _ (some _) => c.command == .sleep
  | _ => false

/-- STREAM_ON is handed when the arms are CLOSED (R131). -/
def State.handStreamOn (s : State) : State :=
  { s with link := { s.link.hand .streamOn .link with streamRequested := true, lastSequence := none } }

/-- The head has confirmed the arms open, in WAKING or LOST: arms unknown is cleared and the link enters READY
(R129, R139). -/
def State.armsConfirmedOpen (s : State) : State :=
  { s with link := { s.link with armsUnknown := false } }.arriveReady

/-- The head has confirmed the arms open in OPENING: the operation timer stops and the link enters READY (R136). An
attach that became pending in OPENING goes on as from READY, with its timer started at 2 s (R130; log entry
15). -/
def State.armsOpened (s : State) : State :=
  { s with link := { s.link with
      operationTimer := if s.link.attachPending then some 0 else none } }.arriveReady

/-- The further effect of a STATUS frame, by the state in which it found the link. -/
def State.statusActs (s : State) (found : LinkState) (slept : Bool) (arms : ArmsState) (fault : Octet) : State :=
  match found with
  | .asleep => s
  | .ready => if slept then s.arriveAsleep else s
  | .waking => if s.link.armsUnknown ∧ arms = .opened then s.armsConfirmedOpen else s
  | .lost => if s.link.armsUnknown ∧ arms = .opened then s.armsConfirmedOpen else s
  | .closing =>
    if fault ≠ 0 then s.enterLost
    else if arms = .closed ∧ ¬ s.link.streamRequested then s.handStreamOn
    else s
  | .streaming => if fault ≠ 0 ∨ arms ≠ .closed then s.enterLost else s
  | .opening => if arms = .opened then s.armsOpened else if fault ≠ 0 then s.enterLost else s

/-- A STATUS frame: the head report, the answer, and the further effect (R128). -/
def State.takeStatus (s : State) (arms : ArmsState) (fault : Octet) : State :=
  let found := s.link.state
  let slept := s.link.sleepAnswered
  let s := { s with link := { s.link with headReport := some ⟨arms, fault⟩ } }
  s.answerCommand.statusActs found slept arms fault

/-- STATUS_FRAME (R128). -/
def execStatusFrame (arms : ArmsState) (fault : Octet) (s : State) : Host.Outcome State Fault Refusal :=
  .next <| s.whenRunning fun s =>
    if s.link.hears then (s.takeStatus arms fault).linkChanged else s

/-- The reading a frame carries (R125). -/
def Reading.ofFrame (sequence : Octet) (elongation : Word24) (status : Octet) : Reading where
  sequence := sequence
  elongation := elongation.toInt
  arms := armsOfStatus status
  overrange := status.getLsbD 2
  fault := status.getLsbD 3

/-- Reading frames are judged in STREAMING, and in CLOSING once stream requested is true (R132). -/
def ExtLink.takesReadings (l : ExtLink) : Bool :=
  l.state == .streaming || (l.state == .closing && l.streamRequested)

/-- Step 3 of R132: the frame is accepted, and the strain and stress unit renews its last usable reading (R71). -/
def State.acceptReading (s : State) (r : Reading) : State :=
  { s with
    link := { s.link with latest := some r, lastSequence := some r.sequence, staleness := 0 }
    strain := s.strain.renew r }

/-- The first accepted reading takes CLOSING to STREAMING (R131). -/
def State.enterStreaming (s : State) : State :=
  { s with link := { s.link with operationTimer := none, attachPending := false, staleness := 0 } }.toLinkState
    .streaming

/-- A reading frame (R132). -/
def State.takeReading (s : State) (r : Reading) : State :=
  if ¬ s.link.takesReadings then s
  else if r.fault then s.enterLost
  else if s.link.lastSequence = some r.sequence then s
  else if s.link.state = .closing then (s.acceptReading r).enterStreaming
  else s.acceptReading r

/-- READING_FRAME (R132). -/
def execReadingFrame (sequence : Octet) (elongation : Word24) (status : Octet) (s : State) :
    Host.Outcome State Fault Refusal :=
  .next <| s.whenRunning fun s =>
    if s.link.hears then (s.takeReading (Reading.ofFrame sequence elongation status)).linkChanged else s

/-- The discard goes on until the line has rested high (R125). -/
def DiscardReason.holdsOn : DiscardReason → Bool
  | .unknownType => true
  | .lowStopBit => true
  | _ => false

/-- FRAME_DISCARDED (R125): the frame has no effect; after an unknown type or a low stop bit the octets that follow
are discarded too. -/
def execFrameDiscarded (reason : DiscardReason) (s : State) : Host.Outcome State Fault Refusal :=
  .next <| s.whenRunning fun s =>
    if s.link.hears ∧ DiscardReason.holdsOn reason then { s with link := { s.link with discarding := true } } else s

/-- LINE_RESTED_HIGH (R125): the line has rested high for 20 bit-times, and octets name frames again. -/
def execLineRestedHigh (s : State) : Host.Outcome State Fault Refusal :=
  .next <| s.whenRunning fun s => { s with link := { s.link with discarding := false } }

/-! ## The command on the line (R128) -/

/-- COMMAND_SENT (R128): the answer timer starts. -/
def execCommandSent (s : State) : Host.Outcome State Fault Refusal :=
  .next <| s.whenRunning fun s =>
    match s.link.shifter with
    | .command c second _ => { s with link := { s.link with shifter := .command c second (some 0) } }
    | _ => s

/-- SLEEP has missed with an attach pending: the entry to LOST reaches the sequencer, which ends ATTACH with
EXT_ATTACH_FAILED (R37, R138), and the pending attach then begins a wake from LOST under the timer it started
(R137; log entry 16). -/
def State.sleepMissed (s : State) : State :=
  let timer := s.link.operationTimer
  let s := s.enterLost.linkChanged
  { s with link := { s.link with attachPending := true, operationTimer := timer } }.beginWake

/-- A command has missed (R128): LOST, but in LOST the end of the recovery attempt (R139). R142 lets a command on the
line run to its miss in ASLEEP and R128 gives that miss no effect there: the shifter empties and the next command
moves up (DESIGN CHOICE, log entry 37). -/
def State.commandMissed (s : State) (c : QueuedCommand) : State :=
  match s.link.state with
  | .asleep => s.shifterEmpties
  | .lost => { s with link := { s.link.emptyPath with lock := none } }
  | .ready =>
    if c.command = .sleep ∧ s.link.attachPending then s.sleepMissed else s.enterLost
  | _ => s.enterLost

/-- ANSWER_TIMEOUT (R128): the second try, or a miss. -/
def execAnswerTimeout (s : State) : Host.Outcome State Fault Refusal :=
  .next <| s.whenRunning fun s =>
    match s.link.shifter with
    | .command c false (some _) => { s with link := { s.link with shifter := .command c true (some 0) } }
    | .command c true (some _) => (s.commandMissed c).linkChanged
    | _ => s

/-! ## Breaks and the sync (R126, R129, R139) -/

/-- BREAK_END (R126): the shifter is free again and the sync window begins. -/
def execBreakEnd (s : State) : Host.Outcome State Fault Refusal :=
  .next <| s.whenRunning fun s =>
    if s.link.shifter = .sendingBreak then
      let s := s.shifterEmpties
      { s with link := { s.link with syncWindow := some 0 } }
    else s

/-- The lock is taken on a count of 78 to 82 ticks and the character 0x55 (R126). -/
def syncLocks (count : Nat) (character : Octet) : Bool :=
  decide (78 ≤ count) && decide (count ≤ 82) && character == 0x55

/-- The sync is awaited: a break has ended, and neither a sync nor the end of its window has come (R126). -/
def ExtLink.awaitsSync (l : ExtLink) : Bool :=
  l.syncWindow.isSome && l.lock.isNone

/-- The rate lock is held (R126, R129, R139): WAKING goes on to READY, or opens the arms when they are unknown;
a recovery attempt hands OPEN_ARMS. -/
def State.lockTaken (s : State) (count : Nat) : State :=
  let s := { s with link := { s.link with lock := some count, syncWindow := none, discarding := false } }
  let opens : State := { s with link := s.link.hand .openArms .link }
  match s.link.state with
  | .waking => if s.link.armsUnknown then opens else s.arriveReady
  | .lost => opens
  | _ => s

/-- SYNC_CHARACTER (R126). -/
def execSyncCharacter (count : Nat) (character : Octet) (s : State) : Host.Outcome State Fault Refusal :=
  .next <| s.whenRunning fun s =>
    if s.link.awaitsSync then
      (if syncLocks count character then s.lockTaken count else s.attemptFails).linkChanged
    else s

/-- SYNC_WINDOW_TIMEOUT (R129, R139). -/
def execSyncWindowTimeout (s : State) : Host.Outcome State Fault Refusal :=
  .next <| s.whenRunning fun s =>
    if s.link.awaitsSync then s.attemptFails.linkChanged else s

/-- A wake attempt has failed and the next one waits for its time (R129). -/
def ExtLink.attemptOver (l : ExtLink) : Bool :=
  l.state == .waking && l.shifter == .empty && l.syncWindow.isNone && l.lock.isNone

/-- WAKE_RETRY (R129): the next break of a failed attempt 1 or 2. -/
def execWakeRetry (s : State) : Host.Outcome State Fault Refusal :=
  .next <| s.whenRunning fun s =>
    match s.link.wake with
    | some w =>
      if s.link.attemptOver ∧ w.number < 3 then
        { s with link := { s.link with shifter := .sendingBreak, wake := some ⟨w.number + 1, 0⟩ } }
      else s
    | none => s

/-! ## Timers (R130, R133, R136, R137, R139) -/

/-- OPERATION_TIMEOUT (R130, R136). -/
def execOperationTimeout (s : State) : Host.Outcome State Fault Refusal :=
  .next <| s.whenRunning fun s =>
    if s.link.operationTimer.isSome then s.enterLost.linkChanged else s

/-- SLEEP_TIMEOUT (R137): SLEEP is handed once. -/
def execSleepTimeout (s : State) : Host.Outcome State Fault Refusal :=
  .next <| s.whenRunning fun s =>
    if s.link.state = .ready ∧ s.link.sleepTimer.isSome ∧ ¬ s.link.onLine .sleep ∧ ¬ s.link.queued .sleep then
      { s with link := s.link.hand .sleep .link }
    else s

/-- RECOVERY_TIMEOUT (R139): the next recovery attempt. -/
def execRecoveryTimeout (s : State) : Host.Outcome State Fault Refusal :=
  .next <| s.whenRunning fun s =>
    if s.link.state = .lost ∧ s.link.armsUnknown ∧ s.link.recoveryTimer.isSome then
      { s with link := s.link.beginRecovery }
    else s

/-- STALENESS_LOST (R133): a staleness count of 8 in STREAMING enters LOST. -/
def execStalenessLost (s : State) : Host.Outcome State Fault Refusal :=
  .next <| s.whenRunning fun s =>
    if s.link.state = .streaming ∧ Config.stalenessLimit ≤ s.link.staleness then s.enterLost.linkChanged else s

end Sys2Proof.Machine
end

