-- ==== Sys2Proof/Machine/Inputs.lean ====
section
/-! DEFINITION. The frame inputs and the frame-stop latch (R171 to R178). -/

namespace Sys2Proof.Machine

/-! ## Filters (R172) -/

/-- What a level on a pin reads as, true for ACTIVE: FRAME_STOP is ACTIVE when its pin is low and GRIPS_CLOSED when
its pin is high (R171). -/
def pinReads (pin : InputPin) (high : Bool) : Bool :=
  match pin with
  | .frameStop => !high
  | .gripsClosed => high

/-- A filter has timed its change for the filter time, so the level it times toward is accepted (R172). -/
def filterDone (limit : Nat) (filter : Option Nat) : Bool :=
  match filter with
  | some t => decide (limit ≤ t)
  | none => false

/-- FRAME_STOP is accepted at the level other than its accepted one (R172). -/
def FrameInputs.frameStopAccepts (i : FrameInputs) : Bool :=
  filterDone Config.frameStopFilterTicks i.frameStopFilter

/-- GRIPS_CLOSED is accepted at the level other than its accepted one (R172). -/
def FrameInputs.gripsAccepts (i : FrameInputs) : Bool :=
  filterDone Config.gripsFilterTicks i.gripsFilter

/-- A filter after one sample: a sample at the accepted level drops the timing, any other begins it or lets it go
on. -/
def filterAfter (accepted level : Bool) (filter : Option Nat) : Option Nat :=
  if level = accepted then none
  else
    match filter with
    | none => some 0
    | some t => some t

/-- INPUT_PIN_CHANGE (R172). -/
def execInputPinChange (pin : InputPin) (level : Bool) (s : State) : Host.Outcome State Fault Refusal :=
  .next <| s.whenRunning fun s =>
    match pin with
    | .frameStop =>
      { s with inputs := { s.inputs with
          frameStopFilter := filterAfter s.inputs.frameStop (pinReads pin level) s.inputs.frameStopFilter } }
    | .gripsClosed =>
      { s with inputs := { s.inputs with
          gripsFilter := filterAfter s.inputs.grips (pinReads pin level) s.inputs.gripsFilter } }

/-! ## The latch (R173, R174) -/

/-- AUTHORITY_REVOKED to a port that held (R146, R173). -/
def State.noticeRevoked (s : State) (holder : Option Party) : State :=
  match holder.bind Party.port with
  | some p => s.addNotice p .authorityRevoked
  | none => s

/-- The latch sets (R173): the drive, the authority, the sequencer once, and the notices. The wait of an ENDING so
begun is tested at the end of the event (R48). -/
def State.setLatch (s : State) : State :=
  let holder := s.arbiter.holder
  let s := { s with inputs := { s.inputs with latch := true } }.dropHolder .frameStop
  let s := ((s.noticeRevoked holder).denyWaiting).authorityLost .frameStop
  (s.addNoticeAll .frameStop).testEnding

/-- FRAME_STOP_ACCEPTED_ACTIVE (R172, R173). -/
def execFrameStopAcceptedActive (s : State) : Host.Outcome State Fault Refusal :=
  .next <| s.whenRunning fun s =>
    if ¬ s.inputs.frameStop ∧ s.inputs.frameStopAccepts then
      let s := { s with inputs := { s.inputs with frameStop := true, frameStopFilter := none } }
      if s.inputs.latch then s else s.setLatch
    else s

/-- FRAME_STOP_ACCEPTED_INACTIVE (R172): the accepted level changes and nothing else. -/
def execFrameStopAcceptedInactive (s : State) : Host.Outcome State Fault Refusal :=
  .next <| s.whenRunning fun s =>
    if s.inputs.frameStop ∧ s.inputs.frameStopAccepts then
      { s with inputs := { s.inputs with frameStop := false, frameStopFilter := none } }
    else s

/-- CLEAR_FRAME_STOP (R174, R175). -/
def execClearFrameStop (p : Role) (s : State) : Host.Outcome State Fault Refusal :=
  .next <| s.request p .clearFrameStop fun s =>
    if s.inputs.frameStop then s.refuse p .clearFrameStop .wrongState
    else if s.inputs.latch then
      (({ s with inputs := { s.inputs with latch := false } }.addNoticeAll .frameStopCleared).answer p
        .clearFrameStop .ok []).examineHead
    else s.answer p .clearFrameStop .ok []

/-! ## The grips (R176, R177, R8, R44) -/

/-- A grip capture reaches the queue: into a WAITING or ARMED head, else discarded (R8). -/
def State.captureGrip (s : State) (position : Word32) : State :=
  match s.queue with
  | [] => s
  | e :: rest =>
    if e.state = .inTest then s else { s with queue := { e with capture := some position } :: rest }

/-- GRIPS_CLOSING_EDGE (R176): the capture, then the start conditions. -/
def execGripsClosingEdge (s : State) : Host.Outcome State Fault Refusal :=
  .next <| s.whenRunning fun s =>
    if ¬ s.inputs.grips ∧ s.inputs.gripsAccepts then
      let s := { s with inputs := { s.inputs with grips := true, gripsFilter := none } }
      (s.captureGrip s.drive.encoder).testGripsStart
    else s

/-- The grips open during a test or in ARMED (R44). -/
def State.gripsOpened (s : State) : State :=
  match s.seq.state with
  | .idle => s
  | .armed => { s with seq := { s.seq with openSeen := true } }
  | .preload => (s.enterEnding .aborted (some .gripsOpened)).testEnding
  | .attach => (s.enterEnding .aborted (some .gripsOpened)).testEnding
  | .run =>
    match s.headProgram with
    | some b =>
      (match b.gripOpen with
       | .hold => s.enterHold
       | .abort => (s.enterEnding .aborted (some .gripsOpened)).testEnding)
    | none => s
  | .hold => s
  | .ending => s.addNote .gripsOpened

/-- GRIPS_OPENING_EDGE (R177, R44). -/
def execGripsOpeningEdge (s : State) : Host.Outcome State Fault Refusal :=
  .next <| s.whenRunning fun s =>
    if s.inputs.grips ∧ s.inputs.gripsAccepts then
      { s with inputs := { s.inputs with grips := false, gripsFilter := none } }.gripsOpened
    else s

/-- READ_INPUTS (R178). -/
def execReadInputs (p : Role) (s : State) : Host.Outcome State Fault Refusal :=
  .next <| s.request p .readInputs fun s => s.answer p .readInputs .ok (inputsOctets s.inputs)

end Sys2Proof.Machine
end

