-- ==== Sys2Proof/Machine/Meter.lean ====
section
/-! DEFINITION. The crosshead speed meter and the encoder (R148, R160 to R169). -/

namespace Sys2Proof.Machine

/-! ## Completion of a measurement (R165 to R167) -/

/-- Step 2 of R165: the rest flag and the low run after a measurement of speed `v` (R166). -/
def SpeedMeter.judgeRest (m : SpeedMeter) (v : Int) (isTimeout : Bool) : Bool × Nat :=
  if isTimeout then (true, 2)
  else if (v.natAbs : Int) < m.config.restSpeed then
    let low := min (m.lowRun + 1) 2
    (m.rest || low == 2, low)
  else (false, 0)

/-- A measurement of speed `v` is an overspeed against the commanded velocity (R167). -/
def overspeedAgainst (v commanded : Int) : Bool :=
  decide (5 * (commanded.natAbs : Int) + 200000 < 4 * (v.natAbs : Int))

/-- Step 3 of R165: the overspeed count before a report clears it (R167). -/
def SpeedMeter.judgeOverspeed (m : SpeedMeter) (v commanded : Int) : Nat :=
  if overspeedAgainst v commanded then m.overspeedCount + 1 else 0

/-- The OVERSPEED report: the count returns to 0 and the drive handles the fault (R157, R167). -/
def State.reportOverspeed (s : State) : State :=
  if 3 ≤ s.meter.overspeedCount then
    { s with meter := { s.meter with overspeedCount := 0 } }.driveFault .overspeed
  else s

/-- Step 5 of R165 for the rest flag: a change reaches the drive and the sequencer (R155, R48). -/
def State.restChanged (s : State) (before : Bool) : State :=
  if s.meter.rest = before then s else s.completeSettledMove.testEnding

/-- The completion of a measurement (R165): its raw value and speed, and the measurement that begins next. -/
def State.completeMeasurement (s : State) (l : LastMeasurement) (v : Int) (method : MeterMethod)
    (next : Measurement) : State :=
  let m := s.meter
  let (rest, low) := m.judgeRest v (l == .timeout)
  let s := { s with meter := { m with
    lastSpeed := v
    last := some l
    rest := rest
    lowRun := low
    overspeedCount := m.judgeOverspeed v s.drive.velocity
    method := method
    inFlight := next
    counter := 0 } }
  (s.restChanged m.rest).reportOverspeed

/-! ## Gates (R161, R162) -/

/-- The speed of a gate (R162): exact for the three gate lengths. -/
def gateSpeed (count : Int) (g : Nat) : Int :=
  roundDiv (count * 100000) g

/-- A 1 ms boundary of the time base (R161): a waiting gate opens, and an open gate counts the boundary and closes
on the last of its length. -/
def State.gateBoundary (s : State) : State :=
  let opened : Measurement := .gateOpen s.meter.config.gate 0
  match s.meter.inFlight with
  | .gateOpen length elapsed =>
    if length ≤ elapsed + 1 then
      let count := s.meter.counter
      let v := gateSpeed count length
      if 4 ≤ count.natAbs then s.completeMeasurement (.gated count length) v .gated opened
      else s.completeMeasurement (.gated count length) v .interval .intervalWaiting
    else { s with meter := { s.meter with inFlight := .gateOpen length (elapsed + 1) } }
  | .gateWaiting => { s with meter := { s.meter with inFlight := opened, counter := 0 } }
  | .none =>
    if s.meter.method = .gated then { s with meter := { s.meter with inFlight := opened, counter := 0 } } else s
  | _ => s

/-- GATE_BOUNDARY (R161). -/
def execGateBoundary (s : State) : Host.Outcome State Fault Refusal :=
  .next <| s.whenRunning State.gateBoundary

/-! ## Intervals (R163, R164) -/

/-- The interval counted: 0 is counted as 1 (R163). -/
def countedInterval (counter : Int) : Int :=
  if counter = 0 then 1 else counter

/-- An interval that completes on a count event in its direction (R163, R165). -/
def State.completeInterval (s : State) (dir : Direction) : State :=
  let i := countedInterval s.meter.counter
  let v := signOf dir * roundDiv 100000000 i
  if i < 250 then s.completeMeasurement (.interval i.toNat) v .gated .gateWaiting
  else s.completeMeasurement (.interval i.toNat) v .interval (.intervalTiming dir)

/-- A count event reaches the meter (R161, R163, R164). -/
def State.meterCount (s : State) (dir : Direction) : State :=
  match s.meter.inFlight with
  | .gateOpen _ _ =>
    { s with meter := { s.meter with counter := clampInt (-32767) 32767 (s.meter.counter + signOf dir) } }
  | .intervalWaiting => { s with meter := { s.meter with inFlight := .intervalTiming dir, counter := 0 } }
  | .intervalTiming d =>
    if d = dir then s.completeInterval dir
    else { s with meter := { s.meter with inFlight := .intervalTiming dir, counter := 0 } }
  | _ => s

/-- The encoder position advances by one count (R148). -/
def State.countEncoder (s : State) (dir : Direction) : State :=
  { s with drive := { s.drive with encoder := s.drive.encoder + BitVec.ofInt 32 (signOf dir) } }

/-- The count event of a sample after the levels `before`, by the quadrature phase (R148): ENCA leads ENCB in opening
motion, so a change of ENCA away from ENCB, or of ENCB onto ENCA, opens. A sample with neither channel changed, or
with both, gives no count event. -/
def quadrature (before now : Channels) : Option Direction :=
  if before.encA != now.encA then
    if before.encB != now.encB then none
    else if now.encA != now.encB then some .opening
    else some .closing
  else if before.encB != now.encB then
    if now.encB == now.encA then some .opening else some .closing
  else none

/-- A count event: the position, then the meter, then the following-error supervision (R148). -/
def State.encoderEvent (s : State) (dir : Direction) : State :=
  ((s.countEncoder dir).meterCount dir).judgeFollowing

/-- A sample of the two channels (R148). -/
def State.sampleChannels (s : State) (now : Channels) : State :=
  let t := { s with drive := { s.drive with channels := now } }
  match quadrature s.drive.channels now with
  | some dir => t.encoderEvent dir
  | none => t

/-- ENCODER_COUNT (R148). -/
def execEncoderCount (levels : Channels) (s : State) : Host.Outcome State Fault Refusal :=
  .next <| s.whenRunning fun s => s.sampleChannels levels

/-- The interval counter stands at 65,535 µs: the measurement completes as a timeout. A count event taken first has
brought the counter back to 0, and the timeout does not happen (R164). -/
def State.intervalTimeout (s : State) : State :=
  if s.meter.counter < Config.intervalEnd then s
  else
    match s.meter.inFlight with
    | .intervalWaiting => s.completeMeasurement .timeout 0 .interval .intervalWaiting
    | .intervalTiming _ => s.completeMeasurement .timeout 0 .interval .intervalWaiting
    | _ => s

/-- INTERVAL_TIMEOUT (R164). -/
def execIntervalTimeout (s : State) : Host.Outcome State Fault Refusal :=
  .next <| s.whenRunning State.intervalTimeout

/-- OVERSPEED (R167): an overspeed count of 3 is reported to the drive. -/
def execOverspeed (s : State) : Host.Outcome State Fault Refusal :=
  .next <| s.whenRunning State.reportOverspeed

/-! ## Requests (R168, R169) -/

/-- The measurement in flight is discarded and a new one begins in the method in force (R161, R163). -/
def SpeedMeter.restart (m : SpeedMeter) : SpeedMeter :=
  { m with
    inFlight := match m.method with
      | .gated => .gateWaiting
      | .interval => .intervalWaiting
    counter := 0 }

/-- WRITE_SPEED_CONFIG (R168). -/
def execWriteSpeedConfig (p : Role) (gate : Octet) (restSpeed : Word32) (s : State) :
    Host.Outcome State Fault Refusal :=
  .next <| s.request p .writeSpeedConfig fun s =>
    let c : SpeedConfig := ⟨gate.toNat, restSpeed.toInt⟩
    if s.seq.state ≠ .idle then s.refuse p .writeSpeedConfig .wrongState
    else if s.config.inFlight.isSome then s.refuse p .writeSpeedConfig .busy
    else
      match lowestFailing (speedConfigChecks c) with
      | some i => s.refuseField p .writeSpeedConfig i
      | none =>
        let m := if c.gate = s.meter.config.gate then s.meter else s.meter.restart
        { s with meter := { m with config := c } }.answer p .writeSpeedConfig .ok []

/-- READ_SPEED_METER (R169). -/
def execReadSpeedMeter (p : Role) (s : State) : Host.Outcome State Fault Refusal :=
  .next <| s.request p .readSpeedMeter fun s => s.answer p .readSpeedMeter .ok (meterOctets s.meter)

end Sys2Proof.Machine
end

