-- ==== Sys2Proof/Machine/PortRequests.lean ====
section
/-! DEFINITION. The requests the ports answer themselves, malformed requests and transactions (R181 to R189). -/

namespace Sys2Proof.Machine

/-- NOP (R185). -/
def execNop (p : Role) (s : State) : Host.Outcome State Fault Refusal :=
  .next <| s.request p .nop fun s => s.answer p .nop .ok []

/-- GET_NOTICES (R187): the set as it stood at the taking, which then becomes empty. -/
def execGetNotices (p : Role) (s : State) : Host.Outcome State Fault Refusal :=
  .next <| s.request p .getNotices fun s =>
    (s.answer p .getNotices .ok (be4 (s.ports.get p).notices)).onPort p fun q => { q with notices := 0 }

/-- Effect 3 of R189: a port that holds the authority has it revoked with reason RELEASED, and the front of the
list is granted (R146). Where that is SEQUENCER in ARMED, the grant has its own effects, and with the start conditions
holding the test starts (R143, R33), although a link reset leaves the queue and the sequencer unchanged (R10, R50,
R189): the grant, and not the reset, reaches them (DESIGN CHOICE, log entry 44). -/
def State.revokePort (s : State) (p : Role) : State :=
  if s.portHolds p then ((s.dropHolder .released).addNotice p .authorityRevoked).grantIfFree else s

/-- Effect 2 of R189: a waiting port's request is removed without a notice. -/
def State.forgetRequest (s : State) (p : Role) : State :=
  { s with arbiter := { s.arbiter with
      waiting := s.arbiter.waiting.filter fun q => partyOf p != some q } }

/-- LINK_RESET (R189). -/
def execLinkReset (p : Role) (s : State) : Host.Outcome State Fault Refusal :=
  .next <| s.request p .linkReset fun s =>
    let s := s.onPort p fun q => { q with notices := 0 }
    (((s.forgetRequest p).revokePort p)).answer p .linkReset .ok []

/-- READ_LIVE (R188). -/
def execReadLive (p : Role) (s : State) : Host.Outcome State Fault Refusal :=
  .next <| s.request p .readLive fun s => s.answer p .readLive .ok (liveOctets s)

/-- MALFORMED_REQUEST (R183): the first check that fails gives the answer, which echoes the kind octet (R184).
Fewer than three octets carry no request (R181). Octets that pass every check are a request of the catalogue and
no malformed one. -/
def execMalformedRequest (p : Role) (octets : List Octet) (s : State) : Host.Outcome State Fault Refusal :=
  .next <| s.whenTaken p fun s =>
    let kept := octets.take Config.inputBufferSize
    if kept.length < 3 then s.endTransaction p
    else
      match checkRequest p kept with
      | .error st => s.answerKind p (kept.getD 0 0) st []
      | .ok _ => s

/-- TRANSACTION_BEGIN (R181): the message to clock out is chosen. -/
def execTransactionBegin (p : Role) (s : State) : Host.Outcome State Fault Refusal :=
  .next <|
    if s.power = .off ∨ (s.ports.get p).clockingOut.isSome then s
    else s.onPort p fun q => { q with clockingOut := some (s.messageOut p), inputBuffer := [] }

/-- TRANSACTION_WITHOUT_REQUEST (R181): the octets are discarded and the pending reply stays. -/
def execTransactionWithoutRequest (p : Role) (s : State) : Host.Outcome State Fault Refusal :=
  .next <| if s.power = .off then s else s.endTransaction p

/-- REPLY_READY (R182). -/
def execReplyReady (p : Role) (s : State) : Host.Outcome State Fault Refusal :=
  .next <| s.whenRunning fun s =>
    s.onPort p fun q => { q with pendingReply := q.pendingReply.map fun r : PendingReply => { r with wait := 0 } }

end Sys2Proof.Machine
end

