-- ==== Sys2Proof/Machine/Programs.lean ====
section
/-! DEFINITION. The requests of the program table (R14 to R16). -/

namespace Sys2Proof.Machine

/-- The in-use count of a slot (R11). -/
def State.inUseOf (s : State) (slot : Nat) : Nat :=
  match s.programs[slot]? with
  | some p => p.inUse
  | none => 0

/-- Checks 1 to 3 of R14, shared with R15: the slot, a store in flight, the in-use count. -/
def State.slotBlocked (s : State) (slot : Octet) : Option (Status × List Octet) :=
  if 15 < slot.toNat then some (badField 0)
  else if s.config.inFlight.isSome then some (.busy, [])
  else if s.inUseOf slot.toNat ≠ 0 then some (.inUse, [])
  else none

/-- A slot's body is replaced as a whole, or removed (R14, R15). -/
def State.setProgram (s : State) (slot : Nat) (b : Option ProgramBody) : State :=
  { s with programs := s.programs.modify slot fun q => { q with body := b } }

/-- WRITE_PROGRAM (R14). `body` is the slot octet and the program body. -/
def execWriteProgram (p : Role) (body : List Octet) (s : State) : Host.Outcome State Fault Refusal :=
  .next <| s.sizedRequest p .writeProgram body.length fun s =>
    match s.slotBlocked (body.getD 0 0) with
    | some f => s.refuseWith p .writeProgram f
    | none =>
      match programFailure s.load.tables (body.drop 1) with
      | some i => s.refuseField p .writeProgram i
      | none =>
        (s.setProgram (field1 body 0) (some (programOfOctets (body.drop 1)))).answer p .writeProgram .ok []

/-- CLEAR_PROGRAM (R15). -/
def execClearProgram (p : Role) (slot : Octet) (s : State) : Host.Outcome State Fault Refusal :=
  .next <| s.request p .clearProgram fun s =>
    match s.slotBlocked slot with
    | some f => s.refuseWith p .clearProgram f
    | none => (s.setProgram slot.toNat none).answer p .clearProgram .ok []

/-- READ_PROGRAM (R16). -/
def execReadProgram (p : Role) (slot : Octet) (s : State) : Host.Outcome State Fault Refusal :=
  .next <| s.request p .readProgram fun s =>
    if 15 < slot.toNat then s.refuseField p .readProgram 0
    else
      match s.programs[slot.toNat]? with
      | none => s.refuseField p .readProgram 0
      | some q => s.answer p .readProgram .ok (slotOctets q)

end Sys2Proof.Machine
end

