-- ==== Sys2Proof/Machine/Queue.lean ====
section
/-! DEFINITION. The requests of the specimen queue (R3 to R6). -/

namespace Sys2Proof.Machine

/-- The ID stands in the queue or in the result store (R3, check 3). -/
def State.idStands (s : State) (id : List Octet) : Bool :=
  (s.queue.any fun e => e.id == id) || (s.results.records.any fun r => r.id == id)

/-- The nine checks of R3, in order: the shape with its dimensions, or the first refusal. -/
def State.enqueueCheck (s : State) (id : List Octet) (slot shape : Octet)
    (width thickness diameter parallel gauge : Int) : Except (Status × List Octet) Shape :=
  if Config.queueSize ≤ s.queue.length then .error (.full, [])
  else if ¬ idWellFormed id then .error (badField 1)
  else if s.idStands id then .error (.duplicate, [])
  else if 15 < slot.toNat then .error (badField 2)
  else
    match s.programAt slot.toNat with
    | none => .error (.notFound, [])
    | some b =>
      match Shape.ofFields shape width thickness diameter with
      | none => .error (badField 3)
      | some sh =>
        match lowestFailing (dimensionChecks sh parallel gauge) with
        | some i => .error (badField i)
        | none =>
          if ¬ within 1000 20000000 sh.area then .error (badField 9)
          else if b.extUse = .auto ∧ parallel < b.extGauge then .error (badField 7)
          else .ok sh

/-- The entry an ENQUEUE forms: WAITING, with S0 and no grip capture (R4). -/
def SpecimenEntry.formed (id : List Octet) (slot : Nat) (shape : Shape) (parallel gauge : Int) :
    SpecimenEntry where
  id := id
  slot := slot
  shape := shape
  parallel := parallel
  gauge := gauge
  area := shape.area
  state := .waiting
  capture := none

/-- An accepted ENQUEUE appends its entry and counts its slot in use (R1, R4). -/
def State.append (s : State) (e : SpecimenEntry) : State :=
  ({ s with queue := s.queue ++ [e] }.changeInUse e.slot (· + 1)).addNotice .console .queueChanged

/-- ENQUEUE (R3, R4). The reply carries S0 in four octets and the position in one (11.8.2). -/
def execEnqueue (p : Role) (id : List Octet) (slot shape : Octet)
    (width thickness diameter parallel gauge : Word32) (s : State) : Host.Outcome State Fault Refusal :=
  .next <| s.sizedRequest p .enqueue (id.length + 22) fun s =>
    match s.enqueueCheck id slot shape width.toInt thickness.toInt diameter.toInt parallel.toInt gauge.toInt with
    | .error f => s.refuseWith p .enqueue f
    | .ok sh =>
      let e := SpecimenEntry.formed id slot.toNat sh parallel.toInt gauge.toInt
      ((s.append e).answer p .enqueue .ok (num4 e.area ++ num1 (s.queue.length + 1))).examineHead

/-- A WAITING entry leaves the queue: those behind it move forward, its slot's in-use count falls by one, and the
auto-arm pause set for it as the head is cleared (R5, R29). -/
def State.removeEntry (s : State) (e : SpecimenEntry) : State :=
  let wasHead := (s.queue.head?.map (·.id)) == some e.id
  let s := { s with
    queue := s.queue.eraseP fun x => x.id == e.id
    seq := { s.seq with autoArmPause := s.seq.autoArmPause && !wasHead } }
  s.changeInUse e.slot (· - 1)

/-- WITHDRAW (R5). -/
def execWithdraw (p : Role) (id : List Octet) (s : State) : Host.Outcome State Fault Refusal :=
  .next <| s.sizedRequest p .withdraw id.length fun s =>
    match s.queue.find? fun e => e.id == id with
    | none => s.refuse p .withdraw .notFound
    | some e =>
      if e.state ≠ .waiting then s.refuse p .withdraw .wrongState
      else
        let s := (s.removeEntry e).addNotice .console .queueChanged
        let s := if p = .console then s.addNotice .cell .queueChanged else s
        (s.answer p .withdraw .ok []).examineHead

/-- READ_QUEUE (R6). -/
def execReadQueue (p : Role) (s : State) : Host.Outcome State Fault Refusal :=
  .next <| s.request p .readQueue fun s => s.answer p .readQueue .ok (queueOctets s.queue)

end Sys2Proof.Machine
end

