-- ==== Sys2Proof/Machine/Resets.lean ====
section
/-! DEFINITION. Controller reset, the configuration store and the supply (R190 to R193, with each block's own reset
rule: R10, R23, R50, R51, R65, R81, R121, R122, R142, R146, R159, R170, R179). -/

namespace Sys2Proof.Machine

/-! ## Controller reset (R190) -/

/-- The record a controller reset writes for the test in progress, and the head's removal (R10, R23, R50). -/
def State.recordAtReset (s : State) (outcome : TestOutcome) (cause note : Option Cause) : State :=
  match s.queue.head? with
  | some e => ((s.fileRecord (s.assembleRecord e outcome cause note)).removeHead).noticeTestEnd
  | none => s

/-- The controller reset at the queue, the store and the sequencer's test (R10, R23, R50). -/
def State.resetTest (s : State) : State :=
  match s.seq.state with
  | .idle => s
  | .armed =>
    let s := s.setHeadState .waiting
    { s with results := { s.results with reserved := false } }
  | .ending =>
    s.recordAtReset (s.seq.outcome.getD .aborted) s.seq.cause (s.seq.note.or (some .controllerReset))
  | _ => s.recordAtReset .aborted (some .controllerReset) s.seq.note

/-- The controller reset at the drive and the arbiter (R146, R159). -/
def State.resetMotion (s : State) : State :=
  let holder := (s.arbiter.holder).bind Party.port
  let s := s.dropHolder .released
  let s := match holder with
    | some p => s.addNotice p .authorityRevoked
    | none => s
  s.denyWaiting

/-- The controller reset at the extensometer link (R142). -/
def State.resetLink (s : State) : State :=
  if s.link.state = .ready ∨ s.link.state = .asleep then
    { s with link := { s.link with
        holding := none, waiting := [], attachPending := false, streamRequested := false
        operationTimer := none, staleness := 0 } }
  else s.enterLost

/-- The controller reset at the load unit: a tare is abandoned without notice (R121, R122). -/
def LoadUnit.abandonTare (l : LoadUnit) : LoadUnit :=
  match l.tare with
  | some w => l.endTare w
  | none => l

/-- The controller reset at the speed meter (R170). -/
def SpeedMeter.reset (m : SpeedMeter) : SpeedMeter :=
  { m.restart with overspeedCount := 0 }

/-- A controller reset (R190). The record is written from the values the blocks hold before they are cleared; the
head is examined once the reset has been taken (R50). -/
def State.controllerReset (s : State) : State :=
  let s := s.resetTest.resetMotion.resetLink.clearTest
  let s := { s with
    seq := Sequencer.cleared s.seq.autoArm
    load := s.load.abandonTare
    meter := s.meter.reset }
  (s.addNoticeAll .controllerReset).examineHead

/-- RESET_CONTROLLER (R190): the reply, then the reset, at the same taking. -/
def execResetController (p : Role) (s : State) : Host.Outcome State Fault Refusal :=
  .next <| s.request p .resetController fun s => (s.answer p .resetController .ok []).controllerReset

/-- RESET_PIN (R190): the pin has been low for 10 µs. -/
def execResetPin (s : State) : Host.Outcome State Fault Refusal :=
  .next <| s.whenRunning State.controllerReset

/-! ## The configuration store (R191, R192) -/

/-- Every item of R191 as it stands. -/
def State.configItems (s : State) : ConfigItems where
  drive := s.drive.config
  speed := s.meter.config
  tables := s.load.tables
  reference := s.load.reference
  frame := s.strain.frame
  programs := s.programs.map (·.body)
  readers := s.results.readers
  autoArm := s.seq.autoArm

/-- STORE_CONFIG (R192). -/
def execStoreConfig (p : Role) (s : State) : Host.Outcome State Fault Refusal :=
  .next <| s.request p .storeConfig fun s =>
    if s.seq.state ≠ .idle then s.refuse p .storeConfig .wrongState
    else if s.config.inFlight.isSome then s.refuse p .storeConfig .busy
    else
      { s with config := { s.config with inFlight := some s.configItems } }.answer p .storeConfig .accepted []

/-- CONFIG_STORE_COMPLETION (R192): success, or a write fault that leaves an image whose check fails. -/
def execConfigStoreCompletion (readsBack : Bool) (s : State) : Host.Outcome State Fault Refusal :=
  .next <| s.whenRunning fun s =>
    match s.config.inFlight with
    | none => s
    | some items =>
      if readsBack then
        { s with config := { image := .written items, inFlight := none } }.addNotice .console .storeDone
      else
        { s with config := { image := .broken items, inFlight := none } }.addNotice .console .storeFailed

/-! ## The supply (R192, R193) -/

/-- The image as a loss of supply leaves it: one whose check fails when a store was in flight (R192). -/
def ConfigStore.afterLoss (c : ConfigStore) : ConfigImage :=
  match c.inFlight with
  | some items => .broken items
  | none => c.image

/-- Every volatile item at its power-on value, with empty notice sets, in the given state of the supply; the image
is kept. -/
def State.blank (s : State) (power : Power) : State :=
  { State.reset with
    power := power
    ports := ⟨Port.afterLoad 0, Port.afterLoad 0, Port.afterLoad 0⟩
    config := { image := s.config.afterLoss, inFlight := none }
    freeCount := s.freeCount
    pending := s.pending }

/-- LOSS_OF_SUPPLY (R192). -/
def execLossOfSupply (s : State) : Host.Outcome State Fault Refusal :=
  .next <| s.blank .off

/-- POWER_ON (R193): the image read begins. -/
def execPowerOn (s : State) : Host.Outcome State Fault Refusal :=
  .next <| s.blank .loading

/-- A port at the end of the load: a transaction that began during the load goes on clocking out NOT_READY. -/
def Port.loaded (q : Port) (notices : BitVec 32) : Port :=
  { Port.afterLoad notices with clockingOut := q.clockingOut }

/-- The notice sets at the end of the load: {POWER_ON}, with CONFIG_DEFAULTED when the check failed (R193). -/
def loadNotices (passed : Bool) : BitVec 32 :=
  if passed then withNotice 0 .powerOn else withNotice (withNotice 0 .powerOn) .configDefaulted

/-- Every item of R191 loaded from `items`, the other blocks at their power-on values (R193). -/
def State.started (s : State) (items : ConfigItems) (notices : BitVec 32) : State :=
  { State.reset with
    power := .running
    ports := ⟨s.ports.console.loaded notices, s.ports.cell.loaded notices, s.ports.quality.loaded notices⟩
    programs := items.programs.map fun b => { body := b, inUse := 0 }
    results := { State.reset.results with readers := items.readers }
    drive := { State.reset.drive with config := items.drive }
    meter := { State.reset.meter with config := items.speed }
    load := { State.reset.load with tables := items.tables, reference := items.reference }
    strain := StrainUnit.cleared items.frame
    seq := Sequencer.cleared items.autoArm
    config := s.config
    freeCount := s.freeCount
    pending := s.pending }

/-- CONFIG_IMAGE_LOAD_DONE (R193). -/
def execConfigImageLoadDone (s : State) : Host.Outcome State Fault Refusal :=
  .next <|
    if s.power = .loading then
      if s.config.image.passes then s.started s.config.image.items (loadNotices true)
      else s.started ConfigItems.defaults (loadNotices false)
    else s

end Sys2Proof.Machine
end

