-- ==== Sys2Proof/Machine/Results.lean ====
section
/-! DEFINITION. The requests of the result store (R20 to R22). -/

namespace Sys2Proof.Machine

/-- SET_RESULT_READERS (R20). -/
def execSetResultReaders (p : Role) (readers : Octet) (s : State) : Host.Outcome State Fault Refusal :=
  .next <| s.request p .setResultReaders fun s =>
    if s.config.inFlight.isSome then s.refuse p .setResultReaders .busy
    else
      match RoleSet.ofReaders readers with
      | none => s.refuseField p .setResultReaders 1
      | some set =>
        { s with results := { s.results with readers := set } }.answer p .setResultReaders .ok []

/-- The oldest record whose taken-by set does not contain the role (R21). -/
def ResultStore.oldestFor (r : ResultStore) (p : Role) : Option ResultRecord :=
  r.records.find? fun x => !x.takenBy.mem p

/-- FETCH_RESULT (R21). -/
def execFetchResult (p : Role) (s : State) : Host.Outcome State Fault Refusal :=
  .next <| s.request p .fetchResult fun s =>
    match s.results.oldestFor p with
    | none => s.refuse p .fetchResult .notFound
    | some r => s.answer p .fetchResult .ok (recordOctets r)

/-- A take of the record with the given ID (R22): the records after it and whether the take freed the record,
or none when no record has the ID. -/
def takeRecord (id : List Octet) (p : Role) : List ResultRecord → Option (List ResultRecord × Bool)
  | [] => none
  | r :: rest =>
    if r.id = id then
      if r.takenBy.mem p then some (r :: rest, false)
      else
        let r' := { r with takenBy := r.takenBy.add p }
        if r'.takenBy.contains r'.required then some (rest, true) else some (r' :: rest, false)
    else (takeRecord id p rest).map fun (l, freed) => (r :: l, freed)

/-- TAKE_RESULT (R22). A freed place is an event on which auto-arm examines the head (R29). -/
def execTakeResult (p : Role) (id : List Octet) (s : State) : Host.Outcome State Fault Refusal :=
  .next <| s.sizedRequest p .takeResult id.length fun s =>
    match takeRecord id p s.results.records with
    | none => s.refuse p .takeResult .notFound
    | some (records, freed) =>
      let taken :=
        { s with results := { s.results with records := records } }.answer p .takeResult .ok (flag1 freed)
      if freed then taken.examineHead else taken

end Sys2Proof.Machine
end

