-- ==== Sys2Proof/Machine/Dispatch.lean ====
section
/-! DEFINITION. One arm per command of spec/opcode_table.json: each arm is one call of the command's meaning. -/

namespace Sys2Proof.Machine

/-- The effect of a command on everything but the queue of commands. -/
def exec (i : Instr) (s : State) : Host.Outcome State Fault Refusal :=
  match i with
  | .nop p => Sys2Proof.Machine.execNop p s
  | .getNotices p => Sys2Proof.Machine.execGetNotices p s
  | .linkReset p => Sys2Proof.Machine.execLinkReset p s
  | .readLive p => Sys2Proof.Machine.execReadLive p s
  | .resetController p => Sys2Proof.Machine.execResetController p s
  | .storeConfig p => Sys2Proof.Machine.execStoreConfig p s
  | .enqueue p id slot shape width thickness diameter parallel gauge => Sys2Proof.Machine.execEnqueue p id slot shape width thickness diameter parallel gauge s
  | .withdraw p id => Sys2Proof.Machine.execWithdraw p id s
  | .readQueue p => Sys2Proof.Machine.execReadQueue p s
  | .writeProgram p body => Sys2Proof.Machine.execWriteProgram p body s
  | .clearProgram p slot => Sys2Proof.Machine.execClearProgram p slot s
  | .readProgram p slot => Sys2Proof.Machine.execReadProgram p slot s
  | .fetchResult p => Sys2Proof.Machine.execFetchResult p s
  | .takeResult p id => Sys2Proof.Machine.execTakeResult p id s
  | .setResultReaders p readers => Sys2Proof.Machine.execSetResultReaders p readers s
  | .arm p => Sys2Proof.Machine.execArm p s
  | .disarm p => Sys2Proof.Machine.execDisarm p s
  | .start p => Sys2Proof.Machine.execStart p s
  | .hold p => Sys2Proof.Machine.execHold p s
  | .resume p => Sys2Proof.Machine.execResume p s
  | .abort p => Sys2Proof.Machine.execAbort p s
  | .setAutoArm p setting => Sys2Proof.Machine.execSetAutoArm p setting s
  | .writeCalibration p body => Sys2Proof.Machine.execWriteCalibration p body s
  | .writeReference p expected tolerance => Sys2Proof.Machine.execWriteReference p expected tolerance s
  | .readCalibration p => Sys2Proof.Machine.execReadCalibration p s
  | .setRange p range => Sys2Proof.Machine.execSetRange p range s
  | .tare p => Sys2Proof.Machine.execTare p s
  | .writeFrameConstants p compliance datum => Sys2Proof.Machine.execWriteFrameConstants p compliance datum s
  | .readFrameConstants p => Sys2Proof.Machine.execReadFrameConstants p s
  | .extAttach p => Sys2Proof.Machine.execExtAttach p s
  | .extDetach p => Sys2Proof.Machine.execExtDetach p s
  | .extRead p => Sys2Proof.Machine.execExtRead p s
  | .requestAuthority p => Sys2Proof.Machine.execRequestAuthority p s
  | .releaseAuthority p => Sys2Proof.Machine.execReleaseAuthority p s
  | .moveTo p target speed => Sys2Proof.Machine.execMoveTo p target speed s
  | .moveBy p distance speed => Sys2Proof.Machine.execMoveBy p distance speed s
  | .jog p direction speed => Sys2Proof.Machine.execJog p direction speed s
  | .stopMove p => Sys2Proof.Machine.execStopMove p s
  | .setPosition p position => Sys2Proof.Machine.execSetPosition p position s
  | .writeDriveConfig p stepLength vmax jogLimit lower upper following => Sys2Proof.Machine.execWriteDriveConfig p stepLength vmax jogLimit lower upper following s
  | .readDrive p => Sys2Proof.Machine.execReadDrive p s
  | .writeSpeedConfig p gate restSpeed => Sys2Proof.Machine.execWriteSpeedConfig p gate restSpeed s
  | .readSpeedMeter p => Sys2Proof.Machine.execReadSpeedMeter p s
  | .clearFrameStop p => Sys2Proof.Machine.execClearFrameStop p s
  | .readInputs p => Sys2Proof.Machine.execReadInputs p s
  | .malformedRequest p octets => Sys2Proof.Machine.execMalformedRequest p octets s
  | .transactionBegin p => Sys2Proof.Machine.execTransactionBegin p s
  | .transactionWithoutRequest p => Sys2Proof.Machine.execTransactionWithoutRequest p s
  | .replyReady p => Sys2Proof.Machine.execReplyReady p s
  | .powerOn => Sys2Proof.Machine.execPowerOn s
  | .configImageLoadDone => Sys2Proof.Machine.execConfigImageLoadDone s
  | .resetPin => Sys2Proof.Machine.execResetPin s
  | .configStoreCompletion readsBack => Sys2Proof.Machine.execConfigStoreCompletion readsBack s
  | .conversionSlot reading => Sys2Proof.Machine.execConversionSlot reading s
  | .tareRangeComplete => Sys2Proof.Machine.execTareRangeComplete s
  | .tareCommit => Sys2Proof.Machine.execTareCommit s
  | .stalenessLost => Sys2Proof.Machine.execStalenessLost s
  | .testCompletion => Sys2Proof.Machine.execTestCompletion s
  | .endingTimerExpiry => Sys2Proof.Machine.execEndingTimerExpiry s
  | .autoArm => Sys2Proof.Machine.execAutoArm s
  | .gripsStart => Sys2Proof.Machine.execGripsStart s
  | .periodEnd => Sys2Proof.Machine.execPeriodEnd s
  | .moveCompletion => Sys2Proof.Machine.execMoveCompletion s
  | .encoderCount levels => Sys2Proof.Machine.execEncoderCount levels s
  | .gateBoundary => Sys2Proof.Machine.execGateBoundary s
  | .intervalTimeout => Sys2Proof.Machine.execIntervalTimeout s
  | .overspeed => Sys2Proof.Machine.execOverspeed s
  | .frameStopAcceptedActive => Sys2Proof.Machine.execFrameStopAcceptedActive s
  | .frameStopAcceptedInactive => Sys2Proof.Machine.execFrameStopAcceptedInactive s
  | .gripsClosingEdge => Sys2Proof.Machine.execGripsClosingEdge s
  | .gripsOpeningEdge => Sys2Proof.Machine.execGripsOpeningEdge s
  | .statusFrame arms fault => Sys2Proof.Machine.execStatusFrame arms fault s
  | .readingFrame sequence elongation status => Sys2Proof.Machine.execReadingFrame sequence elongation status s
  | .frameDiscarded reason => Sys2Proof.Machine.execFrameDiscarded reason s
  | .commandSent => Sys2Proof.Machine.execCommandSent s
  | .answerTimeout => Sys2Proof.Machine.execAnswerTimeout s
  | .breakEnd => Sys2Proof.Machine.execBreakEnd s
  | .syncCharacter count character => Sys2Proof.Machine.execSyncCharacter count character s
  | .syncWindowTimeout => Sys2Proof.Machine.execSyncWindowTimeout s
  | .wakeRetry => Sys2Proof.Machine.execWakeRetry s
  | .operationTimeout => Sys2Proof.Machine.execOperationTimeout s
  | .sleepTimeout => Sys2Proof.Machine.execSleepTimeout s
  | .recoveryTimeout => Sys2Proof.Machine.execRecoveryTimeout s
  | .inputPinChange pin level => Sys2Proof.Machine.execInputPinChange pin level s
  | .lossOfSupply => Sys2Proof.Machine.execLossOfSupply s
  | .lineRestedHigh => Sys2Proof.Machine.execLineRestedHigh s

end Sys2Proof.Machine
end

