-- ==== Sys2Proof/Machine/Tick.lean ====
section
/-! DEFINITION. One tick of the 10 MHz reference with no command waiting: every running timer advances by one tick
and stays at its end, whose event is a command of the table (DESIGN CHOICE, log entry 2). -/

namespace Sys2Proof.Machine

/-- A running timer advances by one, up to its end; a stopped timer stays stopped. -/
def tickTimer (limit : Nat) (t : Option Nat) : Option Nat :=
  t.map fun n => min (n + 1) limit

/-- A pending reply comes one tick nearer to its ready time (R182). -/
def Port.tick (q : Port) : Port :=
  { q with pendingReply := q.pendingReply.map fun r : PendingReply => { r with wait := r.wait - 1 } }

/-- The period in progress advances (R147, R149). -/
def Drive.tick (d : Drive) : Drive :=
  { d with generator := d.generator.map fun g : Period => { g with elapsed := min (g.elapsed + 1) g.ticks } }

/-- The answer timer of the command on the line advances (R128). -/
def Shifter.tick : Shifter → Shifter
  | .command c second (some t) => .command c second (some (min (t + 1) Config.answerTicks))
  | x => x

/-- The link's timers advance (R123). -/
def ExtLink.tick (l : ExtLink) : ExtLink :=
  { l with
    shifter := l.shifter.tick
    operationTimer := tickTimer Config.operationTicks l.operationTimer
    wake := l.wake.map fun w : WakeAttempt => { w with elapsed := min (w.elapsed + 1) Config.wakeRetryTicks }
    syncWindow := tickTimer Config.syncWindowTicks l.syncWindow
    sleepTimer := tickTimer Config.sleepTicks l.sleepTimer
    recoveryTimer := tickTimer Config.recoveryTicks l.recoveryTimer }

/-- The filters' timings advance (R172). -/
def FrameInputs.tick (i : FrameInputs) : FrameInputs :=
  { i with
    frameStopFilter := tickTimer Config.frameStopFilterTicks i.frameStopFilter
    gripsFilter := tickTimer Config.gripsFilterTicks i.gripsFilter }

/-- One microsecond of the meter's reference: an interval measurement's counter advances (R163, R164). -/
def SpeedMeter.micro (m : SpeedMeter) : SpeedMeter :=
  let advanced : SpeedMeter := { m with counter := min (m.counter + 1) Config.intervalEnd }
  match m.inFlight with
  | .intervalWaiting => advanced
  | .intervalTiming _ => advanced
  | _ => m

/-- One tick of a running part. -/
def State.tick (s : State) : State :=
  let whole := Config.ticksPerMicro ≤ s.refPhase + 1
  { s with
    ports := ⟨s.ports.console.tick, s.ports.cell.tick, s.ports.quality.tick⟩
    drive := s.drive.tick
    link := s.link.tick
    seq := { s.seq with endingTimer := tickTimer Config.endingTicks s.seq.endingTimer }
    inputs := s.inputs.tick
    meter := if whole then s.meter.micro else s.meter
    refPhase := if whole then 0 else s.refPhase + 1 }

/-- What the block does with an empty queue: a tick while it runs, nothing while it is off or reads its image. -/
def State.idle (s : State) : State :=
  if s.power = .running then s.tick else s

end Sys2Proof.Machine
end

