-- ==== Sys2Proof/Safety.lean ====
section
/-! DEFINITION. The laws of the device that the manual states, each as a decidable property of a state, and their
conjunction with what each needs to be kept by every step. -/

namespace Sys2Proof.Machine

/-- The law of R149 with what R143, R146 and R173 give for it: a RUNNING generator has a holder of the authority,
and while the frame-stop latch is set there is neither a holder nor a waiter. So a pulse is emitted only while the
authority has a holder and the latch is clear. The accepted level ACTIVE of FRAME_STOP has set the latch (R174). -/
abbrev State.pulseLaw (s : State) : Prop :=
  (s.drive.generator.isSome = true → s.arbiter.holder.isSome = true)
    ∧ (s.inputs.latch = true → s.arbiter.holder = none ∧ s.arbiter.waiting = [])
    ∧ (s.inputs.frameStop = true → s.inputs.latch = true)

/-- The law of R143: at most one request of each requester waits, and never one of the holder. That the holder is
at most one party is the type of the field. -/
abbrev State.arbiterLaw (s : State) : Prop :=
  s.arbiter.waiting.Nodup ∧ ∀ q ∈ s.arbiter.holder, q ∉ s.arbiter.waiting

/-- The motion laws together. -/
abbrev State.motionLaw (s : State) : Prop :=
  s.pulseLaw ∧ s.arbiterLaw

/-- The law of R151: while the position is referenced, the commanded position lies within the soft limits. -/
abbrev State.limitsLaw (s : State) : Prop :=
  s.drive.referenced = true →
    s.drive.config.lower.toInt ≤ s.drive.commanded.toInt
      ∧ s.drive.commanded.toInt ≤ s.drive.config.upper.toInt

/-- The state the head entry has while the sequencer is in a state other than IDLE (R7). -/
def SeqState.headState : SeqState → Option EntryState
  | .idle => none
  | .armed => some .armed
  | _ => some .inTest

/-- The law of R7: the head is ARMED exactly while the sequencer is ARMED and IN_TEST exactly while it is in PRELOAD
to ENDING, and every other entry is WAITING. -/
abbrev State.headLaw (s : State) : Prop :=
  (if s.seq.state = .idle then ∀ e ∈ s.queue.head?, e.state = .waiting
    else s.queue.head?.map (·.state) = s.seq.state.headState)
  ∧ ∀ e ∈ s.queue.tail, e.state = .waiting

/-- The law of R17: records and reserved places are never more than 12, and a place is reserved exactly while the
sequencer is in ARMED to ENDING. -/
abbrev State.placesLaw (s : State) : Prop :=
  s.results.records.length + (if s.results.reserved then 1 else 0) ≤ Config.resultPlaces
    ∧ (s.results.reserved = true ↔ s.seq.state ≠ .idle)

/-- The test laws together: the law of the places rests on that of the head. -/
abbrev State.testLaw (s : State) : Prop :=
  s.headLaw ∧ s.placesLaw

/-- The law of R3: no specimen ID stands twice across the queue and the result store; and the queue holds at most
8 entries (R1). -/
abbrev State.idLaw (s : State) : Prop :=
  (s.queue.map (·.id) ++ s.results.records.map (·.id)).Nodup ∧ s.queue.length ≤ Config.queueSize

/-- The law of R11: each slot's in-use count is the number of entries that name it, and every entry names a VALID
slot. -/
abbrev State.inUseLaw (s : State) : Prop :=
  (∀ n < s.programs.length, (s.programs[n]?.map (·.inUse)) = some (s.queue.countP fun e => e.slot == n))
    ∧ ∀ e ∈ s.queue, (s.programAt e.slot).isSome = true

/-- Bits 21 to 31 of every notice set are 0 (11.4.1). -/
abbrev State.noticeLaw (s : State) : Prop :=
  ∀ p ∈ [Role.console, Role.cell, Role.quality], (s.ports.get p).notices >>> 21 = 0

/-- The drive configuration and the programs of a configuration name no closing speed (R12, R152). -/
abbrev ConfigItems.opens (c : ConfigItems) : Prop :=
  0 ≤ c.drive.vmax ∧ ∀ b ∈ c.programs.filterMap id, 0 ≤ b.approach

/-- The law of R25: in PRELOAD to ENDING the commanded velocity is never in the closing direction. It rests on no port
holding the authority in a test (R143) and on what the configuration in force, the image and the copy being written
may hold. -/
abbrev State.openingLaw (s : State) : Prop :=
  (s.seq.state.inTest = true →
    0 ≤ s.drive.velocity ∧ (s.arbiter.holder = none ∨ s.arbiter.holder = some .sequencer))
  ∧ s.configItems.opens ∧ s.config.image.items.opens ∧ ∀ c ∈ s.config.inFlight, c.opens

/-- What holds of the test in progress: no tare is in flight in a test (R34, R118); the strain source is absent before
RUN and the origins before preload is reached (R70, R75); and from then on Fm is not less than the latest force
(R83). -/
abbrev State.sampleLaw (s : State) : Prop :=
  (s.seq.state.inTest = true → s.load.tare = none)
  ∧ (s.seq.state ∈ [SeqState.idle, .armed, .preload, .attach] → s.strain.source = none)
  ∧ (s.seq.state ∈ [SeqState.idle, .armed, .preload] → s.strain.p0 = none)
  ∧ (s.seq.state.inTest = true → s.strain.p0.isSome = true →
      s.eval.maximum.isSome = true ∧ ∀ m ∈ s.eval.maximum, ∀ f ∈ s.load.last.force, f ≤ m.force)

/-- What one step within one test may do to its range, its strain source, its origins and its maximum force: the
range never moves to a narrower one (R115), the source changes only from absent and from EXTENSOMETER to CROSSHEAD
(R77), the origins stay (R70), and Fm never falls (R83). -/
abbrev State.testGoesOn (s t : State) : Prop :=
  t.load.activeRange ≤ s.load.activeRange
  ∧ (s.strain.source = some .crosshead → t.strain.source = some .crosshead)
  ∧ (s.strain.source = some .extensometer → t.strain.source.isSome = true)
  ∧ (s.strain.p0.isSome = true → t.strain.p0 = s.strain.p0 ∧ t.strain.fPre = s.strain.fPre)
  ∧ ∀ m ∈ s.eval.maximum, ∃ k ∈ t.eval.maximum, m.force ≤ k.force

end Sys2Proof.Machine
end

