-- ==== Sys2Proof/Machine/Wire.lean ====
section
/-! DEFINITION. The request commands on the wire: the kind and the body of each (R185, R194, 11.8), the request
message (R183), and the command that a taken request's octets carry. -/

namespace Sys2Proof.Machine

/-- The port, the kind and the body of a request command, and none for an event. -/
def requestOf : Instr → Option (Role × RequestKind × List Octet)
  | .nop p => some (p, .nop, [])
  | .getNotices p => some (p, .getNotices, [])
  | .linkReset p => some (p, .linkReset, [])
  | .readLive p => some (p, .readLive, [])
  | .resetController p => some (p, .resetController, [])
  | .storeConfig p => some (p, .storeConfig, [])
  | .enqueue p id slot shape width thickness diameter parallel gauge =>
    some (p, .enqueue, id ++ [slot, shape] ++ be4 width ++ be4 thickness ++ be4 diameter ++ be4 parallel
      ++ be4 gauge)
  | .withdraw p id => some (p, .withdraw, id)
  | .readQueue p => some (p, .readQueue, [])
  | .writeProgram p body => some (p, .writeProgram, body)
  | .clearProgram p slot => some (p, .clearProgram, [slot])
  | .readProgram p slot => some (p, .readProgram, [slot])
  | .fetchResult p => some (p, .fetchResult, [])
  | .takeResult p id => some (p, .takeResult, id)
  | .setResultReaders p readers => some (p, .setResultReaders, [readers])
  | .arm p => some (p, .arm, [])
  | .disarm p => some (p, .disarm, [])
  | .start p => some (p, .start, [])
  | .hold p => some (p, .hold, [])
  | .resume p => some (p, .resume, [])
  | .abort p => some (p, .abort, [])
  | .setAutoArm p setting => some (p, .setAutoArm, [setting])
  | .writeCalibration p body => some (p, .writeCalibration, body)
  | .writeReference p expected tolerance => some (p, .writeReference, be4 expected ++ be4 tolerance)
  | .readCalibration p => some (p, .readCalibration, [])
  | .setRange p range => some (p, .setRange, [range])
  | .tare p => some (p, .tare, [])
  | .writeFrameConstants p compliance datum => some (p, .writeFrameConstants, be4 compliance ++ be4 datum)
  | .readFrameConstants p => some (p, .readFrameConstants, [])
  | .extAttach p => some (p, .extAttach, [])
  | .extDetach p => some (p, .extDetach, [])
  | .extRead p => some (p, .extRead, [])
  | .requestAuthority p => some (p, .requestAuthority, [])
  | .releaseAuthority p => some (p, .releaseAuthority, [])
  | .moveTo p target speed => some (p, .moveTo, be4 target ++ be4 speed)
  | .moveBy p distance speed => some (p, .moveBy, be4 distance ++ be4 speed)
  | .jog p direction speed => some (p, .jog, [direction] ++ be4 speed)
  | .stopMove p => some (p, .stopMove, [])
  | .setPosition p position => some (p, .setPosition, be4 position)
  | .writeDriveConfig p stepLength vmax jogLimit lower upper following =>
    some (p, .writeDriveConfig, [stepLength] ++ be4 vmax ++ be4 jogLimit ++ be4 lower ++ be4 upper
      ++ be4 following)
  | .readDrive p => some (p, .readDrive, [])
  | .writeSpeedConfig p gate restSpeed => some (p, .writeSpeedConfig, [gate] ++ be4 restSpeed)
  | .readSpeedMeter p => some (p, .readSpeedMeter, [])
  | .clearFrameStop p => some (p, .clearFrameStop, [])
  | .readInputs p => some (p, .readInputs, [])
  | .malformedRequest _ _ => none
  | .transactionBegin _ => none
  | .transactionWithoutRequest _ => none
  | .replyReady _ => none
  | .powerOn => none
  | .configImageLoadDone => none
  | .resetPin => none
  | .configStoreCompletion _ => none
  | .conversionSlot _ => none
  | .tareRangeComplete => none
  | .tareCommit => none
  | .stalenessLost => none
  | .testCompletion => none
  | .endingTimerExpiry => none
  | .autoArm => none
  | .gripsStart => none
  | .periodEnd => none
  | .moveCompletion => none
  | .encoderCount _ => none
  | .gateBoundary => none
  | .intervalTimeout => none
  | .overspeed => none
  | .frameStopAcceptedActive => none
  | .frameStopAcceptedInactive => none
  | .gripsClosingEdge => none
  | .gripsOpeningEdge => none
  | .statusFrame _ _ => none
  | .readingFrame _ _ _ => none
  | .frameDiscarded _ => none
  | .commandSent => none
  | .answerTimeout => none
  | .breakEnd => none
  | .syncCharacter _ _ => none
  | .syncWindowTimeout => none
  | .wakeRetry => none
  | .operationTimeout => none
  | .sleepTimeout => none
  | .recoveryTimeout => none
  | .inputPinChange _ _ => none
  | .lossOfSupply => none
  | .lineRestedHigh => none

/-- The command a request of kind `k` with body `b` is (R185, 11.8). -/
def commandOf (p : Role) (k : RequestKind) (b : List Octet) : Instr :=
  match k with
  | .nop => .nop p
  | .getNotices => .getNotices p
  | .linkReset => .linkReset p
  | .readLive => .readLive p
  | .resetController => .resetController p
  | .storeConfig => .storeConfig p
  | .enqueue =>
    .enqueue p (b.take 12) (b.getD 12 0) (b.getD 13 0) (word4 b 14) (word4 b 18) (word4 b 22) (word4 b 26)
      (word4 b 30)
  | .withdraw => .withdraw p b
  | .readQueue => .readQueue p
  | .writeProgram => .writeProgram p b
  | .clearProgram => .clearProgram p (b.getD 0 0)
  | .readProgram => .readProgram p (b.getD 0 0)
  | .fetchResult => .fetchResult p
  | .takeResult => .takeResult p b
  | .setResultReaders => .setResultReaders p (b.getD 0 0)
  | .arm => .arm p
  | .disarm => .disarm p
  | .start => .start p
  | .hold => .hold p
  | .resume => .resume p
  | .abort => .abort p
  | .setAutoArm => .setAutoArm p (b.getD 0 0)
  | .writeCalibration => .writeCalibration p b
  | .writeReference => .writeReference p (word4 b 0) (word4 b 4)
  | .readCalibration => .readCalibration p
  | .setRange => .setRange p (b.getD 0 0)
  | .tare => .tare p
  | .writeFrameConstants => .writeFrameConstants p (word4 b 0) (word4 b 4)
  | .readFrameConstants => .readFrameConstants p
  | .extAttach => .extAttach p
  | .extDetach => .extDetach p
  | .extRead => .extRead p
  | .requestAuthority => .requestAuthority p
  | .releaseAuthority => .releaseAuthority p
  | .moveTo => .moveTo p (word4 b 0) (word4 b 4)
  | .moveBy => .moveBy p (word4 b 0) (word4 b 4)
  | .jog => .jog p (b.getD 0 0) (word4 b 1)
  | .stopMove => .stopMove p
  | .setPosition => .setPosition p (word4 b 0)
  | .writeDriveConfig =>
    .writeDriveConfig p (b.getD 0 0) (word4 b 1) (word4 b 5) (word4 b 9) (word4 b 13) (word4 b 17)
  | .readDrive => .readDrive p
  | .writeSpeedConfig => .writeSpeedConfig p (b.getD 0 0) (word4 b 1)
  | .readSpeedMeter => .readSpeedMeter p
  | .clearFrameStop => .clearFrameStop p
  | .readInputs => .readInputs p

/-- A request message (R183): kind, length, body and check. -/
def requestMessage (k : RequestKind) (body : List Octet) : List Octet :=
  let m := k.code :: BitVec.ofNat 8 body.length :: body
  m ++ [crc8 m]

/-- The command that the octets clocked in at port `p` are (R181, R183): a transaction without a request, a
request of the catalogue, or a malformed request. -/
def commandOfOctets (p : Role) (octets : List Octet) : Instr :=
  let kept := octets.take Config.inputBufferSize
  if kept.length < 3 then .transactionWithoutRequest p
  else
    match checkRequest p kept with
    | .ok (k, body) => commandOf p k body
    | .error _ => .malformedRequest p kept

/-- The command that the levels of SDI in one transaction at port `p` are (R181). -/
def commandOfLevels (p : Role) (levels : List Bool) : Instr :=
  commandOfOctets p (octetsClockedIn levels)

end Sys2Proof.Machine
end

