-- ==== Sys2Proof/WellFormed.lean ====
section
/-! DEFINITION. Well-formed commands: those whose operands the catalogue and the frames of the manual admit. -/

namespace Sys2Proof

open Machine

/-- The body of a request is of a length the catalogue allows (R185). -/
def bodyLengthAllowed (i : Instr) : Bool :=
  match requestOf i with
  | some (_, k, body) => k.lengthAllowed body.length
  | none => true

/-- The port of a request lies in the catalogue's roles for its kind (R185). A request from another port is a
command all the same, which the port refuses ROLE_REFUSED. -/
def roleAllowed (i : Instr) : Bool :=
  match requestOf i with
  | some (p, k, _) => k.row.roles.mem p
  | none => true

/-- A malformed request is the octets of a transaction, at most the 123 that are kept and at least three, that fail
a check of R183. -/
def malformed (p : Role) (octets : List Octet) : Bool :=
  decide (3 ≤ octets.length) && decide (octets.length ≤ Config.inputBufferSize)
    && (match checkRequest p octets with
        | .error _ => true
        | .ok _ => false)

/-- Well-formed commands. -/
def wellFormed : Instr → Bool
  | .malformedRequest p octets => malformed p octets
  | i => bodyLengthAllowed i

end Sys2Proof
end

