-- ==== Sys2Proof/Certificates/Slice0/Obligations.lean ====
section
/-! DEFINITION. The statements for the provers. A command's statement gives the whole next state: each field of
State that its equation does not set is the old one, so the equation is also the frame. -/

open Sys2Proof Sys2Proof.Machine

/-! ## Steps, replies and the ports -/

/-- The step runs the command at the front of the queue, with the queue's rest. -/
def Obligations.StepRunsFront : Prop :=
  ∀ (c : Instr) (rest : List Instr) (s : State), s.pending = c :: rest →
    step s = exec c { s with pending := rest }

/-- With no command waiting the step is one tick of the reference (the model's choice, log entry 2): while the part
runs, each running timer advances by one tick up to its end, a stopped one stays stopped, a pending reply comes one
tick nearer, an interval counter takes every tenth tick, and nothing else changes; off or loading, nothing does. -/
def Obligations.EmptyQueueTicks : Prop :=
  ∀ s : State, s.pending = [] →
    (s.power ≠ .running → step s = .next s)
    ∧ (s.power = .running → ∃ t : State, step s = .next t
        ∧ t = { s with
            ports := t.ports
            drive := { s.drive with
              generator := s.drive.generator.map fun g : Period =>
                { g with elapsed := min (g.elapsed + 1) g.ticks } }
            meter := { s.meter with counter := t.meter.counter }
            link := { s.link with
              shifter := t.link.shifter
              operationTimer := s.link.operationTimer.map fun n => min (n + 1) 20000000
              wake := s.link.wake.map fun w : WakeAttempt => ⟨w.number, min (w.elapsed + 1) 50000⟩
              syncWindow := s.link.syncWindow.map fun n => min (n + 1) 20000
              sleepTimer := s.link.sleepTimer.map fun n => min (n + 1) 100000000
              recoveryTimer := s.link.recoveryTimer.map fun n => min (n + 1) 1000000 }
            seq := { s.seq with endingTimer := s.seq.endingTimer.map fun n => min (n + 1) 30000000 }
            inputs := { s.inputs with
              frameStopFilter := s.inputs.frameStopFilter.map fun n => min (n + 1) 1000
              gripsFilter := s.inputs.gripsFilter.map fun n => min (n + 1) 20000 }
            refPhase := if 9 ≤ s.refPhase then 0 else s.refPhase + 1 }
        ∧ (∀ c second n, s.link.shifter = .command c second (some n) →
            t.link.shifter = .command c second (some (min (n + 1) 50000)))
        ∧ ((∀ c second n, s.link.shifter ≠ .command c second (some n)) → t.link.shifter = s.link.shifter)
        ∧ (9 ≤ s.refPhase → s.meter.inFlight = .intervalWaiting ∨ (∃ d, s.meter.inFlight = .intervalTiming d) →
            t.meter.counter = min (s.meter.counter + 1) 65535)
        ∧ (s.refPhase < 9 ∨ (s.meter.inFlight ≠ .intervalWaiting ∧ ∀ d, s.meter.inFlight ≠ .intervalTiming d) →
            t.meter.counter = s.meter.counter)
        ∧ ∀ p, t.ports.get p = { s.ports.get p with
            pendingReply := (s.ports.get p).pendingReply.map fun r : PendingReply => { r with wait := r.wait - 1 } })

/-- NOP and the reads of one body each: answered OK, and nothing but the port's reply changes. The live snapshot at
its octets (11.8.5): 32 octets, with the positions, the flags of octet 4, the strain source in octet 13 and the codes
of octets 26 to 31 where the table puts them, the segment index 0 in IDLE and ARMED, and the last speed while it lies
within the signed 32-bit range. READ_QUEUE's body is a count and the entries from the head, each with its fields at
their octets of the 44 (11.8.2). Where the manual leaves a choice it is the model's, log entries 25 and 38. -/
def Obligations.ReadsChangeNothing : Prop :=
  (∀ (p : Role) (s : State), s.takes p = true →
    exec (.nop p) s = .next (s.answer p .nop .ok [])
    ∧ exec (.readLive p) s = .next (s.answer p .readLive .ok (liveOctets s))
    ∧ exec (.readQueue p) s = .next (s.answer p .readQueue .ok (queueOctets s.queue))
    ∧ exec (.readCalibration p) s = .next (s.answer p .readCalibration .ok (calibrationOctets s.load))
    ∧ exec (.readFrameConstants p) s
        = .next (s.answer p .readFrameConstants .ok (num4 s.strain.frame.compliance ++ be4 s.strain.frame.datum))
    ∧ exec (.extRead p) s = .next (s.answer p .extRead .ok (linkOctets s.link))
    ∧ exec (.readDrive p) s = .next (s.answer p .readDrive .ok (driveOctets s.drive s.arbiter))
    ∧ exec (.readSpeedMeter p) s = .next (s.answer p .readSpeedMeter .ok (meterOctets s.meter))
    ∧ exec (.readInputs p) s = .next (s.answer p .readInputs .ok
        [if s.inputs.frameStop then 1 else 0, if s.inputs.grips then 1 else 0, if s.inputs.latch then 1 else 0]))
  ∧ (∀ s : State,
    (liveOctets s).length = 32
    ∧ word4 (liveOctets s) 0 = BitVec.ofInt 32 (s.load.last.force.getD 0)
    ∧ word4 (liveOctets s) 5 = BitVec.ofInt 32 (s.strain.sigma.getD 0)
    ∧ word4 (liveOctets s) 9 = BitVec.ofInt 32 (s.strain.epsilon.getD 0)
    ∧ word4 (liveOctets s) 14 = s.drive.encoder
    ∧ word4 (liveOctets s) 18 = s.drive.commanded
    ∧ (-2147483648 ≤ s.meter.lastSpeed → s.meter.lastSpeed ≤ 2147483647 →
        word4 (liveOctets s) 22 = BitVec.ofInt 32 s.meter.lastSpeed)
    ∧ ((liveOctets s).getD 4 0).getLsbD 0 = s.load.last.force.isSome
    ∧ ((liveOctets s).getD 4 0).getLsbD 1 = s.load.last.held
    ∧ ((liveOctets s).getD 4 0).getLsbD 2 = s.strain.sigma.isSome
    ∧ ((liveOctets s).getD 4 0).getLsbD 3 = s.strain.epsilon.isSome
    ∧ ((liveOctets s).getD 4 0).getLsbD 4 = s.strain.source.isSome
    ∧ ((liveOctets s).getD 4 0).getLsbD 5 = s.drive.referenced
    ∧ ((liveOctets s).getD 4 0).getLsbD 6 = s.meter.rest
    ∧ ((liveOctets s).getD 4 0).getLsbD 7 = s.inputs.latch
    ∧ ((liveOctets s).getD 13 0).toNat = (match s.strain.source with
        | some .crosshead => 1
        | _ => 0)
    ∧ ((liveOctets s).getD 26 0).toNat = s.seq.state.code
    ∧ (s.seq.state = .idle ∨ s.seq.state = .armed → (liveOctets s).getD 27 0 = 0)
    ∧ (s.seq.state ≠ .idle → s.seq.state ≠ .armed → s.seq.segment ≤ 255 →
        ((liveOctets s).getD 27 0).toNat = s.seq.segment)
    ∧ ((liveOctets s).getD 28 0).toNat = s.link.state.code
    ∧ ((liveOctets s).getD 29 0).toNat = s.load.activeRange.val
    ∧ ((liveOctets s).getD 30 0).toNat = s.load.last.range.val
    ∧ ((liveOctets s).getD 31 0).toNat = holderCode s.arbiter.holder)
  ∧ (∀ q : List SpecimenEntry, queueOctets q = BitVec.ofNat 8 q.length :: q.flatMap entryOctets)
  ∧ ∀ (e : SpecimenEntry) (o : List Octet), e.id.length = 12 → o = entryOctets e →
    o.length = 44 ∧ o.take 12 = e.id ∧ o.getD 12 0 = BitVec.ofNat 8 e.slot
    ∧ (∀ width thickness : Int, e.shape = .flat width thickness →
        o.getD 13 0 = 0 ∧ word4 o 14 = BitVec.ofInt 32 width ∧ word4 o 18 = BitVec.ofInt 32 thickness
          ∧ word4 o 22 = 0)
    ∧ (∀ diameter : Int, e.shape = .round diameter →
        o.getD 13 0 = 1 ∧ word4 o 14 = 0 ∧ word4 o 18 = 0 ∧ word4 o 22 = BitVec.ofInt 32 diameter)
    ∧ word4 o 26 = BitVec.ofInt 32 e.parallel ∧ word4 o 30 = BitVec.ofInt 32 e.gauge
    ∧ word4 o 34 = BitVec.ofInt 32 e.area
    ∧ o.getD 38 0 = (match e.state with
        | .waiting => 0
        | .armed => 1
        | .inTest => 2)
    ∧ o.getD 39 0 = (if e.capture.isSome then 1 else 0) ∧ word4 o 40 = e.capture.getD 0

/-- A program body that WRITE_PROGRAM accepts is read back by READ_PROGRAM octet for octet, the fields stored but
unused included (R14, R16, 11.8.3). -/
def Obligations.WrittenProgramReadsBack : Prop :=
  ∀ (tables : PerRange (Option RangeTable)) (b : List Octet),
    programFailure tables b = none → programOctets (programOfOctets b) = b

/-- A well-formed request from a port the catalogue allows, sent as its message with any octets after the check, is
taken as that very command, and so it is as levels of SDI, each octet from its most significant bit, with fewer than
eight bits of an incomplete last octet (R181, R183, R185, R194, 11.8). -/
def Obligations.RequestSurvivesTheWire : Prop :=
  ∀ (i : Instr) (p : Role) (k : RequestKind) (body padding : List Octet),
    requestOf i = some (p, k, body) → wellFormed i = true → k.row.roles.mem p = true →
    commandOfOctets p (requestMessage k body ++ padding) = i
    ∧ ∀ incomplete : List Bool, incomplete.length < 8 →
      commandOfLevels p ((requestMessage k body ++ padding).flatMap octetLevels ++ incomplete) = i

/-- GET_NOTICES gives the set as it stood and empties it, so that the attention line becomes inactive; a notice
raised after the taking stands alone in the emptied set and makes the line active again (R187). -/
def Obligations.GetNoticesEmptiesTheSet : Prop :=
  ∀ (p : Role) (s : State), s.takes p = true →
    ∃ t : State, exec (.getNotices p) s = .next t
      ∧ t = { s with ports := t.ports }
      ∧ t.ports.get p =
          { inputBuffer := []
            pendingReply := some ⟨⟨0x02, .ok, be4 (s.ports.get p).notices⟩, 500⟩
            notices := 0, clockingOut := none }
      ∧ (t.ports.get p).attention = false
      ∧ (∀ q, q ≠ p → t.ports.get q = s.ports.get q)
      ∧ ∀ n : Notice, ((t.addNotice p n).ports.get p).notices = withNotice 0 n
          ∧ ((t.addNotice p n).ports.get p).attention = true

/-- LINK_RESET (R189, R146, R143). Of a port that does not hold the authority: the set is emptied, its waiting request
removed without a notice, and nothing else changes. Of the port that holds it, outside a test: the generator stops, a
move ends RELEASED, the authority is revoked, and AUTHORITY_REVOKED, with MOVE_STOPPED for a move of its own, is added
to the emptied set; the front of the list is granted, a port or, in ARMED, SEQUENCER by the grant of R143
(`grantFront`). The reply is OK. Where the manual leaves a choice it is the model's, log entries 21 and 44. -/
def Obligations.LinkResetByStanding : Prop :=
  (∀ (p : Role) (s : State), s.takes p = true → s.portHolds p = false →
    ∃ t : State, exec (.linkReset p) s = .next t
      ∧ t = { s with
          ports := t.ports
          arbiter := { s.arbiter with waiting := s.arbiter.waiting.filter fun q => partyOf p != some q } }
      ∧ t.ports.get p =
          { inputBuffer := [], pendingReply := some ⟨⟨0x03, .ok, []⟩, 500⟩, notices := 0, clockingOut := none }
      ∧ ∀ q, q ≠ p → t.ports.get q = s.ports.get q)
  ∧ ∀ (p : Role) (h : Party) (s : State), s.takes p = true → partyOf p = some h → s.arbiter.holder = some h →
    s.arbiterLaw → s.seq.state.inTest = false → (∀ m ∈ s.drive.move, m.issuer = p) →
    (∃ u : State, exec (.linkReset p) s = .next (u.grantFront.answer p .linkReset .ok [])
      ∧ u = { s with
          ports := u.ports
          arbiter := ⟨none, s.arbiter.waiting⟩
          drive := { s.drive with
            generator := none, buffer := none, velocity := 0, source := .none, move := none
            lastOutcome := (s.drive.move.map fun m =>
              (⟨m.number, m.kind, some .released, s.drive.commanded, s.drive.encoder⟩ : MoveOutcome)).or
                s.drive.lastOutcome } }
      ∧ u.ports.get p = { s.ports.get p with notices :=
          (if s.drive.move.isSome then withNotice (withNotice 0 .moveStopped) .authorityRevoked
            else withNotice 0 .authorityRevoked) }
      ∧ ∀ q, q ≠ p → u.ports.get q = s.ports.get q)
    ∧ (s.arbiter.waiting.head? ≠ some .sequencer → ∃ t : State, exec (.linkReset p) s = .next t
      ∧ t.arbiter = ⟨s.arbiter.waiting.head?, s.arbiter.waiting.tail⟩
      ∧ t.drive = { s.drive with
          generator := none, buffer := none, velocity := 0, source := .none, move := none
          lastOutcome := (s.drive.move.map fun m =>
            (⟨m.number, m.kind, some .released, s.drive.commanded, s.drive.encoder⟩ : MoveOutcome)).or
              s.drive.lastOutcome }
      ∧ t = { s with ports := t.ports, arbiter := t.arbiter, drive := t.drive }
      ∧ (t.ports.get p).notices =
          (if s.drive.move.isSome then withNotice (withNotice 0 .moveStopped) .authorityRevoked
            else withNotice 0 .authorityRevoked)
      ∧ (t.ports.get p).pendingReply = some ⟨⟨0x03, .ok, []⟩, 500⟩
      ∧ ∀ q ∈ s.arbiter.waiting.head?, ∀ r ∈ q.port, (t.ports.get r).hasNotice .authorityGranted = true)

/-- A taken request that fails a check of R183: of which check 1, 2 or 3 is the first to fail, it is refused
LENGTH_ERROR, CHECK_FAILED or UNKNOWN_KIND, its kind octet echoed (R184); by check 4, every request from a role the
catalogue does not allow is refused ROLE_REFUSED, and then by check 5 every body of a length it does not allow
LENGTH_ERROR, whether the request comes as its own row or as MALFORMED_REQUEST. None has another effect. `octets` are
those that are kept (R181). Where the manual leaves a choice it is the model's, log entry 32. -/
def Obligations.MalformedRequestIsRefused : Prop :=
  (∀ (p : Role) (octets : List Octet) (s : State), s.takes p = true →
    3 ≤ octets.length → octets.length ≤ 123 →
    (120 < (octets.getD 1 0).toNat ∨ octets.length < (octets.getD 1 0).toNat + 3 →
      exec (.malformedRequest p octets) s = .next (s.answerKind p (octets.getD 0 0) .lengthError []))
    ∧ ((octets.getD 1 0).toNat ≤ 120 → (octets.getD 1 0).toNat + 3 ≤ octets.length →
        (octets.getD ((octets.getD 1 0).toNat + 2) 0 ≠ crc8 (octets.take ((octets.getD 1 0).toNat + 2)) →
          exec (.malformedRequest p octets) s = .next (s.answerKind p (octets.getD 0 0) .checkFailed []))
        ∧ (octets.getD ((octets.getD 1 0).toNat + 2) 0 = crc8 (octets.take ((octets.getD 1 0).toNat + 2)) →
            (∀ k : RequestKind, k.code ≠ octets.getD 0 0) →
            exec (.malformedRequest p octets) s = .next (s.answerKind p (octets.getD 0 0) .unknownKind []))
        ∧ (octets.getD ((octets.getD 1 0).toNat + 2) 0 = crc8 (octets.take ((octets.getD 1 0).toNat + 2)) →
            ∀ k : RequestKind, k.code = octets.getD 0 0 →
            (k.row.roles.mem p = false →
              exec (.malformedRequest p octets) s = .next (s.answerKind p (octets.getD 0 0) .roleRefused []))
            ∧ (k.row.roles.mem p = true →
                (octets.getD 1 0).toNat < k.row.shortest ∨ k.row.longest < (octets.getD 1 0).toNat →
              exec (.malformedRequest p octets) s = .next (s.answerKind p (octets.getD 0 0) .lengthError [])))))
  ∧ ∀ (i : Instr) (p : Role) (k : RequestKind) (body : List Octet) (s : State),
    requestOf i = some (p, k, body) → s.takes p = true →
    (k.row.roles.mem p = false → exec i s = .next (s.answer p k .roleRefused []))
    ∧ (k.row.roles.mem p = true → body.length < k.row.shortest ∨ k.row.longest < body.length →
      exec i s = .next (s.answer p k .lengthError []))

/-- A transaction: its message is chosen when it begins, NOT_READY while the image is read, it ends without a request
leaving the pending reply as it is, a request whose transaction clocked out NOT_READY, or that ends while the image is
read, is discarded, and REPLY_READY is the moment at which the reply becomes ready, whatever its wait shows (R181,
R182, R193). A reply replaces the port's pending reply, ready 50 µs (500 ticks) after the transaction's end, and
changes nothing else of the part. While a transaction is in progress the port drives the message chosen, its kind,
status, length, body and check, then 0x00 for every further octet, each from its most significant bit (R181,
R184); between transactions the model gives no level. Where the manual leaves a choice it is the model's, log entries
6, 26, 28 and 31. -/
def Obligations.TransactionsMoveOneReply : Prop :=
  (∀ (s : State) (p : Role) (k : RequestKind) (st : Status) (body : List Octet),
    s.answer p k st body = { s with ports := (s.answer p k st body).ports }
    ∧ (s.answer p k st body).ports.get p =
        { inputBuffer := [], pendingReply := some ⟨⟨k.code, st, body⟩, 500⟩
          notices := (s.ports.get p).notices, clockingOut := none }
    ∧ ∀ q, q ≠ p → (s.answer p k st body).ports.get q = s.ports.get q)
  ∧ (∀ (i : Instr) (p : Role) (k : RequestKind) (body : List Octet) (s : State),
    requestOf i = some (p, k, body) → s.power ≠ .off → s.takes p = false →
    ∃ t : State, exec i s = .next t
      ∧ t = { s with ports := t.ports }
      ∧ t.ports.get p = { s.ports.get p with clockingOut := none, inputBuffer := [] }
      ∧ ∀ q, q ≠ p → t.ports.get q = s.ports.get q)
  ∧ (∀ (p : Role) (s : State), s.power = .loading → (s.ports.get p).clockingOut = none →
    ∃ t : State, exec (.transactionBegin p) s = .next t ∧ t = { s with ports := t.ports }
      ∧ (∀ q, q ≠ p → t.ports.get q = s.ports.get q)
      ∧ t.ports.get p = { s.ports.get p with inputBuffer := [], clockingOut := some ⟨0x00, .notReady, []⟩ })
  ∧ (∀ (s : State) (p : Role) (n : Nat),
    ((s.ports.get p).clockingOut = none →
      (s.ports.get p).octetOut n = none ∧ (s.ports.get p).sdo n = none)
    ∧ ∀ r, (s.ports.get p).clockingOut = some r →
      (s.ports.get p).octetOut 0 = some r.kind
      ∧ (s.ports.get p).octetOut 1 = some r.status.code
      ∧ (s.ports.get p).octetOut 2 = some (BitVec.ofNat 8 (r.body.length / 256))
      ∧ (s.ports.get p).octetOut 3 = some (BitVec.ofNat 8 r.body.length)
      ∧ (∀ h : n < r.body.length, (s.ports.get p).octetOut (n + 4) = some r.body[n])
      ∧ (s.ports.get p).octetOut (r.body.length + 4) =
          some (crc8 ((List.range (r.body.length + 4)).map r.octetOut))
      ∧ (r.body.length + 5 ≤ n → (s.ports.get p).octetOut n = some 0x00)
      ∧ ∀ i, i < 8 →
          (s.ports.get p).sdo (8 * n + i) = ((s.ports.get p).octetOut n).map fun o => o.getLsbD (7 - i))
  ∧ ∀ (p : Role) (s : State), s.power = .running →
    ((s.ports.get p).clockingOut = none →
      ∃ t : State, exec (.transactionBegin p) s = .next t ∧ t = { s with ports := t.ports }
        ∧ (∀ q, q ≠ p → t.ports.get q = s.ports.get q)
        ∧ t.ports.get p = { s.ports.get p with
            inputBuffer := []
            clockingOut := some (match (s.ports.get p).pendingReply with
              | none => ⟨0x00, .none, []⟩
              | some r => if r.wait = 0 then r.reply else ⟨0x00, .notReady, []⟩) })
    ∧ (∃ t : State, exec (.transactionWithoutRequest p) s = .next t ∧ t = { s with ports := t.ports }
        ∧ (∀ q, q ≠ p → t.ports.get q = s.ports.get q)
        ∧ t.ports.get p = { s.ports.get p with clockingOut := none, inputBuffer := [] })
    ∧ (∀ r, (s.ports.get p).pendingReply = some r →
        ∃ t : State, exec (.replyReady p) s = .next t ∧ t = { s with ports := t.ports }
          ∧ (∀ q, q ≠ p → t.ports.get q = s.ports.get q)
          ∧ t.ports.get p = { s.ports.get p with pendingReply := some { r with wait := 0 } })

/-! ## Specimens, programs and results -/

/-- A taken ENQUEUE (R3, R4): the entry joins the back of the queue WAITING, with S0 and no grip capture; its slot's
in-use count rises by one; CONSOLE receives QUEUE_CHANGED; the reply gives S0 and the position; then auto-arm
examines the head. -/
def Obligations.EnqueueAppendsTheEntry : Prop :=
  ∀ (s : State) (id : List Octet) (slot shape : Octet) (width thickness diameter parallel gauge : Word32)
    (q : ProgramSlot) (b : ProgramBody) (sh : Shape),
    s.takes .cell = true → id.length = 12 → s.queue.length < 8 →
    (∀ c ∈ id, 0x20 ≤ c.toNat ∧ c.toNat ≤ 0x7E) → (∃ c ∈ id, c ≠ 0x20) →
    (∀ e ∈ s.queue, e.id ≠ id) → (∀ r ∈ s.results.records, r.id ≠ id) →
    slot.toNat ≤ 15 → s.programs[slot.toNat]? = some q → q.body = some b →
    ((shape = 0 ∧ sh = .flat width.toInt thickness.toInt
        ∧ 1000 ≤ width.toInt ∧ width.toInt ≤ 100000 ∧ 100 ≤ thickness.toInt ∧ thickness.toInt ≤ 60000)
      ∨ (shape = 1 ∧ sh = .round diameter.toInt ∧ 2000 ≤ diameter.toInt ∧ diameter.toInt ≤ 50000)) →
    10000 ≤ parallel.toInt → parallel.toInt ≤ 400000 → 10000 ≤ gauge.toInt → gauge.toInt ≤ 400000 →
    1000 ≤ sh.area → sh.area ≤ 20000000 → (b.extUse = .auto → b.extGauge ≤ parallel.toInt) →
    ∃ t : State, exec (.enqueue .cell id slot shape width thickness diameter parallel gauge) s = .next t.examineHead
      ∧ t = { s with queue := t.queue, programs := t.programs, ports := t.ports }
      ∧ t.queue = s.queue ++
          [{ id := id, slot := slot.toNat, shape := sh, parallel := parallel.toInt, gauge := gauge.toInt
             area := sh.area, state := .waiting, capture := none }]
      ∧ t.programs = s.programs.set slot.toNat { q with inUse := q.inUse + 1 }
      ∧ (t.ports.get .console).hasNotice .queueChanged = true
      ∧ (t.ports.get .cell).pendingReply =
          some ⟨⟨0x10, .ok, num4 sh.area ++ num1 (s.queue.length + 1)⟩, 500⟩

/-- The nine checks of R3, in their order: FULL, the ID, DUPLICATE, the slot, NOT_FOUND, the shape, the dimensions of
the shape with the lengths (the lowest failing index), the area, and the gauge length of an extensometer program
against the parallel length; each with no other effect. -/
def Obligations.EnqueueRefusals : Prop :=
  ∀ (s : State) (id : List Octet) (slot shape : Octet) (width thickness diameter parallel gauge : Word32)
    (i : Instr), i = .enqueue .cell id slot shape width thickness diameter parallel gauge →
    s.takes .cell = true → id.length = 12 →
    (8 ≤ s.queue.length → exec i s = .next (s.answer .cell .enqueue .full []))
    ∧ (s.queue.length < 8 →
        ((∃ c ∈ id, c.toNat < 0x20 ∨ 0x7E < c.toNat) ∨ (∀ c ∈ id, c = 0x20) →
          exec i s = .next (s.answer .cell .enqueue .invalidField [1]))
        ∧ ((∀ c ∈ id, 0x20 ≤ c.toNat ∧ c.toNat ≤ 0x7E) → (∃ c ∈ id, c ≠ 0x20) →
            ((∃ e ∈ s.queue, e.id = id) ∨ (∃ r ∈ s.results.records, r.id = id) →
              exec i s = .next (s.answer .cell .enqueue .duplicate []))
            ∧ ((∀ e ∈ s.queue, e.id ≠ id) → (∀ r ∈ s.results.records, r.id ≠ id) →
                (15 < slot.toNat → exec i s = .next (s.answer .cell .enqueue .invalidField [2]))
                ∧ (slot.toNat ≤ 15 → s.programAt slot.toNat = none →
                    exec i s = .next (s.answer .cell .enqueue .notFound []))
                ∧ (slot.toNat ≤ 15 → (s.programAt slot.toNat).isSome = true → shape ≠ 0 → shape ≠ 1 →
                    exec i s = .next (s.answer .cell .enqueue .invalidField [3]))
                ∧ ∀ (b : ProgramBody) (sh : Shape) (index : Nat), slot.toNat ≤ 15 →
                    s.programAt slot.toNat = some b →
                    (shape = 0 ∧ sh = .flat width.toInt thickness.toInt) ∨ (shape = 1 ∧ sh = .round diameter.toInt) →
                    index = (
                      if shape = 0 ∧ ¬ (1000 ≤ width.toInt ∧ width.toInt ≤ 100000) then 4
                      else if shape = 0 ∧ ¬ (100 ≤ thickness.toInt ∧ thickness.toInt ≤ 60000) then 5
                      else if shape = 1 ∧ ¬ (2000 ≤ diameter.toInt ∧ diameter.toInt ≤ 50000) then 6
                      else if ¬ (10000 ≤ parallel.toInt ∧ parallel.toInt ≤ 400000) then 7
                      else if ¬ (10000 ≤ gauge.toInt ∧ gauge.toInt ≤ 400000) then 8
                      else if ¬ (1000 ≤ sh.area ∧ sh.area ≤ 20000000) then 9
                      else if b.extUse = .auto ∧ parallel.toInt < b.extGauge then 7
                      else 0) →
                    index ≠ 0 →
                    exec i s = .next (s.answer .cell .enqueue .invalidField [BitVec.ofNat 8 index]))))

/-- WITHDRAW (R5): ROLE_REFUSED from QUALITY, NOT_FOUND without the entry, WRONG_STATE for one ARMED or IN_TEST; a
WAITING entry is removed, its slot's in-use count falls by one, CONSOLE receives QUEUE_CHANGED, and CELL too when
the WITHDRAW came from CONSOLE; then auto-arm examines the head. -/
def Obligations.WithdrawRemovesWaitingEntry : Prop :=
  (∀ (s : State) (id : List Octet), s.takes .quality = true →
    exec (.withdraw .quality id) s = .next (s.answer .quality .withdraw .roleRefused []))
  ∧ ∀ (p : Role) (s : State) (id : List Octet), p ≠ .quality → s.takes p = true → id.length = 12 →
    ((∀ e ∈ s.queue, e.id ≠ id) → exec (.withdraw p id) s = .next (s.answer p .withdraw .notFound []))
    ∧ ∀ (before rest : List SpecimenEntry) (e : SpecimenEntry),
        s.queue = before ++ e :: rest → e.id = id → (∀ x ∈ before, x.id ≠ id) →
        (e.state ≠ .waiting → exec (.withdraw p id) s = .next (s.answer p .withdraw .wrongState []))
        ∧ (e.state = .waiting → ∀ q, s.programs[e.slot]? = some q →
            ∃ t : State, exec (.withdraw p id) s = .next t.examineHead
              ∧ t = { s with
                  queue := before ++ rest, programs := t.programs, ports := t.ports
                  seq := { s.seq with autoArmPause := s.seq.autoArmPause && !before.isEmpty } }
              ∧ t.programs = s.programs.set e.slot { q with inUse := q.inUse - 1 }
              ∧ (t.ports.get .console).hasNotice .queueChanged = true
              ∧ (t.ports.get .cell).notices =
                  (if p = .console then withNotice (s.ports.get .cell).notices .queueChanged
                    else (s.ports.get .cell).notices)
              ∧ (t.ports.get .quality).notices = (s.ports.get .quality).notices
              ∧ (t.ports.get p).pendingReply = some ⟨⟨0x11, .ok, []⟩, 500⟩)

/-- The program table (R14 to R16): CLEAR_PROGRAM and WRITE_PROGRAM are refused ROLE_REFUSED but from CONSOLE, and a
slot outside 0 to 15 INVALID_FIELD 0; a slot in use is neither written nor cleared; an unused one takes a body
that passes the checks as a whole, is emptied by CLEAR_PROGRAM, and is read with its state, its in-use count and
its body. -/
def Obligations.ProgramSlotsAreWrittenClearedRead : Prop :=
  (∀ (p : Role) (s : State) (slot : Octet) (body : List Octet), p ≠ .console → s.takes p = true →
    exec (.writeProgram p body) s = .next (s.answer p .writeProgram .roleRefused [])
    ∧ exec (.clearProgram p slot) s = .next (s.answer p .clearProgram .roleRefused []))
  ∧ (∀ (s : State) (slot : Octet) (body : List Octet), 15 < slot.toNat →
    73 ≤ body.length → body.length ≤ 115 →
    (∀ p, s.takes p = true →
      exec (.readProgram p slot) s = .next (s.answer p .readProgram .invalidField [0]))
    ∧ (s.takes .console = true →
      exec (.clearProgram .console slot) s = .next (s.answer .console .clearProgram .invalidField [0])
      ∧ exec (.writeProgram .console (slot :: body)) s
          = .next (s.answer .console .writeProgram .invalidField [0])))
  ∧ ∀ (s : State) (slot : Octet) (body : List Octet) (q : ProgramSlot),
    slot.toNat ≤ 15 → s.programs[slot.toNat]? = some q → 73 ≤ body.length → body.length ≤ 115 →
    (∀ p, s.takes p = true →
      exec (.readProgram p slot) s = .next (s.answer p .readProgram .ok
        ([if q.body.isSome then 1 else 0, BitVec.ofNat 8 q.inUse]
          ++ (match q.body with | some b => programOctets b | none => []))))
    ∧ (s.takes .console = true →
        (s.config.inFlight.isSome = true →
          exec (.writeProgram .console (slot :: body)) s = .next (s.answer .console .writeProgram .busy [])
          ∧ exec (.clearProgram .console slot) s = .next (s.answer .console .clearProgram .busy []))
        ∧ (s.config.inFlight = none → q.inUse ≠ 0 →
            exec (.writeProgram .console (slot :: body)) s = .next (s.answer .console .writeProgram .inUse [])
            ∧ exec (.clearProgram .console slot) s = .next (s.answer .console .clearProgram .inUse []))
        ∧ (s.config.inFlight = none → q.inUse = 0 →
            exec (.clearProgram .console slot) s = .next
              ({ s with programs := s.programs.set slot.toNat ⟨none, 0⟩ }.answer .console .clearProgram .ok [])
            ∧ (∀ i, programFailure s.load.tables body = some i →
                exec (.writeProgram .console (slot :: body)) s
                  = .next (s.answer .console .writeProgram .invalidField [BitVec.ofNat 8 i]))
            ∧ (programFailure s.load.tables body = none →
                exec (.writeProgram .console (slot :: body)) s = .next
                  ({ s with programs := s.programs.set slot.toNat ⟨some (programOfOctets body), 0⟩ }.answer
                    .console .writeProgram .ok []))))

/-- FETCH_RESULT gives the oldest record the role has not taken, or NOT_FOUND, and changes nothing; so from CELL,
which takes none, it gives the oldest record (R21). TAKE_RESULT (R22): ROLE_REFUSED from CELL and NOT_FOUND
without the record; a role already in the set changes nothing; otherwise the role is added, and the record is
freed exactly when every required role has then taken it, after which auto-arm may arm the head. SET_RESULT_READERS
(R20): BUSY during a store, INVALID_FIELD 1 for any octet but 0x01, 0x04 and 0x05, else the configured readers are
replaced; records already created keep theirs. The record is sent in 78 octets, each field at its octets, its bit in
the presence mask set exactly when it is present, and an absent field as 0 (11.8.4). -/
def Obligations.ResultsAreFetchedAndTaken : Prop :=
  (∀ (p : Role) (s : State), s.takes p = true →
    ((∀ r ∈ s.results.records, r.takenBy.mem p = true) →
      exec (.fetchResult p) s = .next (s.answer p .fetchResult .notFound []))
    ∧ (∀ (older newer : List ResultRecord) (r : ResultRecord),
        s.results.records = older ++ r :: newer → (∀ x ∈ older, x.takenBy.mem p = true) →
        r.takenBy.mem p = false →
        exec (.fetchResult p) s = .next (s.answer p .fetchResult .ok (recordOctets r)))
    ∧ ∀ (newer : List ResultRecord) (r : ResultRecord), p = .cell →
        s.results.records = r :: newer → r.takenBy.cell = false →
        exec (.fetchResult p) s = .next (s.answer p .fetchResult .ok (recordOctets r)))
  ∧ (∀ (s : State) (id : List Octet), s.takes .cell = true →
      exec (.takeResult .cell id) s = .next (s.answer .cell .takeResult .roleRefused []))
  ∧ (∀ (p : Role) (s : State) (id : List Octet), p ≠ .cell → s.takes p = true → id.length = 12 →
    ((∀ r ∈ s.results.records, r.id ≠ id) →
      exec (.takeResult p id) s = .next (s.answer p .takeResult .notFound []))
    ∧ ∀ (older newer : List ResultRecord) (r : ResultRecord),
        s.results.records = older ++ r :: newer → r.id = id → (∀ x ∈ older, x.id ≠ id) →
        (r.takenBy.mem p = true →
          exec (.takeResult p id) s = .next (s.answer p .takeResult .ok [0]))
        ∧ (r.takenBy.mem p = false →
            ((∀ a, r.required.mem a = true → a = p ∨ r.takenBy.mem a = true) →
              exec (.takeResult p id) s = .next
                ({ s with results := { s.results with records := older ++ newer } }.answer p .takeResult .ok
                  [1]).examineHead)
            ∧ ((∃ a, r.required.mem a = true ∧ a ≠ p ∧ r.takenBy.mem a = false) →
                exec (.takeResult p id) s = .next
                  ({ s with results := { s.results with
                      records := older ++ { r with takenBy := r.takenBy.add p } :: newer } }.answer p
                    .takeResult .ok [0]))))
  ∧ (∀ (s : State) (o : Octet), s.takes .console = true →
    (s.config.inFlight.isSome = true →
      exec (.setResultReaders .console o) s = .next (s.answer .console .setResultReaders .busy []))
    ∧ (s.config.inFlight = none →
        (o ≠ 0x01 → o ≠ 0x04 → o ≠ 0x05 →
          exec (.setResultReaders .console o) s
            = .next (s.answer .console .setResultReaders .invalidField [1]))
        ∧ (o = 0x01 ∨ o = 0x04 ∨ o = 0x05 →
            exec (.setResultReaders .console o) s = .next
              ({ s with results := { s.results with
                  readers := { console := o.getLsbD 0, cell := o.getLsbD 1, quality := o.getLsbD 2 } } }.answer
                .console .setResultReaders .ok []))))
  ∧ ∀ (r : ResultRecord) (o : List Octet) (mask : BitVec 16), r.id.length = 12 → o = recordOctets r →
    mask = o.getD 14 0 ++ o.getD 15 0 →
    o.length = 78 ∧ o.take 12 = r.id ∧ o.getD 12 0 = BitVec.ofNat 8 r.slot
    ∧ o.getD 13 0 = (match r.outcome with
        | .complete => 0
        | .aborted => 1)
    ∧ (∀ x ∈ [(0, r.cause.isSome), (1, r.note.isSome), (2, r.modulus.isSome), (3, r.reh.isSome), (4, r.rel.isSome),
        (5, r.ae.isSome), (6, r.rp.isSome), (7, r.fmRm.isSome), (8, r.ag.isSome), (9, r.elongation.isSome),
        (10, r.source.isSome), (11, false), (12, false), (13, false), (14, false), (15, false)],
        mask.getLsbD x.1 = x.2)
    ∧ o.getD 16 0 = (match r.cause with
        | some c => BitVec.ofNat 8 c.code
        | none => 0)
    ∧ o.getD 17 0 = (match r.note with
        | some c => BitVec.ofNat 8 c.code
        | none => 0)
    ∧ word4 o 18 = BitVec.ofInt 32 r.area ∧ word4 o 22 = BitVec.ofInt 32 r.gauge
    ∧ word4 o 26 = BitVec.ofInt 32 r.parallel
    ∧ (∀ m, r.modulus = some m → word4 o 30 = BitVec.ofInt 32 m.e ∧ o.getD 34 0 = (match m.source with
        | .nominal => 0
        | .secant => 1
        | .substituted => 2))
    ∧ (r.modulus = none → word4 o 30 = 0 ∧ o.getD 34 0 = 0)
    ∧ word4 o 35 = BitVec.ofInt 32 (r.reh.getD 0) ∧ word4 o 39 = BitVec.ofInt 32 (r.rel.getD 0)
    ∧ word4 o 43 = BitVec.ofInt 32 (r.ae.getD 0) ∧ word4 o 47 = BitVec.ofInt 32 (r.rp.getD 0)
    ∧ (∀ fm rm, r.fmRm = some (fm, rm) → word4 o 51 = BitVec.ofInt 32 fm ∧ word4 o 55 = BitVec.ofInt 32 rm)
    ∧ (r.fmRm = none → word4 o 51 = 0 ∧ word4 o 55 = 0)
    ∧ word4 o 59 = BitVec.ofInt 32 (r.ag.getD 0) ∧ word4 o 63 = BitVec.ofInt 32 (r.elongation.getD 0)
    ∧ o.getD 67 0 = (match r.source with
        | some .crosshead => 1
        | _ => 0)
    ∧ o.getD 68 0 = BitVec.ofNat 8 r.rangeSwitches ∧ o.getD 69 0 ++ o.getD 70 0 = BitVec.ofNat 16 r.holds
    ∧ (∀ x ∈ [(0, r.flags.extLost), (1, r.flags.extAttachFailed), (2, r.flags.extRangeEnd), (3, r.flags.extAtBreak),
        (4, r.flags.lengthSubstituted), (5, r.flags.modulusSubstituted), (6, r.flags.yieldNotFound), (7, false)],
        (o.getD 71 0).getLsbD x.1 = x.2)
    ∧ word4 o 72 = BitVec.ofNat 32 r.duration
    ∧ (∀ x ∈ [(76, r.required), (77, r.takenBy)], (o.getD x.1 0).getLsbD 0 = x.2.console
        ∧ (o.getD x.1 0).getLsbD 1 = x.2.cell ∧ (o.getD x.1 0).getLsbD 2 = x.2.quality ∧ o.getD x.1 0 >>> 3 = 0)

/-! ## The sequencer -/

/-- ARM is refused ROLE_REFUSED from CELL and QUALITY; from CONSOLE it is answered by the first check of R27 that
fails, and otherwise OK with the effects of an arming. In IDLE the head is WAITING and its program VALID. -/
def Obligations.ArmAnsweredByFirstFailingCheck : Prop :=
  (∀ (s : State) (p : Role), p ≠ .console → s.takes p = true →
    exec (.arm p) s = .next (s.answer p .arm .roleRefused []))
  ∧ (∀ s : State, s.headLaw → s.inUseLaw → s.seq.state = .idle →
    ∀ e ∈ s.queue.head?, e.state = .waiting ∧ (s.programAt e.slot).isSome = true)
  ∧ ∀ s : State, s.takes .console = true →
    (s.seq.state ≠ .idle → exec (.arm .console) s = .next (s.answer .console .arm .wrongState []))
    ∧ (s.seq.state = .idle →
      (s.queue = [] → exec (.arm .console) s = .next (s.answer .console .arm .notFound []))
      ∧ (s.queue ≠ [] →
        (s.load.calibrationValid = false →
          exec (.arm .console) s = .next (s.answer .console .arm .calibrationInvalid []))
        ∧ (s.load.calibrationValid = true →
          (s.drive.referenced = false →
            exec (.arm .console) s = .next (s.answer .console .arm .unreferenced []))
          ∧ (s.drive.referenced = true →
            (s.inputs.latch = true →
              exec (.arm .console) s = .next (s.answer .console .arm .frameStopped []))
            ∧ (s.inputs.latch = false →
              (s.load.referenceFault = true →
                exec (.arm .console) s = .next (s.answer .console .arm .wrongState []))
              ∧ (s.load.referenceFault = false →
                (s.load.tare.isSome = true →
                  exec (.arm .console) s = .next (s.answer .console .arm .busy []))
                ∧ (s.load.tare = none →
                  (12 ≤ s.results.records.length + (if s.results.reserved then 1 else 0) →
                    exec (.arm .console) s = .next (s.answer .console .arm .full []))
                  ∧ (s.results.records.length + (if s.results.reserved then 1 else 0) < 12 →
                    exec (.arm .console) s = .next (s.armHead.answer .console .arm .ok [])))))))))

/-- The effects of an arming (R28), for SEQUENCER neither holding nor waiting: each field that an arming writes, and
no other. -/
def Obligations.ArmingEffects : Prop :=
  ∀ (s : State) (e : SpecimenEntry) (rest : List SpecimenEntry) (b : ProgramBody),
    s.queue = e :: rest → s.programAt e.slot = some b → s.inputs.latch = false →
    s.arbiter.holder ≠ some .sequencer → .sequencer ∉ s.arbiter.waiting → 0 ≤ s.drive.config.vmax →
    s.armHead = { s with
      queue := { e with state := .armed } :: rest
      results := { s.results with reserved := true }
      load := if b.initialRange = s.load.activeRange then s.load
        else { s.load with activeRange := b.initialRange, settling := true }
      seq := { s.seq with
        state := .armed, openSeen := !s.inputs.grips, segment := 1, holds := 0, rangeSwitches := 0
        duration := 0, yieldEndSeen := false, releaseSeen := false, outcome := none, cause := none
        note := none, extLost := false, extAttachFailed := false, extRangeEnd := false }
      arbiter :=
        if s.arbiter.holder = none then ⟨some .sequencer, s.arbiter.waiting⟩
        else ⟨s.arbiter.holder, s.arbiter.waiting ++ [.sequencer]⟩
      drive :=
        if s.arbiter.holder = none then
          { s.drive with generator := none, buffer := none, velocity := 0, source := .sequencer }
        else s.drive
      ports := s.armHead.ports }
    ∧ (s.armHead.ports.get .console).notices = withNotice (s.ports.get .console).notices .testArmed
    ∧ (s.armHead.ports.get .cell).notices = withNotice (s.ports.get .cell).notices .testArmed
    ∧ s.armHead.ports.get .quality = s.ports.get .quality

/-- Auto-arm (R26, R29): in IDLE, with auto-arm ON and no pause, the head is armed when checks 2 to 8 of R27 all
pass, and otherwise nothing happens; AUTO_ARM is that examination. SET_AUTO_ARM: BUSY during a store,
INVALID_FIELD 1 for an octet other than 0 and 1, else the setting is replaced, the pause cleared, and the head
examined. Where the manual leaves a choice it is the model's, log entry 5. -/
def Obligations.AutoArmExaminesTheHead : Prop :=
  (∀ s : State,
    ((s.seq.state = .idle ∧ s.seq.autoArm = true ∧ s.seq.autoArmPause = false ∧ s.queue ≠ []
        ∧ s.load.calibrationValid = true ∧ s.drive.referenced = true ∧ s.inputs.latch = false
        ∧ s.load.referenceFault = false ∧ s.load.tare = none
        ∧ s.results.records.length + (if s.results.reserved then 1 else 0) < 12) →
      s.examineHead = s.armHead)
    ∧ (¬ (s.seq.state = .idle ∧ s.seq.autoArm = true ∧ s.seq.autoArmPause = false ∧ s.queue ≠ []
        ∧ s.load.calibrationValid = true ∧ s.drive.referenced = true ∧ s.inputs.latch = false
        ∧ s.load.referenceFault = false ∧ s.load.tare = none
        ∧ s.results.records.length + (if s.results.reserved then 1 else 0) < 12) →
      s.examineHead = s)
    ∧ (s.power = .running → exec .autoArm s = .next s.examineHead))
  ∧ ∀ (s : State) (o : Octet), s.takes .console = true →
    (s.config.inFlight.isSome = true →
      exec (.setAutoArm .console o) s = .next (s.answer .console .setAutoArm .busy []))
    ∧ (s.config.inFlight = none →
      (o ≠ 0 → o ≠ 1 →
        exec (.setAutoArm .console o) s = .next (s.answer .console .setAutoArm .invalidField [1]))
      ∧ (o = 0 ∨ o = 1 →
        exec (.setAutoArm .console o) s = .next
          ({ s with seq := { s.seq with autoArm := o == 1, autoArmPause := false } }.answer .console
            .setAutoArm .ok []).examineHead))

/-- DISARM (R30): ROLE_REFUSED but from CONSOLE, refused WRONG_STATE but in ARMED, where it undoes the arming: the
head WAITING, the place free, the authority released and the front of the list granted, or the waiting request
withdrawn, the sequencer IDLE and, with auto-arm ON, the pause set. The load range stays. Where the manual leaves
a choice it is the model's, log entry 21. -/
def Obligations.DisarmUndoesTheArming : Prop :=
  (∀ (s : State) (p : Role), p ≠ .console → s.takes p = true →
    exec (.disarm p) s = .next (s.answer p .disarm .roleRefused []))
  ∧ ∀ s : State, s.takes .console = true →
    (s.seq.state ≠ .armed → exec (.disarm .console) s = .next (s.answer .console .disarm .wrongState []))
    ∧ (s.seq.state = .armed → s.arbiterLaw → ∀ e rest, s.queue = e :: rest →
        ∃ t : State, exec (.disarm .console) s = .next t
          ∧ t = { s with
              queue := { e with state := .waiting } :: rest
              results := { s.results with reserved := false }
              seq := { s.seq with
                state := .idle, openSeen := false, autoArmPause := s.seq.autoArm || s.seq.autoArmPause }
              arbiter := t.arbiter, drive := t.drive, ports := t.ports }
          ∧ (t.ports.get .console).pendingReply = some ⟨⟨0x21, .ok, []⟩, 500⟩
          ∧ (s.arbiter.holder = some .sequencer →
              t.arbiter = ⟨s.arbiter.waiting.head?, s.arbiter.waiting.tail⟩
                ∧ t.drive.generator = none ∧ t.drive.velocity = 0 ∧ t.drive.source = .none
                ∧ ∀ q ∈ s.arbiter.waiting.head?, ∀ r ∈ q.port, (t.ports.get r).hasNotice .authorityGranted = true)
          ∧ (s.arbiter.holder ≠ some .sequencer →
              t.arbiter = ⟨s.arbiter.holder, s.arbiter.waiting.filter (· != .sequencer)⟩ ∧ t.drive = s.drive))

/-- START and the start by the grips (R33, R34): each check in its order, and the one start they share. Where the
manual leaves a choice it is the model's, log entry 5. -/
def Obligations.TestsStartByStartOrByTheGrips : Prop :=
  ∀ s : State,
    (s.takes .console = true →
      (s.seq.state ≠ .armed → exec (.start .console) s = .next (s.answer .console .start .wrongState []))
      ∧ (s.seq.state = .armed →
        (s.load.tare.isSome = true → exec (.start .console) s = .next (s.answer .console .start .busy []))
        ∧ (s.load.tare = none →
          (s.arbiter.holder ≠ some .sequencer ∨ s.inputs.grips = false ∨ s.load.referenceFault = true →
            exec (.start .console) s = .next (s.answer .console .start .wrongState []))
          ∧ (s.arbiter.holder = some .sequencer → s.inputs.grips = true → s.load.referenceFault = false →
            exec (.start .console) s = .next (s.startTest.answer .console .start .ok [])))))
    ∧ (s.power = .running → ∀ e rest b, s.queue = e :: rest → s.programAt e.slot = some b →
      ((s.seq.state = .armed ∧ b.startMode = .grips ∧ s.arbiter.holder = some .sequencer
          ∧ s.seq.openSeen = true ∧ s.inputs.grips = true ∧ s.load.tare = none
          ∧ s.load.referenceFault = false) →
        exec .gripsStart s = .next s.startTest)
      ∧ (¬ (s.seq.state = .armed ∧ b.startMode = .grips ∧ s.arbiter.holder = some .sequencer
          ∧ s.seq.openSeen = true ∧ s.inputs.grips = true ∧ s.load.tare = none
          ∧ s.load.referenceFault = false) →
        exec .gripsStart s = .next s))

/-- The effects of a start (R35, R68) with SEQUENCER holding and a STOPPED generator: the head IN_TEST, the parallel
length resolved, PRELOAD entered from the encoder position, and the approach speed running in opening direction,
or, where its period is a stop value, the generator staying STOPPED with commanded velocity 0 (R149). -/
def Obligations.StartEffects : Prop :=
  ∀ (s : State) (e : SpecimenEntry) (rest : List SpecimenEntry) (b : ProgramBody),
    s.queue = e :: rest → s.programAt e.slot = some b → s.arbiter.holder = some .sequencer →
    s.drive.generator = none → s.drive.move = none → 0 ≤ b.approach → 0 ≤ s.drive.config.vmax →
    s.startTest = { s with
      queue := { e with state := .inTest } :: rest
      seq := { s.seq with
        state := .preload, segment := 1, startPosition := s.drive.encoder, openSeen := false }
      strain := { s.strain with
        area := some e.area, parallel := s.startTest.strain.parallel
        extGauge := if b.extUse = .auto then some b.extGauge else none
        lengthSubstituted := s.startTest.strain.lengthSubstituted }
      drive := s.startTest.drive
      ports := s.startTest.ports }
    ∧ (∀ n, periodTicks s.drive.config.step (min b.approach s.drive.config.vmax) = some n →
        s.startTest.drive = { s.drive with
          source := .sequencer, velocity := min b.approach s.drive.config.vmax
          generator := some ⟨n, 0, .opening⟩, buffer := none })
    ∧ (periodTicks s.drive.config.step (min b.approach s.drive.config.vmax) = none →
        s.startTest.drive = { s.drive with
          source := .sequencer, velocity := 0, generator := none, buffer := none })
    ∧ (b.lengthSource = .entered →
        s.startTest.strain.parallel = some e.parallel ∧ s.startTest.strain.lengthSubstituted = false)
    ∧ (b.lengthSource = .gripSeparation → ∀ c, e.capture = some c →
        (10000 ≤ roundDiv (c.toInt - s.strain.frame.datum.toInt) 10 →
          roundDiv (c.toInt - s.strain.frame.datum.toInt) 10 ≤ 400000 →
          s.startTest.strain.parallel = some (roundDiv (c.toInt - s.strain.frame.datum.toInt) 10)
            ∧ s.startTest.strain.lengthSubstituted = false)
        ∧ (roundDiv (c.toInt - s.strain.frame.datum.toInt) 10 < 10000
            ∨ 400000 < roundDiv (c.toInt - s.strain.frame.datum.toInt) 10 →
          s.startTest.strain.parallel = some e.parallel ∧ s.startTest.strain.lengthSubstituted = true))
    ∧ (b.lengthSource = .gripSeparation → e.capture = none →
        s.startTest.strain.parallel = some e.parallel ∧ s.startTest.strain.lengthSubstituted = true)
    ∧ (s.startTest.ports.get .console).notices = withNotice (s.ports.get .console).notices .testStarted
    ∧ (s.startTest.ports.get .cell).notices = withNotice (s.ports.get .cell).notices .testStarted

/-- HOLD and RESUME (R42, R43), each ROLE_REFUSED but from CONSOLE: HOLD in RUN stops the crosshead and counts;
RESUME in HOLD with the grips closed goes back to RUN with the initialisation pending; in every other state each
is refused WRONG_STATE. -/
def Obligations.HoldAndResume : Prop :=
  (∀ (s : State) (p : Role), p ≠ .console → s.takes p = true →
    exec (.hold p) s = .next (s.answer p .hold .roleRefused [])
    ∧ exec (.resume p) s = .next (s.answer p .resume .roleRefused []))
  ∧ ∀ s : State, s.takes .console = true →
    (s.seq.state ≠ .run → exec (.hold .console) s = .next (s.answer .console .hold .wrongState []))
    ∧ (s.seq.state = .run → s.arbiter.holder = some .sequencer → 0 ≤ s.drive.config.vmax →
        exec (.hold .console) s = .next
          ({ s with
            seq := { s.seq with state := .hold, holds := min (s.seq.holds + 1) 65535 }
            drive := { s.drive with
              generator := none, buffer := none, velocity := 0, source := .sequencer } }.answer
            .console .hold .ok []))
    ∧ (s.seq.state ≠ .hold ∨ s.inputs.grips = false →
        exec (.resume .console) s = .next (s.answer .console .resume .wrongState []))
    ∧ (s.seq.state = .hold → s.inputs.grips = true →
        exec (.resume .console) s = .next
          ({ s with
            seq := { s.seq with state := .run }
            rate := { s.rate with initPending := true } }.answer .console .resume .ok []))

/-- ABORT (R45) and the entry to ENDING it makes (R47), with SEQUENCER holding: the outcome and the cause are fixed,
the timer starts, the detectors stop, velocity 0 is written, and the extensometer is brought off: a link STREAMING,
or CLOSING with CLOSE_ARMS on the line or answered, hands OPEN_ARMS; CLOSING before that goes back to READY; the
sequencer's own attach is withdrawn in WAKING and READY; any other link stays as it is (R135). Where the manual
leaves a choice it is the model's, log entries 5 and 16. -/
def Obligations.AbortEntersEnding : Prop :=
  (∀ (p : Role) (s : State), p ≠ .quality → s.takes p = true →
    (s.seq.state = .idle ∨ s.seq.state = .armed ∨ s.seq.state = .ending →
      exec (.abort p) s = .next (s.answer p .abort .wrongState []))
    ∧ (s.seq.state = .preload ∨ s.seq.state = .attach ∨ s.seq.state = .run ∨ s.seq.state = .hold →
      exec (.abort p) s = .next
        (((s.enterEnding .aborted (some .operator)).testEnding).answer p .abort .ok [])))
  ∧ ∀ (s t : State) (outcome : TestOutcome) (cause : Option Cause) (attaching : Prop),
    s.arbiter.holder = some .sequencer → 0 ≤ s.drive.config.vmax → t = s.enterEnding outcome cause →
    (attaching ↔ s.link.attachPending = true
      ∧ (s.seq.state = .attach ∨ ((s.seq.state = .run ∨ s.seq.state = .hold) ∧ s.seq.extAttachFailed = true))) →
    t = { s with
      seq := { s.seq with state := .ending, outcome := some outcome, cause := cause, endingTimer := some 0 }
      eval := { s.eval with detectors := false }
      drive := { s.drive with generator := none, buffer := none, velocity := 0, source := .sequencer }
      link := t.link
      ports := t.ports }
    ∧ (s.link.state = .streaming ∨ (s.link.state = .closing ∧ s.link.queued .closeArms = false) →
        t.link = { (s.link.withdraw .streamOn).hand .openArms .sequencer with
          state := .opening, attachPending := false, operationTimer := some 0, staleness := 0 })
    ∧ (s.link.state = .closing → s.link.queued .closeArms = true →
        t.link = { (s.link.withdraw .closeArms).hand .streamOff .link with
          state := .ready, attachPending := false, operationTimer := none, wake := none, syncWindow := none
          recoveryTimer := none, staleness := 0, sleepTimer := some 0 })
    ∧ (s.link.state = .ready → attaching → s.link.queued .closeArms = true →
        t.link = { s.link.withdraw .closeArms with attachPending := false, operationTimer := none })
    ∧ (s.link.state = .ready → attaching → s.link.queued .closeArms = false →
        t.link = { s.link with attachPending := false })
    ∧ (s.link.state = .waking → attaching → t.link = { s.link with attachPending := false })
    ∧ (s.link.state = .ready ∨ s.link.state = .waking → ¬ attaching → t.link = s.link)
    ∧ (s.link.state = .asleep ∨ s.link.state = .opening ∨ s.link.state = .lost → t.link = s.link)

/-- The end of ENDING (R48): the test completes when the link is READY, ASLEEP or LOST and the rest flag is set, and
at the latest when the ending timer expires, which is the note when there is none. The conditions are tested on each
change of the rest flag (`testEnding`) and of the link's state (`linkChanged`): a link that enters READY with an
attach pending, here from OPENING, completes the test at READY, and only then the attach takes it on to CLOSING. Where
the manual leaves a choice it is the model's, log entries 5, 6 and 15. -/
def Obligations.EndingWaitsThenCompletes : Prop :=
  ∀ s : State, s.power = .running →
    (s.seq.state = .ending → s.meter.rest = true →
      s.link.state = .ready ∨ s.link.state = .asleep ∨ s.link.state = .lost →
      exec .testCompletion s = .next s.completeTest ∧ s.testEnding = s.completeTest ∧ s.linkChanged = s.completeTest)
    ∧ (s.seq.state ≠ .ending ∨ s.meter.rest = false
        ∨ (s.link.state ≠ .ready ∧ s.link.state ≠ .asleep ∧ s.link.state ≠ .lost) →
      exec .testCompletion s = .next s ∧ s.testEnding = s ∧ (s.seq.state = .ending → s.linkChanged = s))
    ∧ (s.seq.state = .ending →
      exec .endingTimerExpiry s = .next
        ({ s with seq := { s.seq with note := s.seq.note.or (some .endingTimeout) } }.completeTest))
    ∧ (s.seq.state ≠ .ending → exec .endingTimerExpiry s = .next s)
    ∧ (s.seq.state = .ending → s.link.state = .opening → s.link.attachPending = true → s.link.lock.isSome = true →
        s.link.discarding = false → s.link.shifter = .empty → s.link.holding = none → s.link.waiting = [] →
        ∀ (fault : Octet) (ready t : State),
        ready = { s with link := { s.link with
          state := .ready, headReport := some ⟨.opened, fault⟩, shifter := .command ⟨.streamOff, .link⟩ false none
          wake := none, syncWindow := none, recoveryTimer := none, staleness := 0, sleepTimer := some 0
          operationTimer := some 0 } }.addNotice .console .extState →
        t = (if s.meter.rest then ready.completeTest else ready) →
      exec (.statusFrame .opened fault) s = .next ({ t with link := { ready.link with
        state := .closing, holding := some ⟨.closeArms, .link⟩, streamRequested := false
        sleepTimer := none } }.addNotice .console .extState))

/-- The completion of a test (R49, R9, R18, R19): the record with each field from the entry and the blocks, into the
reserved place; the head removed; the authority released by SEQUENCER where it holds, and the front of the list
granted where no party holds; the sequencer IDLE, the blocks of the test cleared, each notice; and then auto-arm
examines the head. Where the manual leaves a choice it is the model's, log entries 5, 21 and 29. -/
def Obligations.CompletionEffects : Prop :=
  ∀ (s : State) (e : SpecimenEntry) (rest : List SpecimenEntry) (outcome : TestOutcome) (q : ProgramSlot)
    (b : ProgramBody) (parallel k : Int) (r : ResultRecord),
    s.queue = e :: rest → s.seq.state = .ending → s.seq.outcome = some outcome →
    (s.arbiter.holder = some .sequencer ∨ s.arbiter.holder = none) → s.drive.move = none →
    s.programs[e.slot]? = some q → q.body = some b → s.strain.parallel = some parallel →
    k = (match s.eval.modulus with
      | some m => m.e
      | none => b.nominal) →
    r = { id := e.id, slot := e.slot, outcome := outcome, cause := s.seq.cause, note := s.seq.note
          area := e.area, gauge := e.gauge, parallel := parallel, modulus := s.eval.modulus
          reh := s.eval.reh.map fun p => p.sigma
          rel := s.eval.rel, ae := s.eval.ae, rp := s.eval.rp
          fmRm := s.eval.maximum.map fun m => (m.force, roundDiv (m.force * 10000) e.area)
          ag := s.eval.maximum.map fun m => m.epsilon - roundDiv (m.sigma * 10000) k
          elongation :=
            if outcome = .complete then
              s.eval.breakSample.map fun m => m.epsilon - roundDiv (m.sigma * 10000) k
            else none
          source := s.strain.source, rangeSwitches := s.seq.rangeSwitches, holds := s.seq.holds
          flags := ⟨s.seq.extLost, s.seq.extAttachFailed, s.seq.extRangeEnd, s.eval.extAtBreak,
            s.strain.lengthSubstituted, s.eval.modulusSubstituted, s.eval.yieldNotFound⟩
          duration := s.seq.duration, required := s.results.readers, takenBy := ⟨false, false, false⟩ } →
    ∃ t : State, s.completeTest = t.examineHead
      ∧ t = { s with
        queue := rest
        programs := s.programs.set e.slot { q with inUse := q.inUse - 1 }
        results := { s.results with records := s.results.records ++ [r], reserved := false }
        arbiter := ⟨s.arbiter.waiting.head?, s.arbiter.waiting.tail⟩
        drive :=
          if s.arbiter.holder = some .sequencer then
            { s.drive with generator := none, buffer := none, velocity := 0, source := .none }
          else s.drive
        seq := { s.seq with state := .idle, autoArmPause := false, openSeen := false, endingTimer := none }
        strain := StrainUnit.cleared s.strain.frame
        rate := RateController.cleared
        eval := Evaluator.cleared
        ports := t.ports }
      ∧ (t.ports.get .console).hasNotice .testEnded = true
      ∧ (t.ports.get .console).hasNotice .queueChanged = true
      ∧ (t.ports.get .cell).hasNotice .specimenDone = true
      ∧ (∀ p, s.results.readers.mem p = true → (t.ports.get p).hasNotice .resultReady = true)
      ∧ ∀ p ∈ s.arbiter.waiting.head?.bind Party.port, (t.ports.get p).hasNotice .authorityGranted = true

/-! ## The load unit -/

/-- WRITE_CALIBRATION, WRITE_REFERENCE and WRITE_FRAME_CONSTANTS (R67, R106, R107): refused WRONG_STATE but in IDLE,
then BUSY while a store, or for the first two a tare, is in flight; then the lowest failing index is refused, and a
write that passes replaces its item as a whole, answers and lets auto-arm examine the head. A written table keeps the
full scales falling from range 0 to range 3 and its points rising (R105). -/
def Obligations.CalibrationIsWrittenAsAWhole : Prop :=
  (∀ (s : State) (body : List Octet) (x y : Word32), s.takes .console = true → 6 ≤ body.length → body.length ≤ 70 →
    (s.seq.state ≠ .idle →
      exec (.writeCalibration .console body) s = .next (s.answer .console .writeCalibration .wrongState [])
      ∧ exec (.writeReference .console x y) s = .next (s.answer .console .writeReference .wrongState [])
      ∧ exec (.writeFrameConstants .console x y) s = .next (s.answer .console .writeFrameConstants .wrongState []))
    ∧ (s.seq.state = .idle →
      (s.load.tare.isSome = true ∨ s.config.inFlight.isSome = true →
        exec (.writeCalibration .console body) s = .next (s.answer .console .writeCalibration .busy [])
        ∧ exec (.writeReference .console x y) s = .next (s.answer .console .writeReference .busy []))
      ∧ (s.config.inFlight.isSome = true →
        exec (.writeFrameConstants .console x y) s = .next (s.answer .console .writeFrameConstants .busy []))))
  ∧ (∀ (s : State) (body : List Octet), s.takes .console = true → s.seq.state = .idle → s.config.inFlight = none →
    s.load.tare = none → 6 ≤ body.length → body.length ≤ 70 →
    (∀ i, calibrationFailure s.load.tables body = some i →
      exec (.writeCalibration .console body) s
        = .next (s.answer .console .writeCalibration .invalidField [BitVec.ofNat 8 i]))
    ∧ (calibrationFailure s.load.tables body = none →
      ∃ (k : Fin 4) (table : RangeTable) (load : LoadUnit),
        k.val = field1 body 0 ∧ table = ⟨field4 body 1, pointsOfOctets body (field1 body 5)⟩
        ∧ load = { s.load with tables := s.load.tables.set k (some table) }
        ∧ table.points.length = field1 body 5
        ∧ table.points.Pairwise (fun x y => x.1 < y.1 ∧ x.2 < y.2)
        ∧ ((∀ a b : Fin 4, a < b → ∀ x ∈ s.load.tables.get a, ∀ y ∈ s.load.tables.get b, y.fullScale < x.fullScale) →
            ∀ a b : Fin 4, a < b → ∀ x ∈ load.tables.get a, ∀ y ∈ load.tables.get b, y.fullScale < x.fullScale)
        ∧ exec (.writeCalibration .console body) s = .next
            ({ s with load := load }.answer .console .writeCalibration .ok
              [if load.calibrationValid then 1 else 0]).examineHead))
  ∧ (∀ (s : State) (expected tolerance : Word32), s.takes .console = true → s.seq.state = .idle →
    s.config.inFlight = none → s.load.tare = none →
    (expected.toInt < -8388608 ∨ 8388607 < expected.toInt →
      exec (.writeReference .console expected tolerance) s
        = .next (s.answer .console .writeReference .invalidField [1]))
    ∧ (-8388608 ≤ expected.toInt → expected.toInt ≤ 8388607 →
      (tolerance.toInt < 1 ∨ 1000000 < tolerance.toInt →
        exec (.writeReference .console expected tolerance) s
          = .next (s.answer .console .writeReference .invalidField [2]))
      ∧ (1 ≤ tolerance.toInt → tolerance.toInt ≤ 1000000 → ∀ load : LoadUnit,
        load = { s.load with reference := some ⟨expected.toInt, tolerance.toInt⟩ } →
        exec (.writeReference .console expected tolerance) s = .next
          ({ s with load := load }.answer .console .writeReference .ok
            [if load.calibrationValid then 1 else 0]).examineHead)))
  ∧ (∀ (s : State) (compliance datum : Word32), s.takes .console = true → s.seq.state = .idle →
    s.config.inFlight = none →
    (compliance.toInt < 0 ∨ 65535 < compliance.toInt →
      exec (.writeFrameConstants .console compliance datum) s
        = .next (s.answer .console .writeFrameConstants .invalidField [1]))
    ∧ (0 ≤ compliance.toInt → compliance.toInt ≤ 65535 →
      exec (.writeFrameConstants .console compliance datum) s = .next
        ({ s with strain := { s.strain with frame := ⟨compliance.toInt, datum⟩ } }.answer .console
          .writeFrameConstants .ok [])))

/-- SET_RANGE and TARE, each ROLE_REFUSED but from CONSOLE, and each check in its order (R116, R118): a new range
sets settling pending and the range already active sets nothing (R115); a tare keeps the range to return to and
begins on range 0 (R119). -/
def Obligations.RangeIsSetAndTareBegins : Prop :=
  (∀ (s : State) (p : Role) (o : Octet), p ≠ .console → s.takes p = true →
    exec (.setRange p o) s = .next (s.answer p .setRange .roleRefused [])
    ∧ exec (.tare p) s = .next (s.answer p .tare .roleRefused []))
  ∧ (∀ (s : State) (o : Octet), s.takes .console = true →
    (3 < o.toNat → exec (.setRange .console o) s = .next (s.answer .console .setRange .invalidField [1]))
    ∧ (o.toNat ≤ 3 →
      (s.seq.state ≠ .idle → exec (.setRange .console o) s = .next (s.answer .console .setRange .wrongState []))
      ∧ (s.seq.state = .idle →
        (s.load.tare.isSome = true → exec (.setRange .console o) s = .next (s.answer .console .setRange .busy []))
        ∧ (s.load.tare = none →
          (o.toNat = s.load.activeRange.val →
            exec (.setRange .console o) s = .next (s.answer .console .setRange .ok []))
          ∧ (∀ k : Fin 4, k.val = o.toNat → k ≠ s.load.activeRange →
            exec (.setRange .console o) s = .next
              ({ s with load := { s.load with activeRange := k, settling := true } }.answer .console .setRange
                .ok []))))))
  ∧ (∀ s : State, s.takes .console = true →
    (s.seq.state ≠ .idle → s.seq.state ≠ .armed →
      exec (.tare .console) s = .next (s.answer .console .tare .wrongState []))
    ∧ (s.seq.state = .idle ∨ s.seq.state = .armed →
      (s.load.tare.isSome = true → exec (.tare .console) s = .next (s.answer .console .tare .busy []))
      ∧ (s.load.tare = none →
        exec (.tare .console) s = .next
          ({ s with load := { s.load with
              activeRange := 0
              settling := s.load.settling || s.load.activeRange != 0
              tare := some ⟨0, 0, 0, [], s.load.activeRange⟩ } }.answer .console .tare .accepted []))))

/-- The tare walk (R119 to R121), in IDLE or ARMED: a converted slot of the walk adds its count and holds the force; the
64th ends the range in that slot, ranges 0 to 2 giving way to the next and range 3 committing the four offsets
together with the return range made active; a saturated count fails the tare with the old offsets kept. A settling
slot and a reference slot add nothing; the reference is judged (R117), and a reading out of tolerance sets the fault
and fails the tare. The end of a tare is tested by auto-arm and the grips start, which the fault keeps waiting; in
ARMED every slot writes 0 for a holding SEQUENCER (R25). TARE_RANGE_COMPLETE and TARE_COMMIT are the ends of a range
whose 64 conversions are done. Where the manual leaves a choice it is the model's, log entries 5, 10 and 13 (a held
sample of the walk is absent on an unwritten range and after an absent sample). -/
def Obligations.TareWalksTheRangesAndCommits : Prop :=
  ∀ (s : State) (w : TareWalk) (drive : Drive) (link : ExtLink) (load : LoadUnit), s.power = .running →
    s.seq.state = .idle ∨ s.seq.state = .armed → s.load.tare = some w → 0 ≤ s.drive.config.vmax →
    (s.link.state = .streaming → s.link.staleness + 1 < 8) →
    drive = (if s.seq.state = .armed ∧ s.arbiter.holder = some .sequencer then
      { s.drive with generator := none, buffer := none, velocity := 0, source := .sequencer } else s.drive) →
    link = { s.link with
      staleness := if s.link.state = .streaming then s.link.staleness + 1 else s.link.staleness } →
    load = { s.load with
      slotNumber := s.load.slotNumber + 1, settling := false
      last := ⟨s.load.heldForce, true, s.load.activeRange⟩ } →
    (∀ r : Word24, s.load.slotNumber + 1 ≠ 0 → s.load.settling = false →
      (r.toInt ≠ 8388607 → r.toInt ≠ -8388608 →
        (w.count + 1 < 64 →
          exec (.conversionSlot r) s = .next { s with drive := drive, link := link, load := { load with
            tare := some { w with count := w.count + 1, sum := w.sum + r.toInt } } })
        ∧ (64 ≤ w.count + 1 → ∀ k : Fin 4, k.val = w.range.val + 1 →
          exec (.conversionSlot r) s = .next { s with drive := drive, link := link, load := { load with
            activeRange := k
            settling := k != s.load.activeRange
            tare := some { w with
              range := k, count := 0, sum := 0, found := w.found ++ [roundDiv (w.sum + r.toInt) 64] } } })
        ∧ (64 ≤ w.count + 1 → w.range = 3 → ∀ a b c : Int, w.found = [a, b, c] →
          ∃ t : State, exec (.conversionSlot r) s = .next t.examineHead.testGripsStart
            ∧ t = { s with ports := t.ports, drive := drive, link := link, load := { load with
                offsets := ⟨a, b, c, roundDiv (w.sum + r.toInt) 64⟩
                activeRange := w.returnRange
                settling := w.returnRange != s.load.activeRange
                tare := none } }
            ∧ (t.ports.get .console).notices = withNotice (s.ports.get .console).notices .tareDone))
      ∧ (r.toInt = 8388607 ∨ r.toInt = -8388608 →
        ∃ t : State, exec (.conversionSlot r) s = .next t.examineHead.testGripsStart
          ∧ t = { s with ports := t.ports, drive := drive, link := link, load := { load with
              activeRange := w.returnRange
              settling := w.returnRange != s.load.activeRange
              tare := none } }
          ∧ (t.ports.get .console).notices = withNotice (s.ports.get .console).notices .tareFailed))
    ∧ (∀ r : Word24, s.load.slotNumber + 1 ≠ 0 → s.load.settling = true →
        exec (.conversionSlot r) s = .next { s with drive := drive, link := link, load := load })
    ∧ (∀ r : Word24, s.load.slotNumber + 1 = 0 →
      (s.load.reference = none →
        exec (.conversionSlot r) s = .next { s with drive := drive, link := link, load := load })
      ∧ ∀ e : ReferenceExpectation, s.load.reference = some e →
        (|r.toInt - e.expected| ≤ e.tolerance →
          exec (.conversionSlot r) s = .next { s with
            drive := drive, link := link, load := { load with referenceFault := false } })
        ∧ (e.tolerance < |r.toInt - e.expected| →
          ∃ t : State, exec (.conversionSlot r) s = .next t
            ∧ t = { s with ports := t.ports, drive := drive, link := link, load := { load with
                referenceFault := true
                activeRange := w.returnRange
                settling := w.returnRange != s.load.activeRange
                tare := none } }
            ∧ (t.ports.get .console).notices = withNotice (s.ports.get .console).notices .tareFailed))
    ∧ (64 ≤ w.count → ∀ k : Fin 4, k.val = w.range.val + 1 →
        exec .tareRangeComplete s = .next { s with load := { s.load with
          activeRange := k
          settling := s.load.settling || k != s.load.activeRange
          tare := some
            { w with range := k, count := 0, sum := 0, found := w.found ++ [roundDiv w.sum 64] } } })
    ∧ (w.count < 64 → exec .tareRangeComplete s = .next s ∧ exec .tareCommit s = .next s)
    ∧ (64 ≤ w.count → w.range = 3 → ∀ a b c : Int, w.found = [a, b, c] →
        ∃ t : State, exec .tareCommit s = .next t.examineHead.testGripsStart
          ∧ t = { s with ports := t.ports, load := { s.load with
              offsets := ⟨a, b, c, roundDiv w.sum 64⟩
              activeRange := w.returnRange
              settling := s.load.settling || w.returnRange != s.load.activeRange
              tare := none } }
          ∧ (t.ports.get .console).notices = withNotice (s.ports.get .console).notices .tareDone)

/-- A conversion slot outside a test and a tare, the sequencer IDLE with auto-arm OFF (R104, R110 to R112, R117,
R133): a reference slot judges the reference and holds, a settling slot holds, any other converts on the active
range; the slot takes its number and clears settling pending; a STREAMING link counts one more sample. Where the
manual leaves a choice it is the model's, log entries 10 and 33. -/
def Obligations.ConversionSlotDeliversOneSample : Prop :=
  ∀ (s : State) (r : Word24), s.power = .running → s.seq.state = .idle → s.seq.autoArm = false →
    s.load.tare = none → (s.link.state = .streaming → s.link.staleness + 1 < 8) →
    ∃ t : State, exec (.conversionSlot r) s = .next t
      ∧ t = { s with
          load := { s.load with
            slotNumber := s.load.slotNumber + 1, settling := false, last := t.load.last
            referenceFault := t.load.referenceFault }
          link := { s.link with
            staleness := if s.link.state = .streaming then s.link.staleness + 1 else s.link.staleness } }
      ∧ (s.load.slotNumber + 1 ≠ 0 → t.load.referenceFault = s.load.referenceFault)
      ∧ (s.load.slotNumber + 1 = 0 → s.load.reference = none → t.load.referenceFault = s.load.referenceFault)
      ∧ (s.load.slotNumber + 1 = 0 → ∀ e, s.load.reference = some e →
          (t.load.referenceFault = true ↔ e.tolerance < |r.toInt - e.expected|))
      ∧ (s.load.slotNumber + 1 = 0 ∨ s.load.settling = true →
          t.load.last = ⟨s.load.heldForce, true, s.load.activeRange⟩)
      ∧ (s.load.slotNumber + 1 ≠ 0 → s.load.settling = false →
          (s.load.tables.get s.load.activeRange = none → t.load.last = ⟨none, false, s.load.activeRange⟩)
          ∧ (∀ table f, s.load.tables.get s.load.activeRange = some table →
              unclampedForce table.points (r.toInt - s.load.offsets.get s.load.activeRange) = some f →
              t.load.last = ⟨some (clampInt (-table.fullScale) table.fullScale f), false, s.load.activeRange⟩))

/-- A conversion slot in a test without a tare (R104, R110 to R114, R117): what the load unit makes of it before the
strain unit and the sequencer take the sample. A converted slot delivers its clamped force; overrange on ranges 1
to 3 steps up to the next wider range and counts the switch (R113); on range 0 it reports LOAD_OVERRANGE (R114). A
reference slot out of tolerance sets the fault and, when it was clear, reports LOAD_REFERENCE_FAULT (R117). A
report aborts the test, and in ENDING it is the note when there is none (R46, R47). Where the manual leaves a
choice it is the model's, log entry 10. -/
def Obligations.OverrangeAndReferenceReachTheTest : Prop :=
  ∀ (s : State) (r : Int), s.load.tare = none →
    (∀ (table : RangeTable) (f : Int) (load : LoadUnit) (exceeds : Prop),
      s.load.slotNumber + 1 ≠ 0 → s.load.settling = false →
      s.load.tables.get s.load.activeRange = some table →
      unclampedForce table.points (r - s.load.offsets.get s.load.activeRange) = some f →
      load = { s.load with
        slotNumber := s.load.slotNumber + 1
        last := ⟨some (clampInt (-table.fullScale) table.fullScale f), false, s.load.activeRange⟩ } →
      (exceeds ↔ r = 8388607 ∨ r = -8388608 ∨ 98 * table.fullScale ≤ 100 * |f|) →
      (¬ exceeds ∨ s.seq.state = .idle ∨ s.seq.state = .armed → s.loadSlot r = { s with load := load })
      ∧ (exceeds → s.seq.state.inTest = true →
        (∀ k : Fin 4, s.load.activeRange.val = k.val + 1 →
          s.loadSlot r = { s with
            load := { load with activeRange := k, settling := true }
            seq := { s.seq with rangeSwitches := s.seq.rangeSwitches + 1 } })
        ∧ (s.load.activeRange = 0 →
          (s.seq.state.underTest = true →
            s.loadSlot r = { s with load := load }.enterEnding .aborted (some .loadOverrange))
          ∧ (s.seq.state = .ending →
            s.loadSlot r = { s with
              load := load, seq := { s.seq with note := s.seq.note.or (some .loadOverrange) } }))))
    ∧ (∀ (e : ReferenceExpectation) (load : LoadUnit), s.load.slotNumber + 1 = 0 → s.load.reference = some e →
      load = { s.load with
        slotNumber := 0, settling := false, last := ⟨s.load.heldForce, true, s.load.activeRange⟩ } →
      (|r - e.expected| ≤ e.tolerance → s.loadSlot r = { s with load := { load with referenceFault := false } })
      ∧ (e.tolerance < |r - e.expected| →
        (s.load.referenceFault = true ∨ s.seq.state = .idle ∨ s.seq.state = .armed →
          s.loadSlot r = { s with load := { load with referenceFault := true } })
        ∧ (s.load.referenceFault = false →
          (s.seq.state.underTest = true →
            s.loadSlot r = { s with load := { load with referenceFault := true } }.enterEnding .aborted
              (some .loadReferenceFault))
          ∧ (s.seq.state = .ending →
            s.loadSlot r = { s with
              load := { load with referenceFault := true }
              seq := { s.seq with note := s.seq.note.or (some .loadReferenceFault) } }))))
    ∧ (s.load.slotNumber + 1 ≠ 0 → s.load.settling = true →
      s.loadSlot r = { s with load := { s.load with
        slotNumber := s.load.slotNumber + 1, settling := false
        last := ⟨s.load.heldForce, true, s.load.activeRange⟩ } })

/-- The law of R111 on every slot of every state: the force a slot delivers lies within the full scale of the range
it was produced on, which is the range active at its start. -/
def Obligations.ForceStaysWithinFullScale : Prop :=
  ∀ (s t : State) (r : Word24), s.power = .running → exec (.conversionSlot r) s = .next t →
    t.load.last.range = s.load.activeRange ∧ t.load.tables = s.load.tables
    ∧ (s.load.tables.get s.load.activeRange = none → t.load.last.force = none)
    ∧ ∀ table, s.load.tables.get s.load.activeRange = some table → 0 ≤ table.fullScale →
        ∀ f ∈ t.load.last.force, |f| ≤ table.fullScale

/-! ## Arithmetic, strain and rate -/

/-- Every division rounds to the nearest whole number and a half away from zero (00_scope): for a positive divisor,
no other whole number is nearer, and between two that are equally near it is the greater in magnitude. -/
def Obligations.DivisionRoundsHalfAwayFromZero : Prop :=
  ∀ n d : Int, 0 < d →
    2 * |n - roundDiv n d * d| ≤ d
    ∧ (2 * |n - roundDiv n d * d| = d → |n| < |roundDiv n d| * d)
    ∧ roundDiv (-n) d = -roundDiv n d
    ∧ roundDiv n (-d) = -roundDiv n d
    ∧ ∀ m : Int, m ≤ n → roundDiv m d ≤ roundDiv n d

/-- The computation of one sample and the hand-off (R72 to R77): σ, εe, εc and the clamped ε, of εe with source
EXTENSOMETER, of εc + δ with CROSSHEAD, of εc with none, and nothing else; and a hand-off leaves no step, for the
same force and position computed after it give the same ε as before it. -/
def Obligations.HandOffLeavesNoStep : Prop :=
  ∀ (u : StrainUnit) (force : Int) (p p0 : Word32) (area parallel fPre crosshead : Int),
    u.area = some area → u.parallel = some parallel → u.p0 = some p0 → u.fPre = some fPre →
    crosshead = roundDiv
      (((p.toInt - p0.toInt) * 100 - roundDiv (u.frame.compliance * (force - fPre)) 10000) * 1000) parallel →
    (u.compute force p).sigma = some (roundDiv (force * 10000) area)
    ∧ (u.compute force p).epsilonC = some crosshead
    ∧ u.compute force p = { u with
        sigma := (u.compute force p).sigma, epsilonE := (u.compute force p).epsilonE
        epsilonC := (u.compute force p).epsilonC, epsilon := (u.compute force p).epsilon }
    ∧ (u.zero = none → (u.compute force p).epsilonE = none)
    ∧ (u.source = none → (u.compute force p).epsilon = some (max (-2000000) (min 2000000 crosshead)))
    ∧ (u.source = some .crosshead →
        (u.compute force p).epsilon = some (max (-2000000) (min 2000000 (crosshead + u.delta))))
    ∧ (∀ r z g, u.lastUsable = some r → u.zero = some z → u.extGauge = some g →
        (u.compute force p).epsilonE = some (roundDiv ((r - z) * 10000) g)
        ∧ (u.source = some .extensometer →
          (u.compute force p).epsilon = some (clampInt (-2000000) 2000000 (roundDiv ((r - z) * 10000) g))
          ∧ ((u.compute force p).handOff.compute force p).epsilon = (u.compute force p).epsilon
          ∧ (u.compute force p).handOff.source = some .crosshead
          ∧ (u.compute force p).handOff.epsilon = (u.compute force p).epsilon))
    ∧ ∀ e ∈ (u.compute force p).epsilon, -2000000 ≤ e ∧ e ≤ 2000000

/-- One computation of the rate controller (R52 to R60): a pending initialisation loads the active segment and sets
the target to the measured value; otherwise the target advances by the rate × 5 and the lead clamp bounds the
error, but in CROSSHEAD_SPEED; the command of the mode is limited to 0 to vmax; and in RUN the sequencer writes
that output while SEQUENCER holds the authority. -/
def Obligations.RateSampleFollowsItsRules : Prop :=
  ∀ (r c : RateController) (g : Segment) (epsilon sigma parallel vmax output : Int),
    r.compute g epsilon sigma parallel vmax = (c, output) → 0 ≤ vmax → 0 ≤ r.lead → 0 ≤ g.lead →
    (r.initPending = true → c =
        { target := (match g.mode with
            | .strainRate => epsilon * 10000
            | .stressRate => sigma * 10000
            | .crossheadSpeed => 0)
          mode := some g.mode, rate := g.rate, gain := g.gain, lead := g.lead, initPending := false })
    ∧ (r.initPending = false →
        c = { r with target := c.target }
        ∧ (r.mode = some .strainRate →
            c.target = epsilon * 10000
              + max (-(r.lead * 10000)) (min (r.lead * 10000) (r.target + r.rate * 5 - epsilon * 10000)))
        ∧ (r.mode = some .stressRate →
            c.target = sigma * 10000
              + max (-(r.lead * 10000)) (min (r.lead * 10000) (r.target + r.rate * 5 - sigma * 10000)))
        ∧ (r.mode = some .crossheadSpeed → c.target = r.target))
    ∧ (∀ command : Int,
        (c.mode = some .strainRate →
          command = roundDiv (c.rate * parallel) 1000
            + roundDiv ((c.target - epsilon * 10000) * c.gain) 10000) →
        (c.mode = some .stressRate → command = roundDiv ((c.target - sigma * 10000) * c.gain) 10000) →
        (c.mode = some .crossheadSpeed → command = c.rate) →
        c.mode.isSome = true → output = max 0 (min vmax command))
    ∧ ∀ s : State, s.seq.state = .run → s.rate = r → s.activeSegment = some g → s.drive.config.vmax = vmax →
        s.strain.epsilon = some epsilon → s.strain.sigma = some sigma → s.strain.parallel = some parallel →
        s.commandStep =
          if s.arbiter.holder = some .sequencer then { s with rate := c }.writeVelocity .sequencer output
          else { s with rate := c }

/-- One sample at the result evaluator, for every evaluator, program and sample (R82 to R98): the maximum force goes
on in every case; with the detectors on, fracture is judged on the ring (R97, R98), and a sample that is not the
fracture goes through the modulus, the yield search or the plateau, and the ring. Where the manual leaves a choice it
is the model's, log entries 14 and 41. -/
def Obligations.EvaluatorWorksOneSample : Prop :=
  (∀ (e e' g : Evaluator) (b : ProgramBody) (source : Option StrainSource) (x m : TestSample) (fractured : Bool),
    e.sample b source x = (e', fractured) →
    m = (match e.maximum with
      | none => x
      | some k => if k.force < x.force then x else k) →
    g = { e with maximum := some m } →
    (e.detectors = false → fractured = false ∧ e' = g)
    ∧ (e.detectors = true →
      (fractured = true ↔ b.fractureArm ≤ m.force ∧ e.ring.length = 8
        ∧ ∃ o, e.ring.head? = some o
          ∧ (x.force ≤ o.force - roundDiv (m.force * b.fractureDrop) 1000 ∨ x.force * 1000 ≤ m.force * b.lowCut))
      ∧ (fractured = true → e' = { g with
          breakSample := e.ring.head?, extAtBreak := e.extAtBreak || source == some .extensometer })
      ∧ (fractured = false → ∀ ring : List TestSample,
          ring = (if e.ring.length < 8 then e.ring else e.ring.tail) ++ [x] →
        (source = none → e' = { g with ring := ring })
        ∧ (source.isSome = true →
          e' = { (g.modulusStep b ⟨x.sigma, x.epsilon⟩).yieldStep b ⟨x.sigma, x.epsilon⟩ with ring := ring }))))
  ∧ (∀ (g : Evaluator) (b : ProgramBody) (y : StressStrain),
    (b.modulusMode = .nominal ∨ g.modulus.isSome = true → g.modulusStep b y = g)
    ∧ (b.modulusMode = .secant → g.modulus = none →
      (g.secant1 = none → y.sigma < b.sigmaLo → g.modulusStep b y = g)
      ∧ (∀ a : StressStrain, g.secant1 = some a ∨ (g.secant1 = none ∧ b.sigmaLo ≤ y.sigma ∧ a = y) →
        (y.sigma < b.sigmaHi → g.modulusStep b y = { g with secant1 := some a })
        ∧ (b.sigmaHi ≤ y.sigma → g.secant2 = none → ∀ secant : Int,
            secant = roundDiv ((y.sigma - a.sigma) * 10000) (y.epsilon - a.epsilon) →
          (0 < y.epsilon - a.epsilon → roundDiv b.nominal 2 ≤ secant → secant ≤ roundDiv (3 * b.nominal) 2 →
            g.modulusStep b y = { g with
              secant1 := some a, secant2 := some y, modulus := some ⟨secant, .secant⟩ })
          ∧ (y.epsilon - a.epsilon ≤ 0 ∨ secant < roundDiv b.nominal 2 ∨ roundDiv (3 * b.nominal) 2 < secant →
            g.modulusStep b y = { g with
              secant1 := some a, secant2 := some y, modulus := some ⟨b.nominal, .substituted⟩
              modulusSubstituted := true })))))
  ∧ (∀ (g settled peaked : Evaluator) (b : ProgramBody) (y : StressStrain), g.search = .active →
    settled = (if b.modulusMode = .secant ∧ g.modulus = none then
      { g with modulus := some ⟨b.nominal, .substituted⟩, modulusSubstituted := true } else g) →
    peaked = { g with peak := some (match g.peak with
      | none => y
      | some p => if p.sigma < y.sigma then y else p) } →
    (b.searchLimit ≤ y.epsilon →
      g.yieldStep b y = { settled with search := .ended, yieldNotFound := true, yieldEndRaised := true })
    ∧ (y.epsilon < b.searchLimit →
      (∀ p, g.peak = some p → b.sigmaLo ≤ p.sigma → y.sigma ≤ p.sigma - b.yieldDrop →
        g.yieldStep b y = { settled with
          reh := some p, search := .foundReh, plateau := .opened, plateauMin := some y.sigma
          rel := if p.epsilon + b.transient ≤ y.epsilon then some y.sigma else none })
      ∧ ((∀ p, g.peak = some p → p.sigma < b.sigmaLo ∨ p.sigma - b.yieldDrop < y.sigma) →
        (∀ k, g.modulus = some k → b.proofOffset ≤ y.epsilon - roundDiv (y.sigma * 10000) k.e →
          g.yieldStep b y = { peaked with search := .foundRp, rp := some y.sigma, yieldEndRaised := true })
        ∧ ((∀ k, g.modulus = some k → y.epsilon - roundDiv (y.sigma * 10000) k.e < b.proofOffset) →
          g.yieldStep b y = peaked))))
  ∧ ∀ (g : Evaluator) (b : ProgramBody) (y : StressStrain), g.search ≠ .active →
    (g.plateau ≠ .opened → g.yieldStep b y = g)
    ∧ (g.plateau = .opened → ∀ (reh : StressStrain) (low : Int), g.reh = some reh → g.plateauMin = some low →
      (reh.epsilon + b.transient ≤ y.epsilon → low + b.rise ≤ y.sigma →
        g.yieldStep b y = { g with
          plateau := .closed, ae := some (y.epsilon - reh.epsilon), yieldEndRaised := true })
      ∧ (y.epsilon < reh.epsilon + b.transient ∨ y.sigma < low + b.rise →
        g.yieldStep b y = { g with
          plateauMin := some (min low y.sigma)
          rel := if reh.epsilon + b.transient ≤ y.epsilon then
              some (match g.rel with
                | none => y.sigma
                | some l => min l y.sigma)
            else g.rel }))

/-- A force sample in PRELOAD (R36), SEQUENCER holding: at or above the preload force the origins are set from this
sample and the detectors run, with the modulus settled from it where the mode is NOMINAL (R85). With extensometer use
NONE the sample is then the first of RUN on the crosshead. With AUTO it is computed without a source, velocity 0 is
written and the link is asked to attach (R37, R130): from ASLEEP and LOST by a wake, from READY by CLOSE_ARMS as the
transmit path stands, in OPENING and behind a SLEEP on the line by waiting, while in WAKING and CLOSING it joins the
attach in progress; and a link STREAMING already ends ATTACH at once, with the zero taken and RUN on the extensometer.
Below the preload force, beyond the travel limit the test aborts NO_PRELOAD, and otherwise the approach speed is
written again; a sample without force, which reaches no preload, is judged the same way (R25, R63). Where the manual
leaves a choice it is the model's, log entries 11, 19, 22, 36 and 43. -/
def Obligations.PreloadIsReachedOrAborts : Prop :=
  (∀ (s : State) (b : ProgramBody), s.headProgram = some b → s.seq.state = .preload →
    s.load.last.force = none → s.arbiter.holder = some .sequencer →
    (b.travelLimit * 10 < s.drive.encoder.toInt - s.seq.startPosition.toInt →
      s.sampleTest = s.enterEnding .aborted (some .noPreload))
    ∧ (s.drive.encoder.toInt - s.seq.startPosition.toInt ≤ b.travelLimit * 10 →
      s.sampleTest = s.writeVelocity .sequencer (min b.approach s.drive.config.vmax)))
  ∧ ∀ (s : State) (b : ProgramBody) (f : Int), s.headProgram = some b → s.seq.state = .preload →
    s.load.last.force = some f → s.arbiter.holder = some .sequencer →
    (b.preload ≤ f → ∀ begun : Evaluator,
      begun = { s.eval with
        detectors := true
        modulus := if b.modulusMode = .nominal then some ⟨b.nominal, .nominal⟩ else s.eval.modulus } →
      (b.extUse = .none →
        s.sampleTest = State.sampleTest { s with
          strain := { s.strain with
            p0 := some s.drive.encoder, fPre := some f, source := some .crosshead, delta := 0 }
          eval := begun
          seq := { s.seq with state := .run, releaseSeen := true }
          rate := { s.rate with initPending := true } })
      ∧ (b.extUse = .auto → 0 ≤ s.drive.config.vmax → ∀ (strain : StrainUnit) (x : TestSample) (u : State)
          (fractured : Bool),
        strain = StrainUnit.compute { s.strain with p0 := some s.drive.encoder, fPre := some f } f s.drive.encoder →
        x = ⟨f, strain.sigma.getD 0, strain.epsilon.getD 0⟩ →
        begun.sample b s.strain.source x = (u.eval, fractured) →
        u = { s with
          strain := strain
          eval := u.eval
          seq := { s.seq with state := .attach, yieldEndSeen := s.seq.yieldEndSeen || u.eval.yieldEndRaised }
          drive := { s.drive with generator := none, buffer := none, velocity := 0, source := .sequencer } } →
        (s.link.state = .asleep ∨ s.link.state = .lost →
          s.sampleTest = { u with link := { s.link with
            state := .waking, lock := none, shifter := .sendingBreak, holding := none, waiting := []
            wake := some ⟨1, 0⟩, syncWindow := none, recoveryTimer := none, sleepTimer := none
            attachPending := true, operationTimer := some 0 } }.addNotice .console .extState)
        ∧ (s.link.state = .ready →
          (s.link.onLine .sleep = true →
            s.sampleTest = { u with link := { s.link with attachPending := true, operationTimer := some 0 } })
          ∧ (s.link.onLine .sleep = false → s.link.attachPending = false → s.link.waiting = [] →
            (s.link.shifter = .empty →
              s.sampleTest = { u with link := { s.link with
                state := .closing, shifter := .command ⟨.closeArms, .sequencer⟩ false none
                attachPending := true, operationTimer := some 0, streamRequested := false
                sleepTimer := none } }.addNotice .console .extState)
            ∧ (s.link.shifter ≠ .empty → s.link.holding = none →
              s.sampleTest = { u with link := { s.link with
                state := .closing, holding := some ⟨.closeArms, .sequencer⟩
                attachPending := true, operationTimer := some 0, streamRequested := false
                sleepTimer := none } }.addNotice .console .extState)
            ∧ (s.link.shifter ≠ .empty → s.link.holding.isSome = true →
              s.sampleTest = { u with link := { s.link with
                waiting := [⟨.closeArms, .sequencer⟩], attachPending := true, operationTimer := some 0
                streamRequested := false } })))
        ∧ (s.link.state = .opening →
          s.sampleTest = { u with link := { s.link with attachPending := true, operationTimer := some 0 } })
        ∧ (s.link.state = .waking →
          s.sampleTest = { u with link := { s.link with
            attachPending := true
            operationTimer := if s.link.attachPending then s.link.operationTimer else some 0 } })
        ∧ (s.link.state = .closing
            ∨ (s.link.state = .ready ∧ s.link.attachPending = true ∧ s.link.onLine .sleep = false
              ∧ s.link.queued .closeArms = true) →
          s.sampleTest = u)
        ∧ (s.link.state = .streaming → ∀ l, s.link.latest = some l →
          s.sampleTest = { u with
            strain := { strain with
              zero := some l.elongation, lastUsable := some l.elongation, source := some .extensometer, delta := 0 }
            seq := { u.seq with state := .run }
            rate := { s.rate with initPending := true } }))
      ∧ s.sampleTest.strain.p0 = some s.drive.encoder ∧ s.sampleTest.strain.fPre = some f
      ∧ (b.extUse = .auto → s.sampleTest.seq.state = .attach ∨ s.sampleTest.seq.state = .run)
      ∧ (b.extUse = .auto → s.link.state ≠ .streaming → s.sampleTest.seq.state = .attach
          ∧ s.sampleTest.eval.detectors = true ∧ s.sampleTest.strain.source = s.strain.source)
      ∧ (b.extUse = .none → s.eval.ring = [] →
          s.sampleTest.seq.state = .run ∧ s.sampleTest.strain.source = some .crosshead
            ∧ s.sampleTest.seq.releaseSeen = true ∧ s.sampleTest.eval.detectors = true))
    ∧ (f < b.preload →
      (b.travelLimit * 10 < s.drive.encoder.toInt - s.seq.startPosition.toInt →
        s.sampleTest = s.enterEnding .aborted (some .noPreload))
      ∧ (s.drive.encoder.toInt - s.seq.startPosition.toInt ≤ b.travelLimit * 10 →
        s.sampleTest = s.writeVelocity .sequencer (min b.approach s.drive.config.vmax)))

/-- A conversion slot and its sample in ATTACH, RUN, HOLD and ENDING (R37 to R41, R47, R82, R133), SEQUENCER holding:
the order of a slot's work; the counts of the delivery; fracture ends the test COMPLETE; in RUN and HOLD the hand-off
with EXT_LOST or EXT_RANGE_END, the release, and the change of segment, each once its condition holds; in ATTACH
velocity 0, and its end on STREAMING with the zero taken or on LOST with EXT_ATTACH_FAILED. A sample without force
writes 0 in ATTACH, HOLD and ENDING (R25, R63). A change of the link reaches the sequencer in ATTACH and ENDING alone.
Where the manual leaves a choice it is the model's, log entries 5, 10, 11, 35 and 43. -/
def Obligations.SamplesMoveTheTest : Prop :=
  (∀ (s t : State) (r : Word24), s.power = .running →
    t = (((s.countDuration.countStaleness).loadSlot r.toInt).sampleTest).linkChanged →
    ((s.load.tare.isSome = true ∧ t.load.tare = none) ∨ (s.load.referenceFault = true ∧ t.load.referenceFault = false) →
      exec (.conversionSlot r) s = .next t.examineHead.testGripsStart)
    ∧ ((s.load.tare = none ∨ t.load.tare.isSome = true)
        ∧ (s.load.referenceFault = false ∨ t.load.referenceFault = true) →
      exec (.conversionSlot r) s = .next t))
  ∧ (∀ s : State,
    (s.seq.state.underTest = true →
      s.countDuration = { s with seq := { s.seq with duration := min (s.seq.duration + 1) 4294967295 } })
    ∧ (s.seq.state.underTest = false → s.countDuration = s)
    ∧ (s.link.state ≠ .streaming → s.countStaleness = s)
    ∧ (s.link.state = .streaming → s.link.staleness + 1 < 8 →
      s.countStaleness = { s with link := { s.link with staleness := s.link.staleness + 1 } })
    ∧ (s.link.state = .streaming → 8 ≤ s.link.staleness + 1 → s.countStaleness = s.enterLost))
  ∧ (∀ (s u stopped : State) (b : ProgramBody) (f : Int) (x : TestSample) (fractured : Bool),
    s.headProgram = some b → s.load.last.force = some f → s.arbiter.holder = some .sequencer →
    0 ≤ s.drive.config.vmax →
    x = ⟨f, (s.strain.compute f s.drive.encoder).sigma.getD 0, (s.strain.compute f s.drive.encoder).epsilon.getD 0⟩ →
    s.eval.sample b s.strain.source x = (u.eval, fractured) →
    u = { s with
      strain := s.strain.compute f s.drive.encoder
      eval := u.eval
      seq := { s.seq with yieldEndSeen := s.seq.yieldEndSeen || u.eval.yieldEndRaised } } →
    stopped = { u with drive := { s.drive with
      generator := none, buffer := none, velocity := 0, source := .sequencer } } →
    (s.seq.state = .attach ∨ s.seq.state = .run ∨ s.seq.state = .hold → fractured = true →
      s.sampleTest = u.enterEnding .complete none)
    ∧ (s.seq.state = .attach → fractured = false → s.sampleTest = stopped)
    ∧ (s.seq.state = .run ∨ s.seq.state = .hold → fractured = false →
      s.sampleTest = ((u.extensometerStep b f).endEventStep).commandStep)
    ∧ (s.seq.state = .ending → s.strain.p0.isSome = true → s.sampleTest = stopped)
    ∧ (s.seq.state = .ending → s.strain.p0 = none →
      s.sampleTest = { s with drive := stopped.drive }))
  ∧ (∀ (u handed : State) (b : ProgramBody) (f : Int) (released : Prop),
    handed = { u with strain := u.strain.handOff, seq := { u.seq with releaseSeen := true } } →
    (released ↔ (∃ e, u.strain.epsilon = some e ∧ b.releaseStrain ≤ e)
      ∨ ∃ m, u.eval.maximum = some m ∧ b.releaseDrop ≠ 0
        ∧ f ≤ m.force - roundDiv (m.force * b.releaseDrop) 1000) →
    (u.strain.source ≠ some .extensometer → u.extensometerStep b f = u)
    ∧ (u.strain.source = some .extensometer →
      (u.link.state ≠ .streaming →
        u.extensometerStep b f = { handed with seq := { handed.seq with extLost := true } })
      ∧ (u.link.state = .streaming →
        (∀ l, u.link.latest = some l → l.overrange = true →
          u.extensometerStep b f
            = { handed with seq := { handed.seq with extRangeEnd := true } }.requestDetach .sequencer)
        ∧ ((∀ l, u.link.latest = some l → l.overrange = false) →
          (released → u.extensometerStep b f = handed.requestDetach .sequencer)
          ∧ (¬ released → u.extensometerStep b f = u)))))
  ∧ (∀ (u : State) (g : Segment) (holds : Prop), u.activeSegment = some g →
    (holds ↔ (g.endEvent = .strain ∧ ∃ e, u.strain.epsilon = some e ∧ g.endStrain ≤ e)
      ∨ (g.endEvent = .yieldEnd ∧ u.seq.yieldEndSeen = true)
      ∨ (g.endEvent = .extReleased ∧ u.seq.releaseSeen = true)) →
    (holds → u.endEventStep = { u with
      seq := { u.seq with segment := u.seq.segment + 1 }, rate := { u.rate with initPending := true } })
    ∧ (¬ holds → u.endEventStep = u))
  ∧ (∀ u : State, u.seq.state = .hold → u.arbiter.holder = some .sequencer → 0 ≤ u.drive.config.vmax →
    u.commandStep = { u with drive := { u.drive with
      generator := none, buffer := none, velocity := 0, source := .sequencer } })
  ∧ (∀ (s : State) (b : ProgramBody), s.headProgram = some b → s.load.last.force = none →
    s.arbiter.holder = some .sequencer → 0 ≤ s.drive.config.vmax →
    s.seq.state = .attach ∨ s.seq.state = .hold ∨ s.seq.state = .ending →
    s.sampleTest = { s with drive := { s.drive with
      generator := none, buffer := none, velocity := 0, source := .sequencer } })
  ∧ (∀ s : State, s.seq.state ≠ .attach → s.seq.state ≠ .ending → s.linkChanged = s)
  ∧ ∀ s : State, s.seq.state = .attach →
    (∀ l, s.link.state = .streaming → s.link.latest = some l →
      s.linkChanged = { s with
        strain := { s.strain with
          zero := some l.elongation, lastUsable := some l.elongation
          source := some .extensometer, delta := 0 }
        seq := { s.seq with state := .run }
        rate := { s.rate with initPending := true } })
    ∧ (s.link.state = .lost →
      s.linkChanged = { s with
        strain := { s.strain with source := some .crosshead, delta := 0 }
        seq := { s.seq with state := .run, extAttachFailed := true, releaseSeen := true }
        rate := { s.rate with initPending := true } })
    ∧ (s.link.state ≠ .streaming → s.link.state ≠ .lost → s.linkChanged = s)

/-! ## The extensometer link -/

/-- EXT_ATTACH and EXT_DETACH by the state of the link (R130, R135, R140): what is answered, and the link after it.
An EXT_ATTACH taken in OPENING is answered by a free value, and its effect is the same for either. Where the
manual leaves a choice it is the model's, log entries 8, 15, 17, 18, 19 and 36; and that a STREAM_ON alone in the
holding slot, which the detach removes, makes it no BUSY is an inference, log entry 42. -/
def Obligations.AttachAndDetachByLinkState : Prop :=
  ∀ s : State, s.takes .console = true →
    (s.seq.state ≠ .idle →
      exec (.extAttach .console) s = .next (s.answer .console .extAttach .wrongState [])
      ∧ exec (.extDetach .console) s = .next (s.answer .console .extDetach .wrongState []))
    ∧ (s.seq.state = .idle →
      (s.link.state = .asleep ∨ s.link.state = .lost →
        exec (.extAttach .console) s = .next (({ s with link := { s.link with
            state := .waking, lock := none, shifter := .sendingBreak, holding := none, waiting := []
            wake := some ⟨1, 0⟩, syncWindow := none, recoveryTimer := none, sleepTimer := none
            attachPending := true, operationTimer := some 0 } }.addNotice .console .extState).answer .console
            .extAttach .accepted [])
        ∧ exec (.extDetach .console) s = .next (s.answer .console .extDetach .ok []))
      ∧ (s.link.state = .ready → s.link.attachPending = false → s.link.waiting = [] →
        (s.link.onLine .sleep = true →
          exec (.extAttach .console) s = .next ({ s with link := { s.link with
            attachPending := true, operationTimer := some 0 } }.answer .console .extAttach .accepted []))
        ∧ (s.link.shifter = .empty →
          exec (.extAttach .console) s = .next (({ s with link := { s.link with
              state := .closing, shifter := .command ⟨.closeArms, .console⟩ false none
              attachPending := true, operationTimer := some 0, streamRequested := false
              sleepTimer := none } }.addNotice .console .extState).answer .console .extAttach .accepted []))
        ∧ (s.link.shifter ≠ .empty → s.link.onLine .sleep = false → s.link.holding = none →
          exec (.extAttach .console) s = .next (({ s with link := { s.link with
              state := .closing, holding := some ⟨.closeArms, .console⟩
              attachPending := true, operationTimer := some 0, streamRequested := false
              sleepTimer := none } }.addNotice .console .extState).answer .console .extAttach .accepted []))
        ∧ (s.link.shifter ≠ .empty → s.link.onLine .sleep = false → s.link.holding.isSome = true →
          exec (.extAttach .console) s = .next (s.answer .console .extAttach .busy []))
        ∧ exec (.extDetach .console) s = .next (s.answer .console .extDetach .ok []))
      ∧ (s.link.state = .ready → s.link.attachPending = true →
        (s.link.onLine .sleep = true → s.link.queued .closeArms = false →
          exec (.extAttach .console) s = .next ({ s with link := { s.link with operationTimer := some 0 } }.answer
            .console .extAttach .ok [])
          ∧ exec (.extDetach .console) s = .next ({ s with link := { s.link with attachPending := false } }.answer
            .console .extDetach .ok []))
        ∧ (s.link.onLine .sleep = false → s.link.queued .closeArms = true →
          exec (.extAttach .console) s = .next (s.answer .console .extAttach .ok [])
          ∧ exec (.extDetach .console) s = .next ({ s with link := { s.link.withdraw .closeArms with
            attachPending := false, operationTimer := none } }.answer .console .extDetach .ok [])))
      ∧ (s.link.state = .waking →
        exec (.extAttach .console) s = .next ({ s with link := { s.link with
            attachPending := true
            operationTimer := if s.link.attachPending then s.link.operationTimer else some 0 } }.answer .console
            .extAttach .ok [])
        ∧ exec (.extDetach .console) s = .next ({ s with link := { s.link with attachPending := false } }.answer
            .console .extDetach .ok []))
      ∧ (s.link.state = .opening →
        (∃ st : Status, (st = .ok ∨ st = .accepted) ∧
          exec (.extAttach .console) s = .next ({ s with
            freeCount := s.freeCount + 1
            link := { s.link with attachPending := true, operationTimer := some 0 } }.answer .console .extAttach
            st []))
        ∧ exec (.extDetach .console) s = .next (s.answer .console .extDetach .ok []))
      ∧ (s.link.state = .closing ∨ s.link.state = .streaming →
        exec (.extAttach .console) s = .next (s.answer .console .extAttach .ok []))
      ∧ (s.link.state = .closing → s.link.queued .closeArms = true →
        exec (.extDetach .console) s = .next (({ s with
            link := { (s.link.withdraw .closeArms).hand .streamOff .link with
              state := .ready, attachPending := false, operationTimer := none, wake := none, syncWindow := none
              recoveryTimer := none, staleness := 0, sleepTimer := some 0 } }.addNotice .console .extState).answer
            .console .extDetach .ok []))
      ∧ (s.link.state = .streaming ∨ (s.link.state = .closing ∧ s.link.queued .closeArms = false) →
        (s.link.shifter ≠ .empty → (∃ c ∈ s.link.holding, c.command ≠ .streamOn) →
          exec (.extDetach .console) s = .next (s.answer .console .extDetach .busy []))
        ∧ (s.link.shifter = .empty → s.link.waiting = [] →
            (∀ c ∈ s.link.holding, c.command = .streamOn) →
          exec (.extDetach .console) s = .next (({ s with link := { s.link with
              state := .opening, shifter := .command ⟨.openArms, .console⟩ false none, holding := none
              attachPending := false, operationTimer := some 0, staleness := 0 } }.addNotice .console
              .extState).answer .console .extDetach .accepted []))
        ∧ (s.link.shifter ≠ .empty → s.link.waiting = [] →
            (∀ c ∈ s.link.holding, c.command = .streamOn) →
          exec (.extDetach .console) s = .next (({ s with link := { s.link with
              state := .opening, holding := some ⟨.openArms, .console⟩
              attachPending := false, operationTimer := some 0, staleness := 0 } }.addNotice .console
              .extState).answer .console .extDetach .accepted []))))

/-- STATUS frames by the state of the link (R128 to R131, R134, R136, R137, R139): every one renews the head report;
one that comes while the answer timer of the command on the line runs answers it, and the next command moves up; and
only those named change more. In every state of the sequencer the change of the link reaches it at the end of the
frame (`linkChanged`, stated for ATTACH in SamplesMoveTheTest and for ENDING in EndingWaitsThenCompletes: R37, R48),
and a pending attach goes on after READY or ASLEEP has reached it. `l` is the link after the report and the answer.
Where the manual leaves a choice it is the model's, log entries 15, 16 and 19. -/
def Obligations.StatusFrameByLinkState : Prop :=
  ∀ (s : State) (l : ExtLink) (arms : ArmsState) (fault : Octet), s.power = .running →
    s.link.lock.isSome = true → s.link.discarding = false →
    ((∀ c second n, s.link.shifter ≠ .command c second (some n)) →
      l = { s.link with headReport := some ⟨arms, fault⟩ }) →
    ((∃ c second n, s.link.shifter = .command c second (some n)) →
      (s.link.holding = none → l = { s.link with headReport := some ⟨arms, fault⟩, shifter := .empty })
      ∧ ∀ next, s.link.holding = some next → l = { s.link with
          headReport := some ⟨arms, fault⟩, shifter := .command next false none
          holding := s.link.waiting.head?, waiting := s.link.waiting.tail }) →
    ((s.link.state = .ready
          ∧ (s.link.onLine .sleep = false ∨ ∀ c second n, s.link.shifter ≠ .command c second (some n))
          ∧ (s.link.attachPending = false ∨ s.link.waiting = []))
        ∨ (s.link.state = .closing ∧ fault = 0 ∧ (arms ≠ .closed ∨ s.link.streamRequested = true))
        ∨ (s.link.state = .streaming ∧ fault = 0 ∧ arms = .closed)
        ∨ (s.link.state = .opening ∧ fault = 0 ∧ arms ≠ .opened)
        ∨ ((s.link.state = .waking ∨ s.link.state = .lost) ∧ (arms ≠ .opened ∨ s.link.armsUnknown = false)) →
      exec (.statusFrame arms fault) s = .next (State.linkChanged { s with link := l }))
    ∧ (s.link.state = .closing → fault = 0 → arms = .closed → s.link.streamRequested = false →
      exec (.statusFrame arms fault) s = .next (State.linkChanged { s with
        link := { l.hand .streamOn .link with streamRequested := true, lastSequence := none } }))
    ∧ ((s.link.state = .closing ∧ fault ≠ 0)
        ∨ (s.link.state = .streaming ∧ (fault ≠ 0 ∨ arms ≠ .closed))
        ∨ (s.link.state = .opening ∧ fault ≠ 0 ∧ arms ≠ .opened) →
      ∃ t : State, exec (.statusFrame arms fault) s = .next t.linkChanged
        ∧ t = { s with link := t.link, ports := t.ports }
        ∧ t.link.state = .lost ∧ t.link.armsUnknown = true ∧ t.link.shifter = .sendingBreak
        ∧ t.link.headReport = some ⟨arms, fault⟩)
    ∧ (s.link.state = .opening ∨ ((s.link.state = .waking ∨ s.link.state = .lost) ∧ s.link.armsUnknown = true) →
        arms = .opened → ∀ (ready : ExtLink) (arrived : State),
        ready = { l.hand .streamOff .link with
          state := .ready, armsUnknown := if s.link.state = .opening then s.link.armsUnknown else false
          wake := none, syncWindow := none, recoveryTimer := none, staleness := 0, sleepTimer := some 0
          operationTimer :=
            if s.link.attachPending then (if s.link.state = .opening then some 0 else s.link.operationTimer)
            else none } →
        arrived = { s with link := ready }.addNotice .console .extState →
      (s.link.attachPending = false → exec (.statusFrame arms fault) s = .next arrived.linkChanged)
      ∧ (s.link.attachPending = true → l.shifter = .empty → l.holding = none → l.waiting = [] →
        ∀ owner : CommandOwner, owner = (if s.seq.state = .attach
              ∨ ((s.seq.state = .run ∨ s.seq.state = .hold) ∧ s.seq.extAttachFailed = true) then
            .sequencer else .link) →
        exec (.statusFrame arms fault) s = .next ({ arrived.linkChanged with link := { ready with
          state := .closing, holding := some ⟨.closeArms, owner⟩, streamRequested := false
          sleepTimer := none } }.addNotice .console .extState)))
    ∧ (s.link.state = .ready → s.link.attachPending = true → ∀ c second n next,
        s.link.shifter = .command c second (some n) → c.command ≠ .sleep → s.link.holding.isSome = true →
        s.link.waiting.head? = some next → next.command = .closeArms →
      exec (.statusFrame arms fault) s = .next (({ s with link := { l with
        state := .closing, streamRequested := false, sleepTimer := none } }.addNotice .console .extState).linkChanged))
    ∧ (s.link.state = .ready → ∀ c second n, s.link.shifter = .command c second (some n) → c.command = .sleep →
      ∀ arrived : State, arrived = { s with link := { l with
        state := .asleep, lock := none, sleepTimer := none, syncWindow := none
        operationTimer := if s.link.attachPending then s.link.operationTimer else none } }.addNotice .console .extState →
      (s.link.attachPending = false → exec (.statusFrame arms fault) s = .next arrived.linkChanged)
      ∧ (s.link.attachPending = true → s.link.waiting = [] →
        exec (.statusFrame arms fault) s = .next ({ arrived.linkChanged with link := { s.link with
          headReport := some ⟨arms, fault⟩
          state := .waking, lock := none, shifter := .sendingBreak, holding := none, waiting := []
          wake := some ⟨1, 0⟩, syncWindow := none, recoveryTimer := none
          sleepTimer := none } }.addNotice .console .extState)))

/-- The head line (R125): a character is a low start bit, eight data bits from the least significant and a high stop
bit; a command frame is its type and the CRC-8 of it; and the characters received since the line rested high form
frames, each the command of this model that it is: a STATUS frame, a reading frame with its elongation from the
least significant octet, or a discarded frame with its reason, where an unknown type and a low stop bit discard
what follows too. -/
def Obligations.HeadFramesAreFormed : Prop :=
  (∀ o : Octet, (characterLevels o).length = 10 ∧ (characterLevels o).head? = some false
    ∧ (characterLevels o).getLast? = some true
    ∧ (∀ n < 8, (characterLevels o)[n + 1]? = some (o.getLsbD n))
    ∧ characterOfLevels ((characterLevels o).drop 1) = some o)
  ∧ (∀ levels : List Bool, levels.getD 8 false = false → characterOfLevels levels = none)
  ∧ (HeadCommand.closeArms.code = 0xC1 ∧ HeadCommand.openArms.code = 0xC2 ∧ HeadCommand.streamOn.code = 0xC3
    ∧ HeadCommand.streamOff.code = 0xC4 ∧ HeadCommand.sleep.code = 0xC5)
  ∧ (∀ (l : ExtLink) (c : QueuedCommand) (second : Bool) (timer : Option Nat),
    l.shifter = .command c second timer → l.lineOctets = [c.command.code, crc8 [c.command.code]])
  ∧ ∀ rest : List (Option Octet),
    (∀ (a fault : Octet),
      (∀ arms : ArmsState, armsCode arms = a.toNat →
        takeFrame ([0xA0, a, fault, crc8 [0xA0, a, fault]].map some ++ rest) = some (.statusFrame arms fault, rest))
      ∧ (3 < a.toNat →
        takeFrame ([0xA0, a, fault, crc8 [0xA0, a, fault]].map some ++ rest)
          = some (.frameDiscarded .armsAboveThree, rest))
      ∧ ∀ check : Octet, check ≠ crc8 [0xA0, a, fault] →
        takeFrame ([0xA0, a, fault, check].map some ++ rest) = some (.frameDiscarded .badCheck, rest))
    ∧ (∀ sequence e0 e1 e2 status : Octet,
      takeFrame ([0xA5, sequence, e0, e1, e2, status, crc8 [0xA5, sequence, e0, e1, e2, status]].map some ++ rest)
        = some (.readingFrame sequence (BitVec.ofNat 24 (e0.toNat + 256 * e1.toNat + 65536 * e2.toNat)) status, rest)
      ∧ ∀ check : Octet, check ≠ crc8 [0xA5, sequence, e0, e1, e2, status] →
        takeFrame ([0xA5, sequence, e0, e1, e2, status, check].map some ++ rest)
          = some (.frameDiscarded .badCheck, rest))
    ∧ (∀ type : Octet, type ≠ 0xA0 → type ≠ 0xA5 →
      takeFrame (some type :: rest) = some (.frameDiscarded .unknownType, []))
    ∧ takeFrame (none :: rest) = some (.frameDiscarded .lowStopBit, [])
    ∧ (∀ (type : Octet) (octets : List Octet) (n : Nat), (type = 0xA0 ∧ n = 4) ∨ (type = 0xA5 ∧ n = 7) →
      octets.length + 1 < n →
      takeFrame ((type :: octets).map some ++ none :: rest) = some (.frameDiscarded .lowStopBit, [])
      ∧ takeFrame ((type :: octets).map some) = some (.frameDiscarded .restedHigh, []))

/-- Reading frames (R132): discarded outside CLOSING with a stream requested and STREAMING; a head fault enters LOST
and is not accepted; a repeat is discarded; any other is accepted, and takes CLOSING to STREAMING (R131). An accepted
reading renews the last usable reading while the strain source is EXTENSOMETER and no hand-off has happened, unless it
is flagged head overrange (R71). In every state of the sequencer the change of the link reaches it at the end of the
frame (`linkChanged`), so that the first accepted reading ends ATTACH with the zero it carries (R37). -/
def Obligations.ReadingFrameByLinkState : Prop :=
  ∀ (s : State) (sequence : Octet) (elongation : Word24) (status : Octet), s.power = .running →
    s.link.lock.isSome = true → s.link.discarding = false →
    (s.link.state ≠ .streaming → (s.link.state = .closing → s.link.streamRequested = false) →
      exec (.readingFrame sequence elongation status) s = .next s.linkChanged)
    ∧ (s.link.state = .streaming ∨ (s.link.state = .closing ∧ s.link.streamRequested = true) →
      (status.getLsbD 3 = true →
        ∃ t : State, exec (.readingFrame sequence elongation status) s = .next t.linkChanged
          ∧ t = { s with link := t.link, ports := t.ports }
          ∧ t.link.state = .lost ∧ t.link.armsUnknown = true ∧ t.link.latest = s.link.latest)
      ∧ (status.getLsbD 3 = false →
        (s.link.lastSequence = some sequence → exec (.readingFrame sequence elongation status) s = .next s.linkChanged)
        ∧ (s.link.lastSequence ≠ some sequence → ∀ (r : Reading) (renewed : StrainUnit),
            r = ⟨sequence, elongation.toInt, armsOfStatus status, status.getLsbD 2, false⟩ →
            renewed = (if s.strain.source = some .extensometer ∧ s.strain.handedOff = false
                ∧ status.getLsbD 2 = false then
              { s.strain with lastUsable := some elongation.toInt } else s.strain) →
            (s.link.state = .streaming →
              exec (.readingFrame sequence elongation status) s = .next (State.linkChanged { s with
                link := { s.link with latest := some r, lastSequence := some sequence, staleness := 0 }
                strain := renewed }))
            ∧ (s.link.state = .closing →
              exec (.readingFrame sequence elongation status) s = .next (({ s with
                link := { s.link with
                  state := .streaming, latest := some r, lastSequence := some sequence, staleness := 0
                  operationTimer := none, attachPending := false }
                strain := renewed }.addNotice .console .extState).linkChanged)))))

/-- The line's own events: the end of a command's last octet starts its answer timer (R128); the first expiry sends
it again; the end of a break opens the sync window (R126); a discarded frame changes nothing but, after an unknown
type or a low stop bit, that octets are discarded until the line has rested high (R125). Where the manual leaves a
choice it is the model's, log entries 6, 20 and 34. -/
def Obligations.LineEventsOfTheLink : Prop :=
  ∀ s : State, s.power = .running →
    (∀ c second timer, s.link.shifter = .command c second timer →
      exec .commandSent s = .next { s with link := { s.link with shifter := .command c second (some 0) } })
    ∧ (∀ c n, s.link.shifter = .command c false (some n) →
      exec .answerTimeout s = .next { s with link := { s.link with shifter := .command c true (some 0) } })
    ∧ (s.link.shifter = .sendingBreak → s.link.holding = none →
      exec .breakEnd s = .next { s with link := { s.link with shifter := .empty, syncWindow := some 0 } })
    ∧ (∀ reason : DiscardReason, s.link.lock.isSome = true → s.link.discarding = false →
      (reason = .unknownType ∨ reason = .lowStopBit →
        exec (.frameDiscarded reason) s = .next { s with link := { s.link with discarding := true } })
      ∧ (reason = .badCheck ∨ reason = .restedHigh ∨ reason = .armsAboveThree →
        exec (.frameDiscarded reason) s = .next s))
    ∧ exec .lineRestedHigh s = .next { s with link := { s.link with discarding := false } }

/-- The attempts of a wake and of a recovery (R126, R129, R130, R139): a sync of 78 to 82 ticks that decodes as 0x55
takes the lock, and WAKING goes to READY and on to CLOSING with an attach pending, or opens the arms first while they
are unknown; any other sync, or none in its window, fails the attempt; the next break counts the attempt up, and the
third failure enters LOST. A sync of a recovery attempt hands OPEN_ARMS, and a failed one leaves the rate lock
unlocked. In every state of the sequencer the change of the link reaches it at the end of the event (`linkChanged`,
R37, R48), and a pending attach goes on after READY has reached it. Where the manual leaves a choice it is the
model's, log entries 6, 16 and 19. -/
def Obligations.WakeAttemptsLockOrFail : Prop :=
  (∀ (s : State) (w : WakeAttempt), s.power = .running →
    s.link.state = .waking → s.link.wake = some w → s.link.lock = none → s.link.shifter = .empty →
    (s.link.syncWindow.isSome = true →
      (∀ count : Nat, 78 ≤ count → count ≤ 82 → s.link.armsUnknown = false → ∀ (ready : ExtLink) (arrived : State),
        ready = { s.link with
          state := .ready, lock := some count, discarding := false
          shifter := .command ⟨.streamOff, .link⟩ false none
          wake := none, syncWindow := none, recoveryTimer := none, staleness := 0, sleepTimer := some 0
          operationTimer := if s.link.attachPending then s.link.operationTimer else none } →
        arrived = { s with link := ready }.addNotice .console .extState →
        (s.link.attachPending = false → exec (.syncCharacter count 0x55) s = .next arrived.linkChanged)
        ∧ (s.link.attachPending = true → s.link.holding = none → s.link.waiting = [] →
          ∀ owner : CommandOwner, owner = (if s.seq.state = .attach
                ∨ ((s.seq.state = .run ∨ s.seq.state = .hold) ∧ s.seq.extAttachFailed = true) then
              .sequencer else .link) →
          exec (.syncCharacter count 0x55) s = .next ({ arrived.linkChanged with link := { ready with
            state := .closing, holding := some ⟨.closeArms, owner⟩, streamRequested := false
            sleepTimer := none } }.addNotice .console .extState)))
      ∧ (∀ count : Nat, 78 ≤ count → count ≤ 82 → s.link.armsUnknown = true →
        exec (.syncCharacter count 0x55) s = .next (State.linkChanged { s with link := { s.link with
          lock := some count, syncWindow := none, discarding := false
          shifter := .command ⟨.openArms, .link⟩ false none } }))
      ∧ (∀ (count : Nat) (character : Octet), count < 78 ∨ 82 < count ∨ character ≠ 0x55 →
        exec (.syncCharacter count character) s = exec .syncWindowTimeout s)
      ∧ (w.number < 3 →
        exec .syncWindowTimeout s = .next (State.linkChanged { s with link := { s.link with syncWindow := none } }))
      ∧ (3 ≤ w.number →
        ∃ t : State, exec .syncWindowTimeout s = .next t.linkChanged ∧ t = { s with link := t.link, ports := t.ports }
          ∧ t.link.state = .lost ∧ t.link.armsUnknown = s.link.armsUnknown ∧ t.link.attachPending = false))
    ∧ (s.link.syncWindow = none → w.number < 3 →
      exec .wakeRetry s = .next { s with link := { s.link with
        shifter := .sendingBreak, wake := some ⟨w.number + 1, 0⟩ } }))
  ∧ ∀ s : State, s.power = .running →
    s.link.state = .lost → s.link.syncWindow.isSome = true → s.link.lock = none → s.link.shifter = .empty →
    (∀ count : Nat, 78 ≤ count → count ≤ 82 →
      exec (.syncCharacter count 0x55) s = .next (State.linkChanged { s with link := { s.link with
        lock := some count, syncWindow := none, discarding := false
        shifter := .command ⟨.openArms, .link⟩ false none } }))
    ∧ (∀ (count : Nat) (character : Octet), count < 78 ∨ 82 < count ∨ character ≠ 0x55 →
      exec (.syncCharacter count character) s
        = .next (State.linkChanged { s with link := { s.link with syncWindow := none } }))
    ∧ exec .syncWindowTimeout s = .next (State.linkChanged { s with link := { s.link with syncWindow := none } })

/-- The losses of the link (R128, R130, R133, R136 to R139): a second miss, a running operation timer at its limit and
a staleness count of 8 enter LOST with every effect of R138; a second miss of SLEEP with an attach pending enters LOST
and goes on to a wake under the attach's timer, a sequencer in ATTACH going to RUN on the crosshead with
EXT_ATTACH_FAILED; in LOST a second miss ends the recovery attempt, and in ASLEEP it empties the shifter alone; the
recovery of unknown arms begins at once and every 100 ms again; the sleep timer hands SLEEP once. In every state of
the sequencer the entry to LOST reaches it (`linkChanged`): it ends ATTACH with EXT_ATTACH_FAILED (R37) and is tested
by the wait of ENDING (R48). Where the manual leaves a choice it is the model's, log entries 5, 6, 16, 19 and 37. -/
def Obligations.LossesOfTheLink : Prop :=
  (∀ s : State, s.power = .running →
    (s.link.state ≠ .asleep → s.link.state ≠ .lost →
      ∀ (lost : ExtLink) (unknown : Bool),
        unknown = (s.link.armsUnknown
          || decide (s.link.state = .closing ∨ s.link.state = .streaming ∨ s.link.state = .opening)) →
        lost = { s.link with
          state := .lost, armsUnknown := unknown, lock := none
          shifter := if unknown then .sendingBreak else .empty
          holding := none, waiting := [], attachPending := false, streamRequested := false
          operationTimer := none, staleness := 0, wake := none, syncWindow := none, sleepTimer := none
          recoveryTimer := if unknown then some 0 else none } →
        (s.link.operationTimer.isSome = true →
          exec .operationTimeout s = .next (({ s with link := lost }.addNotice .console .extState).linkChanged))
        ∧ (s.link.state = .streaming → s.link.staleness = 8 →
          exec .stalenessLost s = .next (({ s with link := lost }.addNotice .console .extState).linkChanged))
        ∧ (∀ c n, s.link.shifter = .command c true (some n) →
            (s.link.state = .ready → c.command = .sleep → s.link.attachPending = false) →
          exec .answerTimeout s = .next (({ s with link := lost }.addNotice .console .extState).linkChanged)))
    ∧ (s.link.state = .lost → ∀ c n, s.link.shifter = .command c true (some n) →
      exec .answerTimeout s = .next (State.linkChanged { s with link := { s.link with
        shifter := .empty, holding := none, waiting := [], lock := none } }))
    ∧ (s.link.state = .asleep → ∀ c n, s.link.shifter = .command c true (some n) → s.link.holding = none →
      exec .answerTimeout s = .next (State.linkChanged { s with link := { s.link with shifter := .empty } }))
    ∧ (s.link.state = .ready → s.link.sleepTimer.isSome = true → s.link.shifter = .empty →
        s.link.queued .sleep = false →
      exec .sleepTimeout s = .next { s with link := { s.link with shifter := .command ⟨.sleep, .link⟩ false none } })
    ∧ (s.link.state = .lost → s.link.armsUnknown = true → s.link.recoveryTimer.isSome = true →
      exec .recoveryTimeout s = .next { s with link := { s.link with
        shifter := .sendingBreak, holding := none, waiting := [], lock := none
        recoveryTimer := some 0, syncWindow := none } }))
  ∧ ∀ (s : State) (c : QueuedCommand) (n : Nat) (waking : ExtLink), s.power = .running →
    s.link.state = .ready → s.link.shifter = .command c true (some n) → c.command = .sleep →
    s.link.attachPending = true →
    waking = { s.link with
      state := .waking, lock := none, shifter := .sendingBreak, holding := none, waiting := []
      streamRequested := false, staleness := 0, wake := some ⟨1, 0⟩, syncWindow := none, sleepTimer := none
      recoveryTimer := none } →
    (s.seq.state = .ending → ∀ lost t : State, lost = { s with link := { s.link with
        state := .lost, lock := none, shifter := if s.link.armsUnknown then .sendingBreak else .empty
        holding := none, waiting := [], attachPending := false, streamRequested := false
        operationTimer := none, staleness := 0, wake := none, syncWindow := none, sleepTimer := none
        recoveryTimer := if s.link.armsUnknown then some 0 else none } }.addNotice .console .extState →
        t = (if s.meter.rest then lost.completeTest else lost) →
      exec .answerTimeout s = .next ({ t with link := waking }.addNotice .console .extState))
    ∧ (s.seq.state ≠ .attach → s.seq.state ≠ .ending →
      exec .answerTimeout s = .next ({ s with link := waking }.addNotice .console .extState))
    ∧ (s.seq.state = .attach →
      exec .answerTimeout s = .next ({ s with
        link := waking
        strain := { s.strain with source := some .crosshead, delta := 0 }
        seq := { s.seq with state := .run, extAttachFailed := true, releaseSeen := true }
        rate := { s.rate with initPending := true } }.addNotice .console .extState))

/-! ## Motion authority and the crosshead drive -/

/-- REQUEST_AUTHORITY by the first case of R144 that applies, and RELEASE_AUTHORITY by the requester's standing
(R145): a release by the holder outside a test stops the generator, ends a move RELEASED and grants the front of
the list; a waiter's request alone leaves the list. The grant (R143): nothing with an empty list; a port becomes the
holder and receives AUTHORITY_GRANTED; SEQUENCER, which waits in ARMED, becomes the holder without a notice, writes 0
(R25), and starts the test at the grant when the start conditions hold (R33). Where the manual leaves a choice it is
the model's, log entry 21. -/
def Obligations.AuthorityIsRequestedAndReleased : Prop :=
  (∀ s : State,
    (s.arbiter.waiting = [] → s.grantFront = s)
    ∧ (∀ q p rest, s.arbiter.waiting = q :: rest → Party.port q = some p →
      s.grantFront = { s with arbiter := ⟨some q, rest⟩ }.addNotice p .authorityGranted)
    ∧ (∀ rest e tail b, s.arbiter.waiting = .sequencer :: rest → s.seq.state = .armed → 0 ≤ s.drive.config.vmax →
      s.queue = e :: tail → s.programAt e.slot = some b → ∀ granted : State,
      granted = { s with
        arbiter := ⟨some .sequencer, rest⟩
        drive := { s.drive with generator := none, buffer := none, velocity := 0, source := .sequencer } } →
      (b.startMode = .grips → s.seq.openSeen = true → s.inputs.grips = true → s.load.tare = none →
        s.load.referenceFault = false → s.grantFront = granted.startTest)
      ∧ (b.startMode ≠ .grips ∨ s.seq.openSeen = false ∨ s.inputs.grips = false ∨ s.load.tare.isSome = true
          ∨ s.load.referenceFault = true → s.grantFront = granted)))
  ∧ ∀ (p : Role) (q : Party) (s : State), partyOf p = some q → s.takes p = true →
    ((s.inputs.latch = true →
        exec (.requestAuthority p) s = .next (s.answer p .requestAuthority .frameStopped []))
      ∧ (s.inputs.latch = false →
        (s.arbiter.holder = some q →
          exec (.requestAuthority p) s = .next (s.answer p .requestAuthority .alreadyHeld []))
        ∧ (s.arbiter.holder ≠ some q →
          (q ∈ s.arbiter.waiting →
            exec (.requestAuthority p) s = .next (s.answer p .requestAuthority .alreadyWaiting []))
          ∧ (q ∉ s.arbiter.waiting →
            (s.arbiter.holder = none ∧ s.seq.state.inTest = false →
              exec (.requestAuthority p) s = .next
                ({ s with arbiter := ⟨some q, s.arbiter.waiting⟩ }.answer p .requestAuthority .ok []))
            ∧ (s.arbiter.holder ≠ none ∨ s.seq.state.inTest = true →
              exec (.requestAuthority p) s = .next
                ({ s with arbiter := ⟨s.arbiter.holder, s.arbiter.waiting ++ [q]⟩ }.answer p .requestAuthority
                  .accepted []))))))
    ∧ ((s.arbiter.holder = some q → s.seq.state.inTest = false →
        ∃ u : State, exec (.releaseAuthority p) s = .next (u.grantFront.answer p .releaseAuthority .ok [])
          ∧ u = { s with
              ports := u.ports
              arbiter := ⟨none, s.arbiter.waiting⟩
              drive := { s.drive with
                generator := none, buffer := none, velocity := 0, source := .none, move := none
                lastOutcome := (s.drive.move.map fun m =>
                  (⟨m.number, m.kind, some .released, s.drive.commanded, s.drive.encoder⟩ : MoveOutcome)).or
                    s.drive.lastOutcome } }
          ∧ (s.drive.move = none → u.ports = s.ports)
          ∧ ∀ m ∈ s.drive.move, u.ports = (s.addNotice m.issuer .moveStopped).ports)
      ∧ (s.arbiter.holder = some q → s.seq.state.inTest = false →
        s.arbiter.waiting.head? ≠ some .sequencer →
        ∃ t : State, exec (.releaseAuthority p) s = .next t
          ∧ t = { s with
              ports := t.ports
              arbiter := ⟨s.arbiter.waiting.head?, s.arbiter.waiting.tail⟩
              drive := { s.drive with
                generator := none, buffer := none, velocity := 0, source := .none, move := none
                lastOutcome := (s.drive.move.map fun m =>
                  (⟨m.number, m.kind, some .released, s.drive.commanded, s.drive.encoder⟩ : MoveOutcome)).or
                    s.drive.lastOutcome } }
          ∧ (t.ports.get p).pendingReply = some ⟨⟨0x51, .ok, []⟩, 500⟩
          ∧ (∀ m ∈ s.drive.move, (t.ports.get m.issuer).hasNotice .moveStopped = true)
          ∧ ∀ r ∈ s.arbiter.waiting.head?.bind Party.port, (t.ports.get r).hasNotice .authorityGranted = true)
      ∧ (s.arbiter.holder ≠ some q → q ∈ s.arbiter.waiting →
        exec (.releaseAuthority p) s = .next
          ({ s with arbiter := ⟨s.arbiter.holder, s.arbiter.waiting.filter (· != q)⟩ }.answer p
            .releaseAuthority .ok []))
      ∧ (s.arbiter.holder ≠ some q → q ∉ s.arbiter.waiting →
        exec (.releaseAuthority p) s = .next (s.answer p .releaseAuthority .notHolder [])))

/-- MOVE_TO and MOVE_BY (R154): NOT_HOLDER from a port that does not hold, a MOVE_TO UNREFERENCED, a distance or a speed
out of range INVALID_FIELD 1 and 2. An accepted one replaces a move in flight; its speed is clamped to vmax, and to
the jog limit while unreferenced; its target lies on the step grid of the commanded position, between it and the
clamped raw target, less than one step short. The move is recorded, and the speed, with the sign of the direction
toward the target (R147, R150), starts a STOPPED generator or waits for the boundary of a RUNNING one; a speed whose
period is a stop value, and a target already reached, stop it, the latter in SETTLING or, at rest, DONE. The reply
carries the number, the target, the speed and the clamped mark. Where the manual leaves a choice it is the model's,
log entries 5 and 22. -/
def Obligations.MovesAreRecordedAndStarted : Prop :=
  ∀ (p : Role) (s : State) (x speed : Word32), p ≠ .quality → s.takes p = true →
    (s.portHolds p = false →
      exec (.moveTo p x speed) s = .next (s.answer p .moveTo .notHolder [])
      ∧ exec (.moveBy p x speed) s = .next (s.answer p .moveBy .notHolder []))
    ∧ (s.portHolds p = true →
      (s.drive.referenced = false → exec (.moveTo p x speed) s = .next (s.answer p .moveTo .unreferenced []))
      ∧ (s.drive.referenced = true → speed.toInt < 1000 ∨ 2000000 < speed.toInt →
        exec (.moveTo p x speed) s = .next (s.answer p .moveTo .invalidField [2]))
      ∧ (x.toInt < -100000000 ∨ 100000000 < x.toInt →
        exec (.moveBy p x speed) s = .next (s.answer p .moveBy .invalidField [1]))
      ∧ (-100000000 ≤ x.toInt → x.toInt ≤ 100000000 → speed.toInt < 1000 ∨ 2000000 < speed.toInt →
        exec (.moveBy p x speed) s = .next (s.answer p .moveBy .invalidField [2]))
      ∧ (1 ≤ s.drive.config.step → s.drive.config.step ≤ 100 →
        1000 ≤ s.drive.config.vmax → s.drive.config.vmax ≤ 2000000 →
        1000 ≤ s.drive.config.jogLimit → 1000 ≤ speed.toInt → speed.toInt ≤ 2000000 →
        s.drive.config.lower.toInt ≤ s.drive.config.upper.toInt →
        ∀ (i : Instr) (code : Octet) (kind : MoveKind) (raw limited v ticks : Int) (clamped : Bool),
        ((i = .moveTo p x speed ∧ code = 0x52 ∧ kind = .moveTo ∧ raw = x.toInt ∧ s.drive.referenced = true)
          ∨ (i = .moveBy p x speed ∧ code = 0x53 ∧ kind = .moveBy ∧ raw = s.drive.commanded.toInt + x.toInt
              ∧ -100000000 ≤ x.toInt ∧ x.toInt ≤ 100000000)) →
        limited = (if s.drive.referenced then
            max s.drive.config.lower.toInt (min s.drive.config.upper.toInt raw) else raw) →
        v = (if s.drive.referenced then min speed.toInt s.drive.config.vmax
            else min (min speed.toInt s.drive.config.vmax) s.drive.config.jogLimit) →
        clamped = decide (limited ≠ raw) → ticks = roundDiv (1000000000 * s.drive.config.step) v →
        ∃ (t : State) (target : Word32) (n : BitVec 16) (replaced : Option MoveOutcome), exec i s = .next t
          ∧ (let ahead := (BitVec.ofInt 32 limited - s.drive.commanded).toInt
             ∃ k : Int, target = s.drive.commanded + BitVec.ofInt 32 (k * s.drive.config.step)
              ∧ |k * s.drive.config.step| ≤ |ahead| ∧ |ahead| < |k * s.drive.config.step| + s.drive.config.step
              ∧ 0 ≤ k * ahead)
          ∧ n = s.drive.moveCounter + 1
          ∧ replaced = (s.drive.move.map fun m =>
              (⟨m.number, m.kind, some .replaced, s.drive.commanded, s.drive.encoder⟩ : MoveOutcome)).or
                s.drive.lastOutcome
          ∧ t = { s with ports := t.ports, drive := t.drive }
          ∧ (target = s.drive.commanded → s.meter.rest = false →
            t.drive = { s.drive with
              moveCounter := n, move := some ⟨n, kind, p, target, v, clamped, .settling⟩, source := .move
              velocity := 0, buffer := none, generator := none, lastOutcome := replaced })
          ∧ (target = s.drive.commanded → s.meter.rest = true →
            t.drive = { s.drive with
              moveCounter := n, move := none, source := .none
              velocity := 0, buffer := none, generator := none
              lastOutcome := some ⟨n, kind, none, s.drive.commanded, s.drive.encoder⟩ }
            ∧ (t.ports.get p).hasNotice .moveDone = true)
          ∧ (target ≠ s.drive.commanded →
            t.drive = { s.drive with
              moveCounter := n, move := some ⟨n, kind, p, target, v, clamped, .travelling⟩, source := .move
              velocity :=
                if 16777215 < ticks then 0
                else if 0 ≤ (target - s.drive.commanded).toInt then v else -v
              buffer := if 16777215 < ticks ∨ s.drive.generator = none then none else some ticks.toNat
              generator :=
                if 16777215 < ticks then none
                else s.drive.generator.or (some ⟨ticks.toNat, 0,
                  if 0 ≤ (target - s.drive.commanded).toInt then .opening else .closing⟩)
              lastOutcome := replaced })
          ∧ (∀ m ∈ s.drive.move, (t.ports.get m.issuer).hasNotice .moveStopped = true)
          ∧ (t.ports.get p).pendingReply = some ⟨⟨code, .ok,
              num4 n.toNat ++ be4 target ++ num4 v ++ [if clamped then 1 else 0]⟩, 500⟩))

/-- JOG and STOP_MOVE (R154, R155): refused NOT_HOLDER from a port that does not hold; a JOG with a bad direction or
speed is refused with the lowest failing index; an accepted one replaces a move in flight and runs in its
direction at the speed clamped to vmax and the jog limit, the velocity with the direction's sign (R147, R150),
starting a STOPPED generator or waiting for the boundary of a RUNNING one, and its target in effect a free value;
STOP_MOVE stops at once and ends a move REPLACED. Where the manual leaves a choice it is the model's, log entries 7
and 21. -/
def Obligations.JogRunsUntilStopped : Prop :=
  ∀ (p : Role) (s : State) (direction : Octet) (speed : Word32), p ≠ .quality → s.takes p = true →
    (s.portHolds p = false →
      exec (.jog p direction speed) s = .next (s.answer p .jog .notHolder [])
      ∧ exec (.stopMove p) s = .next (s.answer p .stopMove .notHolder []))
    ∧ (s.portHolds p = true →
      (direction ≠ 0 → direction ≠ 1 →
        exec (.jog p direction speed) s = .next (s.answer p .jog .invalidField [1]))
      ∧ (direction = 0 ∨ direction = 1 → speed.toInt < 1000 ∨ 2000000 < speed.toInt →
        exec (.jog p direction speed) s = .next (s.answer p .jog .invalidField [2]))
      ∧ (direction = 0 ∨ direction = 1 → 1000 ≤ speed.toInt → speed.toInt ≤ 2000000 →
          1 ≤ s.drive.config.step → s.drive.config.step ≤ 100 → 1000 ≤ s.drive.config.vmax →
          s.drive.config.vmax ≤ 2000000 → 1000 ≤ s.drive.config.jogLimit → ∀ v ticks : Int,
          v = min (min speed.toInt s.drive.config.vmax) s.drive.config.jogLimit →
          ticks = roundDiv (1000000000 * s.drive.config.step) v →
        ∃ (t : State) (target : Word32) (dir : Direction), exec (.jog p direction speed) s = .next t
          ∧ dir = (if direction = 0 then .opening else .closing)
          ∧ t = { s with
              ports := t.ports, freeCount := s.freeCount + 1
              drive := { s.drive with
                moveCounter := s.drive.moveCounter + 1, source := .move
                velocity := if 16777215 < ticks then 0 else if direction = 0 then v else -v
                buffer := if 16777215 < ticks ∨ s.drive.generator = none then none else some ticks.toNat
                generator :=
                  if 16777215 < ticks then none else s.drive.generator.or (some ⟨ticks.toNat, 0, dir⟩)
                move := some ⟨s.drive.moveCounter + 1, .jog dir, p, target, v, false, .travelling⟩
                lastOutcome := (s.drive.move.map fun m =>
                  (⟨m.number, m.kind, some .replaced, s.drive.commanded, s.drive.encoder⟩ : MoveOutcome)).or
                    s.drive.lastOutcome } }
          ∧ (∀ m ∈ s.drive.move, (t.ports.get m.issuer).hasNotice .moveStopped = true)
          ∧ (t.ports.get p).pendingReply = some ⟨⟨0x54, .ok,
              num4 (s.drive.moveCounter + 1).toNat ++ be4 target ++ num4 v ++ [0]⟩, 500⟩)
      ∧ (∃ t : State, exec (.stopMove p) s = .next t
          ∧ t = { s with
              ports := t.ports
              drive := { s.drive with
                generator := none, buffer := none, velocity := 0, move := none
                source := if s.drive.move.isSome then .none else s.drive.source
                lastOutcome := (s.drive.move.map fun m =>
                  (⟨m.number, m.kind, some .replaced, s.drive.commanded, s.drive.encoder⟩ : MoveOutcome)).or
                    s.drive.lastOutcome } }
          ∧ (t.ports.get p).pendingReply = some ⟨⟨0x55, .ok, []⟩, 500⟩
          ∧ ∀ m ∈ s.drive.move, (t.ports.get m.issuer).hasNotice .moveStopped = true))

/-- SET_POSITION and WRITE_DRIVE_CONFIG, each check in its order (R152, R153): both positions are set and the drive
becomes referenced; a field out of range or an upper soft limit not above the lower is refused with the lowest
failing index; a configuration that passes replaces the whole, and with it nothing else. -/
def Obligations.PositionAndConfigurationAreSet : Prop :=
  (∀ (s : State) (x : Word32), s.takes .console = true →
    (s.arbiter.holder ≠ some .console →
      exec (.setPosition .console x) s = .next (s.answer .console .setPosition .notHolder []))
    ∧ (s.arbiter.holder = some .console →
      (s.drive.generator.isSome = true ∨ s.drive.move.isSome = true →
        exec (.setPosition .console x) s = .next (s.answer .console .setPosition .wrongState []))
      ∧ (s.drive.generator = none → s.drive.move = none →
        (x.toInt < s.drive.config.lower.toInt ∨ s.drive.config.upper.toInt < x.toInt →
          exec (.setPosition .console x) s = .next (s.answer .console .setPosition .invalidField [1]))
        ∧ (s.drive.config.lower.toInt ≤ x.toInt → x.toInt ≤ s.drive.config.upper.toInt →
          exec (.setPosition .console x) s = .next
            ({ s with drive := { s.drive with encoder := x, commanded := x, referenced := true } }.answer .console
              .setPosition .ok []).examineHead))))
  ∧ (∀ (s : State) (step : Octet) (vmax jog lower upper following : Word32) (c : DriveConfig) (i : Instr)
      (index : Nat),
    s.takes .console = true → c = ⟨step.toNat, vmax.toInt, jog.toInt, lower, upper, following.toInt⟩ →
    i = .writeDriveConfig .console step vmax jog lower upper following →
    index = (
      if ¬ (1 ≤ c.step ∧ c.step ≤ 100) then 1
      else if ¬ (1000 ≤ c.vmax ∧ c.vmax ≤ 2000000) then 2
      else if ¬ (1000 ≤ c.jogLimit ∧ c.jogLimit ≤ 500000) then 3
      else if upper.toInt ≤ lower.toInt then 5
      else if ¬ (10 ≤ c.following ∧ c.following ≤ 100000) then 6
      else 0) →
    (s.seq.state ≠ .idle → exec i s = .next (s.answer .console .writeDriveConfig .wrongState []))
    ∧ (s.seq.state = .idle → s.config.inFlight.isSome = true →
      exec i s = .next (s.answer .console .writeDriveConfig .busy []))
    ∧ (s.seq.state = .idle → s.config.inFlight = none →
      (s.drive.generator.isSome = true ∨ s.drive.move.isSome = true →
        exec i s = .next (s.answer .console .writeDriveConfig .wrongState []))
      ∧ (s.drive.generator = none → s.drive.move = none →
        (index ≠ 0 →
          exec i s = .next (s.answer .console .writeDriveConfig .invalidField [BitVec.ofNat 8 index]))
        ∧ (index = 0 →
          (s.drive.referenced = true → s.drive.commanded.toInt < lower.toInt →
            exec i s = .next (s.answer .console .writeDriveConfig .invalidField [4]))
          ∧ (s.drive.referenced = true → upper.toInt < s.drive.commanded.toInt →
            exec i s = .next (s.answer .console .writeDriveConfig .invalidField [5]))
          ∧ (s.drive.referenced = false
              ∨ (lower.toInt ≤ s.drive.commanded.toInt ∧ s.drive.commanded.toInt ≤ upper.toInt) →
            exec i s = .next
              ({ s with drive := { s.drive with config := c } }.answer .console .writeDriveConfig .ok []))))))

/-- The end of a period, and the completion of a move (R149, R151, R155): a pulse moves the commanded position by one
step in the direction of the period that ends, and the buffer's period or the same one follows; a pulse past a soft
limit is not emitted: a move ends LIMIT, and under the sequencer's velocity TRAVEL_LIMIT aborts the test, or is its
note in ENDING; the pulse that reaches the target stops the generator, and the move settles and ends DONE at rest, at
once where the rest flag is set already. While the generator is RUNNING its direction stands on DIR, high for OPEN and
low for CLOSE. Where the manual leaves a choice it is the model's, log entries 5, 6, 22 and 23. -/
def Obligations.PeriodEndEmitsOnePulse : Prop :=
  (∀ (d : Drive) (g : Period), d.generator = some g →
    d.dirPin = some (match g.direction with
      | .opening => true
      | .closing => false))
  ∧ ∀ (s : State) (g : Period) (stepped : Word32) (exact : Int), s.power = .running →
    s.drive.generator = some g →
    stepped = s.drive.commanded + BitVec.ofInt 32
      (match g.direction with | .opening => s.drive.config.step | .closing => -s.drive.config.step) →
    exact = s.drive.commanded.toInt
      + (match g.direction with | .opening => s.drive.config.step | .closing => -s.drive.config.step) →
    ((s.drive.referenced = false ∨ (s.drive.config.lower.toInt ≤ exact ∧ exact ≤ s.drive.config.upper.toInt)) →
      |(stepped - s.drive.encoder).toInt| ≤ s.drive.config.following →
      (∀ m ∈ s.drive.move, ∃ d, m.kind = .jog d)
        ∨ (∀ m ∈ s.drive.move, m.target ≠ s.drive.commanded ∧ m.target ≠ stepped) →
      ∃ d : Direction, exec .periodEnd s = .next { s with drive := { s.drive with
          commanded := stepped, buffer := none, generator := some ⟨s.drive.buffer.getD g.ticks, 0, d⟩ } }
        ∧ (s.drive.source = .sequencer → d = if 0 ≤ s.drive.velocity then .opening else .closing)
        ∧ (s.drive.source = .move → ∀ m j, s.drive.move = some m → m.kind = .jog j → d = j)
        ∧ (s.drive.source = .move → ∀ m, s.drive.move = some m → m.kind = .moveTo ∨ m.kind = .moveBy →
            d = if 0 ≤ (m.target - stepped).toInt then .opening else .closing))
    ∧ (s.drive.referenced = true → exact < s.drive.config.lower.toInt ∨ s.drive.config.upper.toInt < exact →
      (∀ m, s.drive.move = some m → (∃ j, m.kind = .jog j) ∨ m.target ≠ s.drive.commanded →
        s.drive.source = .move →
        ∃ t : State, exec .periodEnd s = .next t
          ∧ t = { s with ports := t.ports, drive := { s.drive with
              generator := none, buffer := none, velocity := 0, source := .none, move := none
              lastOutcome := some ⟨m.number, m.kind, some .limit, s.drive.commanded, s.drive.encoder⟩ } }
          ∧ (t.ports.get m.issuer).notices = withNotice (s.ports.get m.issuer).notices .moveStopped)
      ∧ (s.drive.move = none → s.drive.source = .sequencer → ∀ stopped : State,
        stopped = { s with drive := { s.drive with generator := none, buffer := none, velocity := 0 } } →
        (s.seq.state.underTest = true →
          exec .periodEnd s = .next (stopped.enterEnding .aborted (some .travelLimit)).testEnding)
        ∧ (s.seq.state = .ending →
          exec .periodEnd s = .next
            { stopped with seq := { s.seq with note := s.seq.note.or (some .travelLimit) } }.testEnding)
        ∧ (s.seq.state = .idle ∨ s.seq.state = .armed → exec .periodEnd s = .next stopped)))
    ∧ (∀ m, s.drive.move = some m → m.kind = .moveTo ∨ m.kind = .moveBy → m.target = stepped →
        s.drive.commanded ≠ stepped →
        (s.drive.referenced = false ∨ (s.drive.config.lower.toInt ≤ exact ∧ exact ≤ s.drive.config.upper.toInt)) →
        |(stepped - s.drive.encoder).toInt| ≤ s.drive.config.following →
      (s.meter.rest = false →
        exec .periodEnd s = .next { s with drive := { s.drive with
          commanded := stepped, generator := none, buffer := none, velocity := 0, source := .move
          move := some { m with phase := .settling } } })
      ∧ (s.meter.rest = true →
        exec .periodEnd s = .next ({ s with drive := { s.drive with
          commanded := stepped, generator := none, buffer := none, velocity := 0, source := .none, move := none
          lastOutcome := some ⟨m.number, m.kind, none, stepped, s.drive.encoder⟩ } }.addNotice m.issuer .moveDone))
      ∧ (∀ t : State, t = { s with meter := { s.meter with rest := true }, drive := { s.drive with
            commanded := stepped, generator := none, buffer := none, velocity := 0, source := .move
            move := some { m with phase := .settling } } } →
          exec .moveCompletion t = .next ({ t with drive := { t.drive with
            move := none, source := .none
            lastOutcome := some ⟨m.number, m.kind, none, stepped, s.drive.encoder⟩ } }.addNotice m.issuer
              .moveDone)))

/-! ## The speed meter -/

/-- The encoder's samples and the meter's measurements (R148, R161 to R166), the following error within its limit and
no report of overspeed due. A sample in which one channel has changed is a count event, opening while ENCA leads ENCB,
and one with neither or both changed is none: a count moves the encoder position by one and counts in an open gate,
begins or turns an interval, or completes it; a gate closes on its last boundary; a timeout at 65,535 µs is a
measurement of speed 0, and does not happen below. A change of the rest flag ends a move in SETTLING DONE and tests
the wait of ENDING (R165 step 5, R155, R48; `testEnding` in EndingWaitsThenCompletes). Where the manual leaves a
choice it is the model's, log entries 6, 23, 24 and 39. -/
def Obligations.EncoderCountsAreMeasured : Prop :=
  (∀ (s : State) (a b : Bool), s.power = .running →
    (a = s.drive.channels.encA ↔ b = s.drive.channels.encB) →
    exec (.encoderCount ⟨a, b⟩) s = .next { s with drive := { s.drive with channels := ⟨a, b⟩ } })
  ∧ ∀ (s : State) (a b : Bool) (dir : Direction) (moved : Word32) (drive : Drive), s.power = .running →
    ((a ≠ s.drive.channels.encA ∧ b = s.drive.channels.encB ∧ dir = if a = b then .closing else .opening)
      ∨ (a = s.drive.channels.encA ∧ b ≠ s.drive.channels.encB ∧ dir = if a = b then .opening else .closing)) →
    moved = s.drive.encoder + (match dir with | .opening => 1 | .closing => -1) →
    |(s.drive.commanded - moved).toInt| ≤ s.drive.config.following →
    drive = { s.drive with channels := ⟨a, b⟩, encoder := moved } →
    (s.meter.inFlight = .none ∨ s.meter.inFlight = .gateWaiting →
      exec (.encoderCount ⟨a, b⟩) s = .next { s with drive := drive })
    ∧ (∀ g e, s.meter.inFlight = .gateOpen g e →
      exec (.encoderCount ⟨a, b⟩) s = .next { s with
        drive := drive
        meter := { s.meter with counter := max (-32767) (min 32767
          (s.meter.counter + (match dir with | .opening => 1 | .closing => -1))) } })
    ∧ (s.meter.inFlight = .intervalWaiting ∨ (∃ d, s.meter.inFlight = .intervalTiming d ∧ d ≠ dir) →
      exec (.encoderCount ⟨a, b⟩) s = .next { s with
        drive := drive
        meter := { s.meter with inFlight := .intervalTiming dir, counter := 0 } })
    ∧ ((s.meter.inFlight = .none ∧ s.meter.method = .gated) ∨ s.meter.inFlight = .gateWaiting →
      exec .gateBoundary s = .next { s with
        meter := { s.meter with inFlight := .gateOpen s.meter.config.gate 0, counter := 0 } })
    ∧ (∀ g e, s.meter.inFlight = .gateOpen g e → e + 1 < g →
      exec .gateBoundary s = .next { s with meter := { s.meter with inFlight := .gateOpen g (e + 1) } })
    ∧ (∀ (v : Int) (rest : Bool) (low high : Nat),
        (|v| < s.meter.config.restSpeed → low = min (s.meter.lowRun + 1) 2
          ∧ (rest = true ↔ s.meter.rest = true ∨ low = 2)) →
        (s.meter.config.restSpeed ≤ |v| → low = 0 ∧ rest = false) →
        high = (if 5 * |s.drive.velocity| + 200000 < 4 * |v| then s.meter.overspeedCount + 1 else 0) → high < 3 →
      ∀ measured ended : State, (rest = s.meter.rest → ended = measured) →
        (rest ≠ s.meter.rest → ended = measured.completeSettledMove.testEnding) →
      (∀ g e, s.meter.inFlight = .gateOpen g e → g ≤ e + 1 → v = roundDiv (s.meter.counter * 100000) g →
        measured = { s with meter := { s.meter with
          lastSpeed := v, last := some (.gated s.meter.counter g), rest := rest, lowRun := low
          overspeedCount := high, counter := 0
          method := if 4 ≤ |s.meter.counter| then .gated else .interval
          inFlight := if 4 ≤ |s.meter.counter| then .gateOpen s.meter.config.gate 0 else .intervalWaiting } } →
        exec .gateBoundary s = .next ended)
      ∧ (∀ i : Nat, s.meter.inFlight = .intervalTiming dir → (i : Int) = max 1 s.meter.counter → 0 ≤ s.meter.counter →
          v = (match dir with | .opening => 1 | .closing => -1) * roundDiv 100000000 i →
        measured = { s with
          drive := drive
          meter := { s.meter with
            lastSpeed := v, last := some (.interval i), rest := rest, lowRun := low, overspeedCount := high
            counter := 0
            method := if i < 250 then .gated else .interval
            inFlight := if i < 250 then .gateWaiting else .intervalTiming dir } } →
        exec (.encoderCount ⟨a, b⟩) s = .next ended))
    ∧ (s.meter.inFlight = .intervalWaiting ∨ (∃ d, s.meter.inFlight = .intervalTiming d) →
      (65535 ≤ s.meter.counter → ∀ measured : State, measured = { s with meter := { s.meter with
          lastSpeed := 0, last := some .timeout, rest := true, lowRun := 2, overspeedCount := 0, counter := 0
          method := .interval, inFlight := .intervalWaiting } } →
        (s.meter.rest = true → exec .intervalTimeout s = .next measured)
        ∧ (s.meter.rest = false → exec .intervalTimeout s = .next measured.completeSettledMove.testEnding))
      ∧ (s.meter.counter < 65535 → exec .intervalTimeout s = .next s))
    ∧ (∀ m, s.drive.move = some m → m.phase = .settling → s.meter.rest = true →
      s.completeSettledMove = { s with drive := { s.drive with
        move := none, source := .none
        lastOutcome := some ⟨m.number, m.kind, none, s.drive.commanded, s.drive.encoder⟩ } }.addNotice m.issuer
          .moveDone)
    ∧ (s.meter.rest = false ∨ (∀ m ∈ s.drive.move, m.phase = .travelling) → s.completeSettledMove = s)

/-- The faults of the drive (R157, R167): OVERSPEED at a count of 3, by its row and by the completion of a measurement
that brings the count to 3, and FOLLOWING_ERROR on a count event or a pulse that takes the error past its limit. Each
stops the generator, writes the last drive fault, ends a move with cause FAULT and revokes the holder, the following
error alone taking up the commanded position: a port's loss grants the front of the list, in ARMED also SEQUENCER by
the grant of R143 (`grantFront`); SEQUENCER's disarms with the pause in ARMED (R31), aborts a test and is a note in
ENDING (R46), its grants held back; without a holder nothing is revoked. WRITE_SPEED_CONFIG (R168) restarts the
measurement in flight when the gate length changes. Where the manual leaves a choice it is the model's, log entries 5,
6, 21, 22, 23 and 24. -/
def Obligations.DriveFaultsAndSpeedConfig : Prop :=
  (∀ s : State, s.power = .running →
    (s.meter.overspeedCount < 3 → exec .overspeed s = .next s)
    ∧ (3 ≤ s.meter.overspeedCount →
      exec .overspeed s = .next ({ s with meter := { s.meter with overspeedCount := 0 } }.driveFault .overspeed))
    ∧ (∀ (v : Int) (g e : Nat), s.seq.state ≠ .ending → (∀ m ∈ s.drive.move, m.phase = .travelling) →
        s.meter.inFlight = .gateOpen g e → g ≤ e + 1 → v = roundDiv (s.meter.counter * 100000) g →
        5 * |s.drive.velocity| + 200000 < 4 * |v| → s.meter.config.restSpeed ≤ |v| → 4 ≤ |s.meter.counter| →
        2 ≤ s.meter.overspeedCount →
      exec .gateBoundary s = .next ({ s with meter := { s.meter with
        lastSpeed := v, last := some (.gated s.meter.counter g), rest := false, lowRun := 0, overspeedCount := 0
        counter := 0, method := .gated, inFlight := .gateOpen s.meter.config.gate 0 } }.driveFault .overspeed))
    ∧ (∀ (a b : Bool) (dir : Direction) (moved : Word32),
        ((a ≠ s.drive.channels.encA ∧ b = s.drive.channels.encB ∧ dir = if a = b then .closing else .opening)
          ∨ (a = s.drive.channels.encA ∧ b ≠ s.drive.channels.encB ∧ dir = if a = b then .opening else .closing)) →
        moved = s.drive.encoder + (match dir with | .opening => 1 | .closing => -1) →
        s.drive.config.following < |(s.drive.commanded - moved).toInt| →
        s.meter.inFlight = .none ∨ s.meter.inFlight = .gateWaiting →
      exec (.encoderCount ⟨a, b⟩) s = .next ({ s with drive := { s.drive with
        channels := ⟨a, b⟩, encoder := moved } }.driveFault .followingError))
    ∧ (∀ (g : Period) (stepped : Word32) (exact : Int), s.drive.generator = some g →
        stepped = s.drive.commanded + BitVec.ofInt 32
          (match g.direction with | .opening => s.drive.config.step | .closing => -s.drive.config.step) →
        exact = s.drive.commanded.toInt
          + (match g.direction with | .opening => s.drive.config.step | .closing => -s.drive.config.step) →
        (s.drive.referenced = false ∨ (s.drive.config.lower.toInt ≤ exact ∧ exact ≤ s.drive.config.upper.toInt)) →
        (∀ m ∈ s.drive.move, (∃ d, m.kind = .jog d) ∨ m.target ≠ s.drive.commanded) →
        s.drive.config.following < |(stepped - s.drive.encoder).toInt| →
      exec .periodEnd s = .next ({ s with drive := { s.drive with commanded := stepped } }.driveFault
        .followingError)))
  ∧ (∀ (s t : State) (kind : DriveFaultKind) (commanded : Word32) (stopped : Drive), t = s.driveFault kind →
    commanded = (if kind = .followingError then s.drive.encoder else s.drive.commanded) →
    stopped = { s.drive with
      generator := none, buffer := none, velocity := 0, commanded := commanded
      referenced := s.drive.referenced && (kind == .overspeed || decide (
        s.drive.config.lower.toInt ≤ s.drive.encoder.toInt ∧ s.drive.encoder.toInt ≤ s.drive.config.upper.toInt))
      lastFault := some ⟨kind, s.drive.commanded, s.drive.encoder⟩
      source := if s.arbiter.holder.isSome ∨ s.drive.move.isSome then .none else s.drive.source
      move := none
      lastOutcome := (s.drive.move.map fun m =>
        (⟨m.number, m.kind, some .fault, commanded, s.drive.encoder⟩ : MoveOutcome)).or s.drive.lastOutcome } →
    (s.seq.state ≠ .ending ∨ s.meter.rest = false → ∀ m ∈ s.drive.move,
      (t.ports.get m.issuer).hasNotice .moveStopped = true)
    ∧ (∀ q p, s.arbiter.holder = some q → q.port = some p → s.seq.state.inTest = false →
        s.arbiter.waiting.head? ≠ some .sequencer →
      t = { s with
        ports := t.ports, drive := stopped, arbiter := ⟨s.arbiter.waiting.head?, s.arbiter.waiting.tail⟩ }
      ∧ (t.ports.get p).hasNotice .authorityRevoked = true
      ∧ ∀ r ∈ s.arbiter.waiting.head?.bind Party.port, (t.ports.get r).hasNotice .authorityGranted = true)
    ∧ (∀ q p rest, s.arbiter.holder = some q → q.port = some p → s.seq.state = .armed →
        s.arbiter.waiting = .sequencer :: rest →
      ∃ u : State, t = u.grantFront
        ∧ u = { s with ports := u.ports, drive := stopped, arbiter := ⟨none, s.arbiter.waiting⟩ }
        ∧ (u.ports.get p).hasNotice .authorityRevoked = true)
    ∧ (s.arbiter.holder = none → s.arbiter.waiting = [] ∨ s.seq.state.inTest = true → s.seq.state ≠ .ending →
      t = { s with ports := t.ports, drive := stopped })
    ∧ (s.arbiter.holder = some .sequencer → s.drive.move = none →
      (s.seq.state = .armed → s.arbiterLaw → ∀ e rest, s.queue = e :: rest →
        t = { s with
          ports := t.ports, drive := stopped, arbiter := ⟨s.arbiter.waiting.head?, s.arbiter.waiting.tail⟩
          queue := { e with state := .waiting } :: rest
          results := { s.results with reserved := false }
          seq := { s.seq with
            state := .idle, openSeen := false, autoArmPause := s.seq.autoArm || s.seq.autoArmPause } })
      ∧ (s.seq.state.underTest = true → s.meter.rest = false →
        t = { s with
          ports := t.ports, link := t.link, drive := stopped, arbiter := ⟨none, s.arbiter.waiting⟩
          eval := { s.eval with detectors := false }
          seq := { s.seq with
            state := .ending, outcome := some .aborted, endingTimer := some 0
            cause := some (match kind with
              | .followingError => .followingError
              | .overspeed => .overspeed) } })
      ∧ (s.seq.state = .ending → s.meter.rest = false →
        t = { s with
          ports := t.ports, drive := stopped, arbiter := ⟨none, s.arbiter.waiting⟩
          seq := { s.seq with note := s.seq.note.or (some (match kind with
            | .followingError => .followingError
            | .overspeed => .overspeed)) } })))
  ∧ (∀ (s : State) (gate : Octet) (restSpeed : Word32), s.takes .console = true →
    (s.seq.state ≠ .idle →
      exec (.writeSpeedConfig .console gate restSpeed) s
        = .next (s.answer .console .writeSpeedConfig .wrongState []))
    ∧ (s.seq.state = .idle → s.config.inFlight.isSome = true →
      exec (.writeSpeedConfig .console gate restSpeed) s = .next (s.answer .console .writeSpeedConfig .busy []))
    ∧ (s.seq.state = .idle → s.config.inFlight = none →
      (gate ≠ 1 → gate ≠ 4 → gate ≠ 8 →
        exec (.writeSpeedConfig .console gate restSpeed) s
          = .next (s.answer .console .writeSpeedConfig .invalidField [1]))
      ∧ (gate = 1 ∨ gate = 4 ∨ gate = 8 →
        (restSpeed.toInt < 100 ∨ 50000 < restSpeed.toInt →
          exec (.writeSpeedConfig .console gate restSpeed) s
            = .next (s.answer .console .writeSpeedConfig .invalidField [2]))
        ∧ (100 ≤ restSpeed.toInt → restSpeed.toInt ≤ 50000 →
          (gate.toNat = s.meter.config.gate →
            exec (.writeSpeedConfig .console gate restSpeed) s = .next
              ({ s with meter := { s.meter with config := ⟨gate.toNat, restSpeed.toInt⟩ } }.answer .console
                .writeSpeedConfig .ok []))
          ∧ (gate.toNat ≠ s.meter.config.gate →
            exec (.writeSpeedConfig .console gate restSpeed) s = .next
              ({ s with meter := { s.meter with
                  config := ⟨gate.toNat, restSpeed.toInt⟩, counter := 0
                  inFlight := if s.meter.method = MeterMethod.gated then .gateWaiting else .intervalWaiting } }.answer
                .console .writeSpeedConfig .ok []))))))

/-! ## The frame inputs -/

/-- The filters and the grips (R8, R33, R171, R172, R176, R177, R44): a sample of a pin reads FRAME_STOP ACTIVE when low
and GRIPS_CLOSED ACTIVE when high; one at the accepted level drops the timing and any other begins it or lets it go
on; no level is accepted before its filter has timed 100 µs (1,000 ticks) or 2 ms (20,000 ticks); a closing edge
captures the encoder position into a head that is not IN_TEST, and in ARMED then starts the test when the start
conditions hold; an opening edge acts by the sequencer's state. Where the manual leaves a choice it is the model's,
log entries 5, 6 and 34. -/
def Obligations.PinsAndGripsActByRule : Prop :=
  ∀ s : State, s.power = .running →
    (∀ high : Bool,
      exec (.inputPinChange .frameStop high) s = .next { s with inputs := { s.inputs with
        frameStopFilter :=
          if s.inputs.frameStop = !high then none else some (s.inputs.frameStopFilter.getD 0) } }
      ∧ exec (.inputPinChange .gripsClosed high) s = .next { s with inputs := { s.inputs with
        gripsFilter := if s.inputs.grips = high then none else some (s.inputs.gripsFilter.getD 0) } })
    ∧ ((∀ n, s.inputs.frameStopFilter = some n → n < 1000) →
      exec .frameStopAcceptedActive s = .next s ∧ exec .frameStopAcceptedInactive s = .next s)
    ∧ ((∀ n, s.inputs.gripsFilter = some n → n < 20000) →
      exec .gripsClosingEdge s = .next s ∧ exec .gripsOpeningEdge s = .next s)
    ∧ (∀ n, s.inputs.gripsFilter = some n → 20000 ≤ n → s.inputs.grips = false → ∀ closed : State,
      closed = { s with inputs := { s.inputs with grips := true, gripsFilter := none } } →
      (s.queue = [] → s.seq.state ≠ .armed → exec .gripsClosingEdge s = .next closed)
      ∧ (∀ e rest, s.queue = e :: rest →
        (e.state = .inTest → s.seq.state ≠ .armed → exec .gripsClosingEdge s = .next closed)
        ∧ (e.state ≠ .inTest → ∀ captured : State,
          captured = { closed with queue := { e with capture := some s.drive.encoder } :: rest } →
          (s.seq.state ≠ .armed → exec .gripsClosingEdge s = .next captured)
          ∧ (s.seq.state = .armed → ∀ b, s.programAt e.slot = some b →
            (b.startMode = .grips → s.arbiter.holder = some .sequencer → s.seq.openSeen = true →
              s.load.tare = none → s.load.referenceFault = false →
              exec .gripsClosingEdge s = .next captured.startTest)
            ∧ (b.startMode ≠ .grips ∨ s.arbiter.holder ≠ some .sequencer ∨ s.seq.openSeen = false
                ∨ s.load.tare.isSome = true ∨ s.load.referenceFault = true →
              exec .gripsClosingEdge s = .next captured)))))
    ∧ (∀ n, s.inputs.gripsFilter = some n → 20000 ≤ n → s.inputs.grips = true → ∀ opened : State,
      opened = { s with inputs := { s.inputs with grips := false, gripsFilter := none } } →
      (s.seq.state = .idle ∨ s.seq.state = .hold → exec .gripsOpeningEdge s = .next opened)
      ∧ (s.seq.state = .armed →
        exec .gripsOpeningEdge s = .next { opened with seq := { s.seq with openSeen := true } })
      ∧ (s.seq.state = .preload ∨ s.seq.state = .attach →
        exec .gripsOpeningEdge s = .next (opened.enterEnding .aborted (some .gripsOpened)).testEnding)
      ∧ (s.seq.state = .run → ∀ b, s.headProgram = some b → s.arbiter.holder = some .sequencer →
          0 ≤ s.drive.config.vmax →
        (b.gripOpen = .hold → exec .gripsOpeningEdge s = .next { opened with
          seq := { s.seq with state := .hold, holds := min (s.seq.holds + 1) 65535 }
          drive := { s.drive with generator := none, buffer := none, velocity := 0, source := .sequencer } })
        ∧ (b.gripOpen = .abort →
          exec .gripsOpeningEdge s = .next (opened.enterEnding .aborted (some .gripsOpened)).testEnding))
      ∧ (s.seq.state = .ending →
        exec .gripsOpeningEdge s = .next { opened with
          seq := { s.seq with note := s.seq.note.or (some .gripsOpened) } }))

/-- The frame-stop latch (R173, R174), its level accepted after 100 µs (R172): its setting stops the drive, ends a move
FRAME_STOP, revokes the holder, denies the waiters, disarms or aborts, and tells all three ports; while it is set
another accepted level changes the level alone; CLEAR_FRAME_STOP clears it once the level is INACTIVE, and starts
nothing but auto-arm's examination. Where the manual leaves a choice it is the model's, log entries 5, 6, 12 and
21. -/
def Obligations.FrameStopSetsAndClears : Prop :=
  ∀ s : State,
    (s.power = .running → (∃ n, s.inputs.frameStopFilter = some n ∧ 1000 ≤ n) →
      (s.inputs.frameStop = false → s.inputs.latch = false →
        ∃ t : State, exec .frameStopAcceptedActive s = .next t
          ∧ t.inputs = { s.inputs with frameStop := true, frameStopFilter := none, latch := true }
          ∧ t.arbiter = ⟨none, []⟩
          ∧ t.drive = { s.drive with
              generator := none, buffer := none, velocity := 0, source := .none, move := none
              lastOutcome := (s.drive.move.map fun m =>
                (⟨m.number, m.kind, some .frameStop, s.drive.commanded, s.drive.encoder⟩ : MoveOutcome)).or
                  s.drive.lastOutcome }
          ∧ t.load = s.load ∧ t.meter = s.meter ∧ t.config = s.config
          ∧ (∀ p, (t.ports.get p).hasNotice .frameStop = true)
          ∧ (∀ q p, Party.port q = some p →
              (s.arbiter.holder = some q → (t.ports.get p).hasNotice .authorityRevoked = true)
              ∧ (q ∈ s.arbiter.waiting → (t.ports.get p).hasNotice .authorityDenied = true))
          ∧ (s.seq.state = .idle → t.seq = s.seq ∧ t.queue = s.queue ∧ t.results = s.results)
          ∧ (s.seq.state = .armed → t.seq = { s.seq with state := .idle, openSeen := false }
              ∧ t.results = { s.results with reserved := false }
              ∧ ∀ e rest, s.queue = e :: rest → t.queue = { e with state := .waiting } :: rest)
          ∧ (s.seq.state.underTest = true → s.meter.rest = false →
              t.seq.state = .ending ∧ t.seq.outcome = some .aborted ∧ t.seq.cause = some .frameStop
                ∧ t.seq.endingTimer = some 0)
          ∧ (s.seq.state = .ending → s.meter.rest = false →
              t.seq = { s.seq with note := s.seq.note.or (some .frameStop) }))
      ∧ (s.inputs.frameStop = false → s.inputs.latch = true →
        exec .frameStopAcceptedActive s = .next { s with inputs := { s.inputs with
          frameStop := true, frameStopFilter := none } })
      ∧ (s.inputs.frameStop = true →
        exec .frameStopAcceptedInactive s = .next { s with inputs := { s.inputs with
          frameStop := false, frameStopFilter := none } }))
    ∧ (s.takes .console = true →
      (s.inputs.frameStop = true →
        exec (.clearFrameStop .console) s = .next (s.answer .console .clearFrameStop .wrongState []))
      ∧ (s.inputs.frameStop = false → s.inputs.latch = false →
        exec (.clearFrameStop .console) s = .next (s.answer .console .clearFrameStop .ok []))
      ∧ (s.inputs.frameStop = false → s.inputs.latch = true →
        ∃ t : State, exec (.clearFrameStop .console) s = .next t.examineHead
          ∧ t = { s with ports := t.ports, inputs := { s.inputs with latch := false } }
          ∧ (∀ p, (t.ports.get p).notices = withNotice (s.ports.get p).notices .frameStopCleared)
          ∧ (t.ports.get .console).pendingReply = some ⟨⟨0x68, .ok, []⟩, 500⟩))

/-! ## The configuration store, the supply and the resets -/

/-- The configuration store and the supply (R191 to R193): STORE_CONFIG copies every item of the image; the end of
the store leaves an image that passes, or, after a write fault or a loss of supply, one that fails; power-on reads
the image, a passing image's items come into force and a failing one gives the defaults, and the part stands as
after power-on. Where the manual leaves a choice it is the model's, log entries 4, 26, 27 and 39. -/
def Obligations.ConfigurationSurvivesTheSupply : Prop :=
  ∀ s : State,
    (s.takes .console = true →
      (s.seq.state ≠ .idle →
        exec (.storeConfig .console) s = .next (s.answer .console .storeConfig .wrongState []))
      ∧ (s.seq.state = .idle →
        (s.config.inFlight.isSome = true →
          exec (.storeConfig .console) s = .next (s.answer .console .storeConfig .busy []))
        ∧ (s.config.inFlight = none →
          exec (.storeConfig .console) s = .next
            ({ s with config := { s.config with inFlight := some s.configItems } }.answer .console .storeConfig
              .accepted []))))
    ∧ (s.power = .running → ∀ items, s.config.inFlight = some items →
      (∃ t : State, exec (.configStoreCompletion true) s = .next t
        ∧ t = { s with ports := t.ports, config := ⟨⟨items, crc16 (imageOctets items)⟩, none⟩ }
        ∧ t.config.image.passes = true
        ∧ (t.ports.get .console).notices = withNotice (s.ports.get .console).notices .storeDone)
      ∧ (∃ t : State, exec (.configStoreCompletion false) s = .next t
        ∧ t = { s with ports := t.ports, config := { image := t.config.image, inFlight := none } }
        ∧ t.config.image.passes = false
        ∧ (t.ports.get .console).notices = withNotice (s.ports.get .console).notices .storeFailed))
    ∧ (∀ (c : Instr) (power : Power), (c = .lossOfSupply ∧ power = .off) ∨ (c = .powerOn ∧ power = .loading) →
      ∃ t : State, exec c s = .next t ∧ t.power = power
        ∧ t.config.inFlight = none
        ∧ (s.config.inFlight = none → t.config.image = s.config.image)
        ∧ (s.config.inFlight.isSome = true → t.config.image.passes = false)
        ∧ (∀ p, t.ports.get p = ⟨[], none, 0, none⟩)
        ∧ t.queue = [] ∧ t.results.records = [] ∧ t.results.reserved = false ∧ t.arbiter = ⟨none, []⟩)
    ∧ (s.power = .loading →
      ∃ (t : State) (items : ConfigItems), exec .configImageLoadDone s = .next t
        ∧ items = (if s.config.image.passes then s.config.image.items else ConfigItems.defaults)
        ∧ t = { State.reset with
            ports := t.ports
            programs := items.programs.map fun b => ⟨b, 0⟩
            results := ⟨[], false, items.readers⟩
            drive := { State.reset.drive with config := items.drive }
            meter := { State.reset.meter with config := items.speed }
            load := { State.reset.load with tables := items.tables, reference := items.reference }
            strain := { State.reset.strain with frame := items.frame }
            seq := { State.reset.seq with autoArm := items.autoArm }
            config := s.config, freeCount := s.freeCount, pending := s.pending }
        ∧ ∀ p, (t.ports.get p).notices = (if s.config.image.passes then 0x1 else 0x5)
            ∧ (t.ports.get p).pendingReply = none)

/-- A controller reset, by the pin or by the request (R190 with R10, R23, R50, R122, R142, R146, R159, R170): what each
block keeps and gives up, the record of the test in progress with each field from the entry and from the values the
blocks held before they are cleared (R18, R23), and the notices of the test's end and of the reset; then auto-arm
examines the head. The channels' last sample is kept. Where the manual leaves a choice it is the model's, log
entries 5, 21, 24 and 39. -/
def Obligations.ControllerResetKeepsAndClears : Prop :=
  ∀ s : State,
    (s.takes .console = true →
      exec (.resetController .console) s = .next (s.answer .console .resetController .ok []).controllerReset)
    ∧ (s.power = .running → exec .resetPin s = .next s.controllerReset)
    ∧ ∃ t : State, s.controllerReset = t.examineHead
        ∧ t.seq = Sequencer.cleared s.seq.autoArm ∧ t.strain = StrainUnit.cleared s.strain.frame
        ∧ t.rate = RateController.cleared ∧ t.eval = Evaluator.cleared
        ∧ t.arbiter = ⟨none, []⟩
        ∧ t.drive = { s.drive with
            generator := none, buffer := none, velocity := 0, source := .none, move := none
            lastOutcome := (s.drive.move.map fun m =>
              (⟨m.number, m.kind, some .released, s.drive.commanded, s.drive.encoder⟩ : MoveOutcome)).or
                s.drive.lastOutcome }
        ∧ t.meter = { s.meter with
            overspeedCount := 0, counter := 0
            inFlight := if s.meter.method = MeterMethod.gated then .gateWaiting else .intervalWaiting }
        ∧ (s.load.tare = none → t.load = s.load)
        ∧ (∀ w, s.load.tare = some w → t.load.tare = none ∧ t.load.offsets = s.load.offsets
            ∧ t.load.activeRange = w.returnRange)
        ∧ t.inputs = s.inputs ∧ t.config = s.config ∧ t.power = s.power
        ∧ (s.link.state = .ready ∨ s.link.state = .asleep → t.link.state = s.link.state
            ∧ t.link.shifter = s.link.shifter ∧ t.link.attachPending = false ∧ t.link.operationTimer = none)
        ∧ (s.link.state ≠ .ready → s.link.state ≠ .asleep → t.link.state = .lost ∧ t.link.lock = none
            ∧ (t.link.armsUnknown = true ↔ s.link.armsUnknown = true ∨ s.link.state = .closing
                ∨ s.link.state = .streaming ∨ s.link.state = .opening))
        ∧ (∀ p, (t.ports.get p).hasNotice .controllerReset = true
            ∧ (t.ports.get p).pendingReply = (s.ports.get p).pendingReply
            ∧ (t.ports.get p).clockingOut = (s.ports.get p).clockingOut)
        ∧ (∀ q p, Party.port q = some p →
            (s.arbiter.holder = some q → (t.ports.get p).hasNotice .authorityRevoked = true)
            ∧ (q ∈ s.arbiter.waiting → (t.ports.get p).hasNotice .authorityDenied = true))
        ∧ (s.seq.state = .idle → t.queue = s.queue ∧ t.results = s.results ∧ t.programs = s.programs)
        ∧ (∀ e rest, s.queue = e :: rest →
            (s.seq.state = .armed → t.queue = { e with state := .waiting } :: rest
              ∧ t.results = { s.results with reserved := false } ∧ t.programs = s.programs)
            ∧ (s.seq.state.inTest = true → t.queue = rest
              ∧ (∀ q, s.programs[e.slot]? = some q →
                  t.programs = s.programs.set e.slot { q with inUse := q.inUse - 1 })
              ∧ (t.ports.get .console).hasNotice .testEnded = true
              ∧ (t.ports.get .console).hasNotice .queueChanged = true
              ∧ (t.ports.get .cell).hasNotice .specimenDone = true
              ∧ (∀ p, s.results.readers.mem p = true → (t.ports.get p).hasNotice .resultReady = true)
              ∧ ∃ r : ResultRecord, t.results = { s.results with
                  records := s.results.records ++ [r], reserved := false }
                ∧ r.id = e.id ∧ r.required = s.results.readers
                ∧ (s.seq.state ≠ .ending → r.outcome = .aborted ∧ r.cause = some .controllerReset
                    ∧ r.note = s.seq.note)
                ∧ (s.seq.state = .ending → r.cause = s.seq.cause
                    ∧ (∀ o, s.seq.outcome = some o → r.outcome = o)
                    ∧ r.note = s.seq.note.or (some .controllerReset))
                ∧ ∀ (b : ProgramBody) (outcome : TestOutcome) (parallel k : Int), s.programAt e.slot = some b →
                  s.strain.parallel = some parallel →
                  (s.seq.state = .ending → s.seq.outcome = some outcome) →
                  (s.seq.state ≠ .ending → outcome = .aborted) →
                  k = (match s.eval.modulus with
                    | some m => m.e
                    | none => b.nominal) →
                  r = { id := e.id, slot := e.slot, outcome := outcome
                        cause := if s.seq.state = .ending then s.seq.cause else some .controllerReset
                        note := if s.seq.state = .ending then s.seq.note.or (some .controllerReset) else s.seq.note
                        area := e.area, gauge := e.gauge, parallel := parallel, modulus := s.eval.modulus
                        reh := s.eval.reh.map fun m => m.sigma
                        rel := s.eval.rel, ae := s.eval.ae, rp := s.eval.rp
                        fmRm := s.eval.maximum.map fun m => (m.force, roundDiv (m.force * 10000) e.area)
                        ag := s.eval.maximum.map fun m => m.epsilon - roundDiv (m.sigma * 10000) k
                        elongation :=
                          if outcome = .complete then
                            s.eval.breakSample.map fun m => m.epsilon - roundDiv (m.sigma * 10000) k
                          else none
                        source := s.strain.source, rangeSwitches := s.seq.rangeSwitches, holds := s.seq.holds
                        flags := ⟨s.seq.extLost, s.seq.extAttachFailed, s.seq.extRangeEnd, s.eval.extAtBreak,
                          s.strain.lengthSubstituted, s.eval.modulusSubstituted, s.eval.yieldNotFound⟩
                        duration := s.seq.duration, required := s.results.readers
                        takenBy := ⟨false, false, false⟩ }))

/-- What the part holds after power-on: every item of the manual's tables (R10, R23, R50, R51, R65, R81, R122, R142,
R159, R170, R179, R193), and every item of R191 at its default (R12, R20, R26, R67, R105, R107, R152, R168), in force
because the image of a new part fails its check by the model's choice (log entry 3). Of the values beside them, the
channels' last sample (log entry 39), the wake attempt (log entry 40) and the model's own items (log entry 9) are the
model's. The laws of the device hold of it. -/
def Obligations.ResetHoldsThePowerOnValues : Prop :=
  State.reset.power = .running ∧ State.reset.queue = []
  ∧ State.reset.programs = List.replicate 16 ⟨none, 0⟩
  ∧ State.reset.results = ⟨[], false, ⟨true, false, true⟩⟩
  ∧ State.reset.arbiter = ⟨none, []⟩
  ∧ State.reset.drive =
      { channels := ⟨false, false⟩, encoder := 0, commanded := 0, referenced := false, generator := none
        buffer := none, velocity := 0, source := .none, move := none, moveCounter := 0, lastOutcome := none
        lastFault := none
        config :=
          { step := 1, vmax := 1000000, jogLimit := 200000, lower := 0, upper := 15000000, following := 20000 } }
  ∧ State.reset.meter =
      { method := .gated, inFlight := .none, counter := 0, lastSpeed := 0, last := none, rest := false
        lowRun := 0, overspeedCount := 0, config := ⟨4, 2000⟩ }
  ∧ State.reset.load =
      { slotNumber := 0, activeRange := 0, settling := true, tables := ⟨none, none, none, none⟩, reference := none
        offsets := ⟨0, 0, 0, 0⟩, referenceFault := false, last := ⟨some 0, true, 0⟩, tare := none }
  ∧ State.reset.link =
      { state := .asleep, armsUnknown := false, lock := none, shifter := .empty, holding := none, waiting := []
        attachPending := false, streamRequested := false, operationTimer := none, wake := none
        syncWindow := none, sleepTimer := none, recoveryTimer := none, lastSequence := none, latest := none
        staleness := 0, headReport := none, discarding := false }
  ∧ State.reset.strain =
      { area := none, parallel := none, extGauge := none, lengthSubstituted := false, p0 := none, fPre := none
        zero := none, lastUsable := none, source := none, delta := 0, handedOff := false, sigma := none
        epsilon := none, epsilonE := none, epsilonC := none, frame := ⟨0, 0⟩ }
  ∧ State.reset.seq =
      { state := .idle, autoArm := false, autoArmPause := false, openSeen := false, segment := 1
        startPosition := 0, yieldEndSeen := false, releaseSeen := false, holds := 0, rangeSwitches := 0
        duration := 0, outcome := none, cause := none, note := none, endingTimer := none, extLost := false
        extAttachFailed := false, extRangeEnd := false }
  ∧ State.reset.rate = { target := 0, mode := none, rate := 0, gain := 0, lead := 0, initPending := false }
  ∧ State.reset.eval =
      { maximum := none, modulus := none, secant1 := none, secant2 := none, search := .active, peak := none
        reh := none, plateau := .none, plateauMin := none, rel := none, ae := none, rp := none
        yieldEndRaised := false, ring := [], breakSample := none, modulusSubstituted := false
        yieldNotFound := false, extAtBreak := false, detectors := false }
  ∧ State.reset.inputs = ⟨true, none, true, false, none⟩
  ∧ State.reset.config.inFlight = none
  ∧ (∀ p, State.reset.ports.get p =
      { inputBuffer := [], pendingReply := none, notices := 0x5, clockingOut := none })
  ∧ State.reset.motionLaw ∧ State.reset.limitsLaw ∧ State.reset.testLaw ∧ State.reset.idLaw
  ∧ State.reset.inUseLaw ∧ State.reset.openingLaw ∧ State.reset.sampleLaw

/-! ## The laws of the device, kept by every step from every state that meets them -/

/-- The motion laws: at most one request of a requester waits and never one of the holder (R143), a RUNNING generator
has a holder, and the latch leaves neither a holder nor a waiter (R149, R173); and a referenced commanded position
lies within the soft limits (R151). -/
def Obligations.MotionLawsAreKept : Prop :=
  ∀ s t : State, step s = .next t → (s.motionLaw → t.motionLaw) ∧ (s.limitsLaw → t.limitsLaw)

/-- The laws of the head and of the places: the head's state follows the sequencer's and no other entry is ever ARMED
or IN_TEST (R7); records and reserved places are never more than 12, and a place is reserved exactly from ARMED to
ENDING (R17). -/
def Obligations.TestLawIsKept : Prop :=
  ∀ s t : State, s.testLaw → step s = .next t → t.testLaw

/-- The laws of the collections: no specimen ID stands twice across the queue and the result store (R3), and each
slot's in-use count is the number of entries that name it, every one naming a VALID slot (R11). -/
def Obligations.CollectionLawsAreKept : Prop :=
  ∀ s t : State, step s = .next t → (s.idLaw → t.idLaw) ∧ (s.inUseLaw → t.inUseLaw)

/-- The law of R25: from PRELOAD to ENDING the commanded velocity is never in the closing direction. -/
def Obligations.TestsNeverClose : Prop :=
  ∀ s t : State, s.openingLaw → step s = .next t → t.openingLaw

/-- The laws of a running test: one step within a test never narrows the range (R115), changes the strain source only
from absent and from EXTENSOMETER to CROSSHEAD (R77), keeps the origins (R70), never lowers Fm, and Fm is never
less than a force of the test (R83). -/
def Obligations.TestsKeepRangeSourceAndMaximum : Prop :=
  ∀ s t : State, s.testLaw → s.inUseLaw → s.sampleLaw → step s = .next t →
    t.sampleLaw ∧ (s.seq.state.inTest = true → t.seq.state.inTest = true → s.testGoesOn t)
end

