-- ==== Sys2Proof/Laws/State.lean ====
section
/-! SUPPORT. What the plainest updates of State leave as it was: one lemma an update, a conjunct a field, each by
rfl. -/

namespace Sys2Proof.Machine

@[simp] theorem State.onPort_frame (s : State) (p : Role) (f : Port → Port) :
    (s.onPort p f).power = s.power ∧ (s.onPort p f).queue = s.queue ∧ (s.onPort p f).programs = s.programs ∧
    (s.onPort p f).results = s.results ∧ (s.onPort p f).arbiter = s.arbiter ∧ (s.onPort p f).drive = s.drive ∧
    (s.onPort p f).meter = s.meter ∧ (s.onPort p f).load = s.load ∧ (s.onPort p f).link = s.link ∧
    (s.onPort p f).strain = s.strain ∧ (s.onPort p f).seq = s.seq ∧ (s.onPort p f).rate = s.rate ∧
    (s.onPort p f).eval = s.eval ∧ (s.onPort p f).inputs = s.inputs ∧ (s.onPort p f).config = s.config ∧
    (s.onPort p f).refPhase = s.refPhase ∧ (s.onPort p f).freeCount = s.freeCount ∧
    (s.onPort p f).pending = s.pending :=
  ⟨rfl, rfl, rfl, rfl, rfl, rfl, rfl, rfl, rfl, rfl, rfl, rfl, rfl, rfl, rfl, rfl, rfl, rfl⟩

@[simp] theorem State.addNotice_frame (s : State) (p : Role) (n : Notice) :
    (s.addNotice p n).power = s.power ∧ (s.addNotice p n).queue = s.queue ∧
    (s.addNotice p n).programs = s.programs ∧ (s.addNotice p n).results = s.results ∧
    (s.addNotice p n).arbiter = s.arbiter ∧ (s.addNotice p n).drive = s.drive ∧
    (s.addNotice p n).meter = s.meter ∧ (s.addNotice p n).load = s.load ∧ (s.addNotice p n).link = s.link ∧
    (s.addNotice p n).strain = s.strain ∧ (s.addNotice p n).seq = s.seq ∧ (s.addNotice p n).rate = s.rate ∧
    (s.addNotice p n).eval = s.eval ∧ (s.addNotice p n).inputs = s.inputs ∧
    (s.addNotice p n).config = s.config ∧ (s.addNotice p n).refPhase = s.refPhase ∧
    (s.addNotice p n).freeCount = s.freeCount ∧ (s.addNotice p n).pending = s.pending :=
  ⟨rfl, rfl, rfl, rfl, rfl, rfl, rfl, rfl, rfl, rfl, rfl, rfl, rfl, rfl, rfl, rfl, rfl, rfl⟩

@[simp] theorem State.addNoticeAll_frame (s : State) (n : Notice) :
    (s.addNoticeAll n).power = s.power ∧ (s.addNoticeAll n).queue = s.queue ∧
    (s.addNoticeAll n).programs = s.programs ∧ (s.addNoticeAll n).results = s.results ∧
    (s.addNoticeAll n).arbiter = s.arbiter ∧ (s.addNoticeAll n).drive = s.drive ∧
    (s.addNoticeAll n).meter = s.meter ∧ (s.addNoticeAll n).load = s.load ∧ (s.addNoticeAll n).link = s.link ∧
    (s.addNoticeAll n).strain = s.strain ∧ (s.addNoticeAll n).seq = s.seq ∧ (s.addNoticeAll n).rate = s.rate ∧
    (s.addNoticeAll n).eval = s.eval ∧ (s.addNoticeAll n).inputs = s.inputs ∧
    (s.addNoticeAll n).config = s.config ∧ (s.addNoticeAll n).refPhase = s.refPhase ∧
    (s.addNoticeAll n).freeCount = s.freeCount ∧ (s.addNoticeAll n).pending = s.pending :=
  ⟨rfl, rfl, rfl, rfl, rfl, rfl, rfl, rfl, rfl, rfl, rfl, rfl, rfl, rfl, rfl, rfl, rfl, rfl⟩

@[simp] theorem State.endTransaction_frame (s : State) (p : Role) :
    (s.endTransaction p).power = s.power ∧ (s.endTransaction p).queue = s.queue ∧
    (s.endTransaction p).programs = s.programs ∧ (s.endTransaction p).results = s.results ∧
    (s.endTransaction p).arbiter = s.arbiter ∧ (s.endTransaction p).drive = s.drive ∧
    (s.endTransaction p).meter = s.meter ∧ (s.endTransaction p).load = s.load ∧
    (s.endTransaction p).link = s.link ∧ (s.endTransaction p).strain = s.strain ∧
    (s.endTransaction p).seq = s.seq ∧ (s.endTransaction p).rate = s.rate ∧
    (s.endTransaction p).eval = s.eval ∧ (s.endTransaction p).inputs = s.inputs ∧
    (s.endTransaction p).config = s.config ∧ (s.endTransaction p).refPhase = s.refPhase ∧
    (s.endTransaction p).freeCount = s.freeCount ∧ (s.endTransaction p).pending = s.pending :=
  ⟨rfl, rfl, rfl, rfl, rfl, rfl, rfl, rfl, rfl, rfl, rfl, rfl, rfl, rfl, rfl, rfl, rfl, rfl⟩

@[simp] theorem State.answerKind_frame (s : State) (p : Role) (kind : Octet) (status : Status) (body : List Octet) :
    (s.answerKind p kind status body).power = s.power ∧ (s.answerKind p kind status body).queue = s.queue ∧
    (s.answerKind p kind status body).programs = s.programs ∧
    (s.answerKind p kind status body).results = s.results ∧
    (s.answerKind p kind status body).arbiter = s.arbiter ∧ (s.answerKind p kind status body).drive = s.drive ∧
    (s.answerKind p kind status body).meter = s.meter ∧ (s.answerKind p kind status body).load = s.load ∧
    (s.answerKind p kind status body).link = s.link ∧ (s.answerKind p kind status body).strain = s.strain ∧
    (s.answerKind p kind status body).seq = s.seq ∧ (s.answerKind p kind status body).rate = s.rate ∧
    (s.answerKind p kind status body).eval = s.eval ∧ (s.answerKind p kind status body).inputs = s.inputs ∧
    (s.answerKind p kind status body).config = s.config ∧
    (s.answerKind p kind status body).refPhase = s.refPhase ∧
    (s.answerKind p kind status body).freeCount = s.freeCount ∧
    (s.answerKind p kind status body).pending = s.pending :=
  ⟨rfl, rfl, rfl, rfl, rfl, rfl, rfl, rfl, rfl, rfl, rfl, rfl, rfl, rfl, rfl, rfl, rfl, rfl⟩

@[simp] theorem State.answer_frame (s : State) (p : Role) (k : RequestKind) (status : Status) (body : List Octet) :
    (s.answer p k status body).power = s.power ∧ (s.answer p k status body).queue = s.queue ∧
    (s.answer p k status body).programs = s.programs ∧ (s.answer p k status body).results = s.results ∧
    (s.answer p k status body).arbiter = s.arbiter ∧ (s.answer p k status body).drive = s.drive ∧
    (s.answer p k status body).meter = s.meter ∧ (s.answer p k status body).load = s.load ∧
    (s.answer p k status body).link = s.link ∧ (s.answer p k status body).strain = s.strain ∧
    (s.answer p k status body).seq = s.seq ∧ (s.answer p k status body).rate = s.rate ∧
    (s.answer p k status body).eval = s.eval ∧ (s.answer p k status body).inputs = s.inputs ∧
    (s.answer p k status body).config = s.config ∧ (s.answer p k status body).refPhase = s.refPhase ∧
    (s.answer p k status body).freeCount = s.freeCount ∧ (s.answer p k status body).pending = s.pending :=
  ⟨rfl, rfl, rfl, rfl, rfl, rfl, rfl, rfl, rfl, rfl, rfl, rfl, rfl, rfl, rfl, rfl, rfl, rfl⟩

@[simp] theorem State.refuse_frame (s : State) (p : Role) (k : RequestKind) (status : Status) :
    (s.refuse p k status).power = s.power ∧ (s.refuse p k status).queue = s.queue ∧
    (s.refuse p k status).programs = s.programs ∧ (s.refuse p k status).results = s.results ∧
    (s.refuse p k status).arbiter = s.arbiter ∧ (s.refuse p k status).drive = s.drive ∧
    (s.refuse p k status).meter = s.meter ∧ (s.refuse p k status).load = s.load ∧
    (s.refuse p k status).link = s.link ∧ (s.refuse p k status).strain = s.strain ∧
    (s.refuse p k status).seq = s.seq ∧ (s.refuse p k status).rate = s.rate ∧
    (s.refuse p k status).eval = s.eval ∧ (s.refuse p k status).inputs = s.inputs ∧
    (s.refuse p k status).config = s.config ∧ (s.refuse p k status).refPhase = s.refPhase ∧
    (s.refuse p k status).freeCount = s.freeCount ∧ (s.refuse p k status).pending = s.pending :=
  ⟨rfl, rfl, rfl, rfl, rfl, rfl, rfl, rfl, rfl, rfl, rfl, rfl, rfl, rfl, rfl, rfl, rfl, rfl⟩

@[simp] theorem State.refuseField_frame (s : State) (p : Role) (k : RequestKind) (index : Nat) :
    (s.refuseField p k index).power = s.power ∧ (s.refuseField p k index).queue = s.queue ∧
    (s.refuseField p k index).programs = s.programs ∧ (s.refuseField p k index).results = s.results ∧
    (s.refuseField p k index).arbiter = s.arbiter ∧ (s.refuseField p k index).drive = s.drive ∧
    (s.refuseField p k index).meter = s.meter ∧ (s.refuseField p k index).load = s.load ∧
    (s.refuseField p k index).link = s.link ∧ (s.refuseField p k index).strain = s.strain ∧
    (s.refuseField p k index).seq = s.seq ∧ (s.refuseField p k index).rate = s.rate ∧
    (s.refuseField p k index).eval = s.eval ∧ (s.refuseField p k index).inputs = s.inputs ∧
    (s.refuseField p k index).config = s.config ∧ (s.refuseField p k index).refPhase = s.refPhase ∧
    (s.refuseField p k index).freeCount = s.freeCount ∧ (s.refuseField p k index).pending = s.pending :=
  ⟨rfl, rfl, rfl, rfl, rfl, rfl, rfl, rfl, rfl, rfl, rfl, rfl, rfl, rfl, rfl, rfl, rfl, rfl⟩

@[simp] theorem State.refuseWith_frame (s : State) (p : Role) (k : RequestKind) (f : Status × List Octet) :
    (s.refuseWith p k f).power = s.power ∧ (s.refuseWith p k f).queue = s.queue ∧
    (s.refuseWith p k f).programs = s.programs ∧ (s.refuseWith p k f).results = s.results ∧
    (s.refuseWith p k f).arbiter = s.arbiter ∧ (s.refuseWith p k f).drive = s.drive ∧
    (s.refuseWith p k f).meter = s.meter ∧ (s.refuseWith p k f).load = s.load ∧
    (s.refuseWith p k f).link = s.link ∧ (s.refuseWith p k f).strain = s.strain ∧
    (s.refuseWith p k f).seq = s.seq ∧ (s.refuseWith p k f).rate = s.rate ∧
    (s.refuseWith p k f).eval = s.eval ∧ (s.refuseWith p k f).inputs = s.inputs ∧
    (s.refuseWith p k f).config = s.config ∧ (s.refuseWith p k f).refPhase = s.refPhase ∧
    (s.refuseWith p k f).freeCount = s.freeCount ∧ (s.refuseWith p k f).pending = s.pending :=
  ⟨rfl, rfl, rfl, rfl, rfl, rfl, rfl, rfl, rfl, rfl, rfl, rfl, rfl, rfl, rfl, rfl, rfl, rfl⟩

@[simp] theorem State.noticeTestEnd_frame (s : State) :
    (s.noticeTestEnd).power = s.power ∧ (s.noticeTestEnd).queue = s.queue ∧
    (s.noticeTestEnd).programs = s.programs ∧ (s.noticeTestEnd).results = s.results ∧
    (s.noticeTestEnd).arbiter = s.arbiter ∧ (s.noticeTestEnd).drive = s.drive ∧
    (s.noticeTestEnd).meter = s.meter ∧ (s.noticeTestEnd).load = s.load ∧ (s.noticeTestEnd).link = s.link ∧
    (s.noticeTestEnd).strain = s.strain ∧ (s.noticeTestEnd).seq = s.seq ∧ (s.noticeTestEnd).rate = s.rate ∧
    (s.noticeTestEnd).eval = s.eval ∧ (s.noticeTestEnd).inputs = s.inputs ∧
    (s.noticeTestEnd).config = s.config ∧ (s.noticeTestEnd).refPhase = s.refPhase ∧
    (s.noticeTestEnd).freeCount = s.freeCount ∧ (s.noticeTestEnd).pending = s.pending :=
  ⟨rfl, rfl, rfl, rfl, rfl, rfl, rfl, rfl, rfl, rfl, rfl, rfl, rfl, rfl, rfl, rfl, rfl, rfl⟩

@[simp] theorem State.stopGenerator_frame (s : State) :
    (s.stopGenerator).power = s.power ∧ (s.stopGenerator).ports = s.ports ∧ (s.stopGenerator).queue = s.queue ∧
    (s.stopGenerator).programs = s.programs ∧ (s.stopGenerator).results = s.results ∧
    (s.stopGenerator).arbiter = s.arbiter ∧ (s.stopGenerator).meter = s.meter ∧
    (s.stopGenerator).load = s.load ∧ (s.stopGenerator).link = s.link ∧ (s.stopGenerator).strain = s.strain ∧
    (s.stopGenerator).seq = s.seq ∧ (s.stopGenerator).rate = s.rate ∧ (s.stopGenerator).eval = s.eval ∧
    (s.stopGenerator).inputs = s.inputs ∧ (s.stopGenerator).config = s.config ∧
    (s.stopGenerator).refPhase = s.refPhase ∧ (s.stopGenerator).freeCount = s.freeCount ∧
    (s.stopGenerator).pending = s.pending :=
  ⟨rfl, rfl, rfl, rfl, rfl, rfl, rfl, rfl, rfl, rfl, rfl, rfl, rfl, rfl, rfl, rfl, rfl, rfl⟩

@[simp] theorem State.toLinkState_frame (s : State) (st : LinkState) :
    (s.toLinkState st).power = s.power ∧ (s.toLinkState st).queue = s.queue ∧
    (s.toLinkState st).programs = s.programs ∧ (s.toLinkState st).results = s.results ∧
    (s.toLinkState st).arbiter = s.arbiter ∧ (s.toLinkState st).drive = s.drive ∧
    (s.toLinkState st).meter = s.meter ∧ (s.toLinkState st).load = s.load ∧
    (s.toLinkState st).strain = s.strain ∧ (s.toLinkState st).seq = s.seq ∧ (s.toLinkState st).rate = s.rate ∧
    (s.toLinkState st).eval = s.eval ∧ (s.toLinkState st).inputs = s.inputs ∧
    (s.toLinkState st).config = s.config ∧ (s.toLinkState st).refPhase = s.refPhase ∧
    (s.toLinkState st).freeCount = s.freeCount ∧ (s.toLinkState st).pending = s.pending :=
  ⟨rfl, rfl, rfl, rfl, rfl, rfl, rfl, rfl, rfl, rfl, rfl, rfl, rfl, rfl, rfl, rfl, rfl⟩

@[simp] theorem State.enterClosing_frame (s : State) :
    (s.enterClosing).power = s.power ∧ (s.enterClosing).queue = s.queue ∧
    (s.enterClosing).programs = s.programs ∧ (s.enterClosing).results = s.results ∧
    (s.enterClosing).arbiter = s.arbiter ∧ (s.enterClosing).drive = s.drive ∧
    (s.enterClosing).meter = s.meter ∧ (s.enterClosing).load = s.load ∧ (s.enterClosing).strain = s.strain ∧
    (s.enterClosing).seq = s.seq ∧ (s.enterClosing).rate = s.rate ∧ (s.enterClosing).eval = s.eval ∧
    (s.enterClosing).inputs = s.inputs ∧ (s.enterClosing).config = s.config ∧
    (s.enterClosing).refPhase = s.refPhase ∧ (s.enterClosing).freeCount = s.freeCount ∧
    (s.enterClosing).pending = s.pending :=
  ⟨rfl, rfl, rfl, rfl, rfl, rfl, rfl, rfl, rfl, rfl, rfl, rfl, rfl, rfl, rfl, rfl, rfl⟩

@[simp] theorem State.changeInUse_frame (s : State) (slot : Nat) (f : Nat → Nat) :
    (s.changeInUse slot f).power = s.power ∧ (s.changeInUse slot f).ports = s.ports ∧
    (s.changeInUse slot f).queue = s.queue ∧ (s.changeInUse slot f).results = s.results ∧
    (s.changeInUse slot f).arbiter = s.arbiter ∧ (s.changeInUse slot f).drive = s.drive ∧
    (s.changeInUse slot f).meter = s.meter ∧ (s.changeInUse slot f).load = s.load ∧
    (s.changeInUse slot f).link = s.link ∧ (s.changeInUse slot f).strain = s.strain ∧
    (s.changeInUse slot f).seq = s.seq ∧ (s.changeInUse slot f).rate = s.rate ∧
    (s.changeInUse slot f).eval = s.eval ∧ (s.changeInUse slot f).inputs = s.inputs ∧
    (s.changeInUse slot f).config = s.config ∧ (s.changeInUse slot f).refPhase = s.refPhase ∧
    (s.changeInUse slot f).freeCount = s.freeCount ∧ (s.changeInUse slot f).pending = s.pending :=
  ⟨rfl, rfl, rfl, rfl, rfl, rfl, rfl, rfl, rfl, rfl, rfl, rfl, rfl, rfl, rfl, rfl, rfl, rfl⟩

@[simp] theorem State.clearTest_frame (s : State) :
    (s.clearTest).power = s.power ∧ (s.clearTest).ports = s.ports ∧ (s.clearTest).queue = s.queue ∧
    (s.clearTest).programs = s.programs ∧ (s.clearTest).results = s.results ∧
    (s.clearTest).arbiter = s.arbiter ∧ (s.clearTest).drive = s.drive ∧ (s.clearTest).meter = s.meter ∧
    (s.clearTest).load = s.load ∧ (s.clearTest).link = s.link ∧ (s.clearTest).seq = s.seq ∧
    (s.clearTest).inputs = s.inputs ∧ (s.clearTest).config = s.config ∧ (s.clearTest).refPhase = s.refPhase ∧
    (s.clearTest).freeCount = s.freeCount ∧ (s.clearTest).pending = s.pending :=
  ⟨rfl, rfl, rfl, rfl, rfl, rfl, rfl, rfl, rfl, rfl, rfl, rfl, rfl, rfl, rfl, rfl⟩

@[simp] theorem State.enterRun_frame (s : State) (source : StrainSource) :
    (s.enterRun source).power = s.power ∧ (s.enterRun source).ports = s.ports ∧
    (s.enterRun source).queue = s.queue ∧ (s.enterRun source).programs = s.programs ∧
    (s.enterRun source).results = s.results ∧ (s.enterRun source).arbiter = s.arbiter ∧
    (s.enterRun source).drive = s.drive ∧ (s.enterRun source).meter = s.meter ∧
    (s.enterRun source).load = s.load ∧ (s.enterRun source).link = s.link ∧ (s.enterRun source).eval = s.eval ∧
    (s.enterRun source).inputs = s.inputs ∧ (s.enterRun source).config = s.config ∧
    (s.enterRun source).refPhase = s.refPhase ∧ (s.enterRun source).freeCount = s.freeCount ∧
    (s.enterRun source).pending = s.pending :=
  ⟨rfl, rfl, rfl, rfl, rfl, rfl, rfl, rfl, rfl, rfl, rfl, rfl, rfl, rfl, rfl, rfl⟩

end Sys2Proof.Machine
end

