-- ==== Sys2Proof/Laws/Ops.lean ====
section
/-! SUPPORT. What each shared operation of Machine/Ops.lean leaves as it was: one lemma an operation, a conjunct a
field of State that it cannot change. -/

namespace Sys2Proof.Machine

@[simp] theorem State.addNoticeTo_frame (s : State) (roles : RoleSet) (n : Notice) :
    (s.addNoticeTo roles n).power = s.power ∧ (s.addNoticeTo roles n).queue = s.queue ∧
    (s.addNoticeTo roles n).programs = s.programs ∧ (s.addNoticeTo roles n).results = s.results ∧
    (s.addNoticeTo roles n).arbiter = s.arbiter ∧ (s.addNoticeTo roles n).drive = s.drive ∧
    (s.addNoticeTo roles n).meter = s.meter ∧ (s.addNoticeTo roles n).load = s.load ∧
    (s.addNoticeTo roles n).link = s.link ∧ (s.addNoticeTo roles n).strain = s.strain ∧
    (s.addNoticeTo roles n).seq = s.seq ∧ (s.addNoticeTo roles n).rate = s.rate ∧
    (s.addNoticeTo roles n).eval = s.eval ∧ (s.addNoticeTo roles n).inputs = s.inputs ∧
    (s.addNoticeTo roles n).config = s.config ∧ (s.addNoticeTo roles n).refPhase = s.refPhase ∧
    (s.addNoticeTo roles n).freeCount = s.freeCount ∧ (s.addNoticeTo roles n).pending = s.pending := by
  generalize h : s.addNoticeTo roles n = t
  unfold State.addNoticeTo at h
  try dsimp only at h
  (repeat' split at h) <;> subst h <;> simp

@[simp] theorem State.fileRecord_frame (s : State) (r : ResultRecord) :
    (s.fileRecord r).power = s.power ∧ (s.fileRecord r).queue = s.queue ∧
    (s.fileRecord r).programs = s.programs ∧ (s.fileRecord r).arbiter = s.arbiter ∧
    (s.fileRecord r).drive = s.drive ∧ (s.fileRecord r).meter = s.meter ∧ (s.fileRecord r).load = s.load ∧
    (s.fileRecord r).link = s.link ∧ (s.fileRecord r).strain = s.strain ∧ (s.fileRecord r).seq = s.seq ∧
    (s.fileRecord r).rate = s.rate ∧ (s.fileRecord r).eval = s.eval ∧ (s.fileRecord r).inputs = s.inputs ∧
    (s.fileRecord r).config = s.config ∧ (s.fileRecord r).refPhase = s.refPhase ∧
    (s.fileRecord r).freeCount = s.freeCount ∧ (s.fileRecord r).pending = s.pending := by
  generalize h : s.fileRecord r = t
  unfold State.fileRecord at h
  try dsimp only at h
  (repeat' split at h) <;> subst h <;> simp

@[simp] theorem State.writeVelocity_frame (s : State) (source : VelocitySource) (v : Int) :
    (s.writeVelocity source v).power = s.power ∧ (s.writeVelocity source v).ports = s.ports ∧
    (s.writeVelocity source v).queue = s.queue ∧ (s.writeVelocity source v).programs = s.programs ∧
    (s.writeVelocity source v).results = s.results ∧ (s.writeVelocity source v).arbiter = s.arbiter ∧
    (s.writeVelocity source v).meter = s.meter ∧ (s.writeVelocity source v).load = s.load ∧
    (s.writeVelocity source v).link = s.link ∧ (s.writeVelocity source v).strain = s.strain ∧
    (s.writeVelocity source v).seq = s.seq ∧ (s.writeVelocity source v).rate = s.rate ∧
    (s.writeVelocity source v).eval = s.eval ∧ (s.writeVelocity source v).inputs = s.inputs ∧
    (s.writeVelocity source v).config = s.config ∧ (s.writeVelocity source v).refPhase = s.refPhase ∧
    (s.writeVelocity source v).freeCount = s.freeCount ∧ (s.writeVelocity source v).pending = s.pending := by
  generalize h : s.writeVelocity source v = t
  unfold State.writeVelocity at h
  try dsimp only at h
  (repeat' split at h) <;> subst h <;> simp

@[simp] theorem State.endMove_frame (s : State) (cause : Option MoveEndCause) :
    (s.endMove cause).power = s.power ∧ (s.endMove cause).queue = s.queue ∧
    (s.endMove cause).programs = s.programs ∧ (s.endMove cause).results = s.results ∧
    (s.endMove cause).arbiter = s.arbiter ∧ (s.endMove cause).meter = s.meter ∧
    (s.endMove cause).load = s.load ∧ (s.endMove cause).link = s.link ∧ (s.endMove cause).strain = s.strain ∧
    (s.endMove cause).seq = s.seq ∧ (s.endMove cause).rate = s.rate ∧ (s.endMove cause).eval = s.eval ∧
    (s.endMove cause).inputs = s.inputs ∧ (s.endMove cause).config = s.config ∧
    (s.endMove cause).refPhase = s.refPhase ∧ (s.endMove cause).freeCount = s.freeCount ∧
    (s.endMove cause).pending = s.pending := by
  generalize h : s.endMove cause = t
  unfold State.endMove at h
  try dsimp only at h
  (repeat' split at h) <;> subst h <;> simp

@[simp] theorem State.completeSettledMove_frame (s : State) :
    (s.completeSettledMove).power = s.power ∧ (s.completeSettledMove).queue = s.queue ∧
    (s.completeSettledMove).programs = s.programs ∧ (s.completeSettledMove).results = s.results ∧
    (s.completeSettledMove).arbiter = s.arbiter ∧ (s.completeSettledMove).meter = s.meter ∧
    (s.completeSettledMove).load = s.load ∧ (s.completeSettledMove).link = s.link ∧
    (s.completeSettledMove).strain = s.strain ∧ (s.completeSettledMove).seq = s.seq ∧
    (s.completeSettledMove).rate = s.rate ∧ (s.completeSettledMove).eval = s.eval ∧
    (s.completeSettledMove).inputs = s.inputs ∧ (s.completeSettledMove).config = s.config ∧
    (s.completeSettledMove).refPhase = s.refPhase ∧ (s.completeSettledMove).freeCount = s.freeCount ∧
    (s.completeSettledMove).pending = s.pending := by
  generalize h : s.completeSettledMove = t
  unfold State.completeSettledMove at h
  try dsimp only at h
  (repeat' split at h) <;> subst h <;> simp

@[simp] theorem State.continueAttach_frame (s : State) (owner : CommandOwner) :
    (s.continueAttach owner).power = s.power ∧ (s.continueAttach owner).queue = s.queue ∧
    (s.continueAttach owner).programs = s.programs ∧ (s.continueAttach owner).results = s.results ∧
    (s.continueAttach owner).arbiter = s.arbiter ∧ (s.continueAttach owner).drive = s.drive ∧
    (s.continueAttach owner).meter = s.meter ∧ (s.continueAttach owner).load = s.load ∧
    (s.continueAttach owner).strain = s.strain ∧ (s.continueAttach owner).seq = s.seq ∧
    (s.continueAttach owner).rate = s.rate ∧ (s.continueAttach owner).eval = s.eval ∧
    (s.continueAttach owner).inputs = s.inputs ∧ (s.continueAttach owner).config = s.config ∧
    (s.continueAttach owner).refPhase = s.refPhase ∧ (s.continueAttach owner).freeCount = s.freeCount ∧
    (s.continueAttach owner).pending = s.pending := by
  generalize h : s.continueAttach owner = t
  unfold State.continueAttach at h
  try dsimp only at h
  (repeat' split at h) <;> subst h <;> simp

@[simp] theorem State.enterReady_frame (s : State) :
    (s.enterReady).power = s.power ∧ (s.enterReady).queue = s.queue ∧ (s.enterReady).programs = s.programs ∧
    (s.enterReady).results = s.results ∧ (s.enterReady).arbiter = s.arbiter ∧ (s.enterReady).drive = s.drive ∧
    (s.enterReady).meter = s.meter ∧ (s.enterReady).load = s.load ∧ (s.enterReady).strain = s.strain ∧
    (s.enterReady).seq = s.seq ∧ (s.enterReady).rate = s.rate ∧ (s.enterReady).eval = s.eval ∧
    (s.enterReady).inputs = s.inputs ∧ (s.enterReady).config = s.config ∧
    (s.enterReady).refPhase = s.refPhase ∧ (s.enterReady).freeCount = s.freeCount ∧
    (s.enterReady).pending = s.pending := by
  generalize h : s.enterReady = t
  unfold State.enterReady at h
  try dsimp only at h
  (repeat' split at h) <;> subst h <;> simp

@[simp] theorem State.beginWake_frame (s : State) :
    (s.beginWake).power = s.power ∧ (s.beginWake).queue = s.queue ∧ (s.beginWake).programs = s.programs ∧
    (s.beginWake).results = s.results ∧ (s.beginWake).arbiter = s.arbiter ∧ (s.beginWake).drive = s.drive ∧
    (s.beginWake).meter = s.meter ∧ (s.beginWake).load = s.load ∧ (s.beginWake).strain = s.strain ∧
    (s.beginWake).seq = s.seq ∧ (s.beginWake).rate = s.rate ∧ (s.beginWake).eval = s.eval ∧
    (s.beginWake).inputs = s.inputs ∧ (s.beginWake).config = s.config ∧ (s.beginWake).refPhase = s.refPhase ∧
    (s.beginWake).freeCount = s.freeCount ∧ (s.beginWake).pending = s.pending := by
  generalize h : s.beginWake = t
  unfold State.beginWake at h
  try dsimp only at h
  (repeat' split at h) <;> subst h <;> simp

@[simp] theorem State.enterLost_frame (s : State) :
    (s.enterLost).power = s.power ∧ (s.enterLost).queue = s.queue ∧ (s.enterLost).programs = s.programs ∧
    (s.enterLost).results = s.results ∧ (s.enterLost).arbiter = s.arbiter ∧ (s.enterLost).drive = s.drive ∧
    (s.enterLost).meter = s.meter ∧ (s.enterLost).load = s.load ∧ (s.enterLost).strain = s.strain ∧
    (s.enterLost).seq = s.seq ∧ (s.enterLost).rate = s.rate ∧ (s.enterLost).eval = s.eval ∧
    (s.enterLost).inputs = s.inputs ∧ (s.enterLost).config = s.config ∧ (s.enterLost).refPhase = s.refPhase ∧
    (s.enterLost).freeCount = s.freeCount ∧ (s.enterLost).pending = s.pending := by
  generalize h : s.enterLost = t
  unfold State.enterLost at h
  try dsimp only at h
  (repeat' split at h) <;> subst h <;> simp

@[simp] theorem State.enterAsleep_frame (s : State) :
    (s.enterAsleep).power = s.power ∧ (s.enterAsleep).queue = s.queue ∧ (s.enterAsleep).programs = s.programs ∧
    (s.enterAsleep).results = s.results ∧ (s.enterAsleep).arbiter = s.arbiter ∧
    (s.enterAsleep).drive = s.drive ∧ (s.enterAsleep).meter = s.meter ∧ (s.enterAsleep).load = s.load ∧
    (s.enterAsleep).strain = s.strain ∧ (s.enterAsleep).seq = s.seq ∧ (s.enterAsleep).rate = s.rate ∧
    (s.enterAsleep).eval = s.eval ∧ (s.enterAsleep).inputs = s.inputs ∧ (s.enterAsleep).config = s.config ∧
    (s.enterAsleep).refPhase = s.refPhase ∧ (s.enterAsleep).freeCount = s.freeCount ∧
    (s.enterAsleep).pending = s.pending := by
  generalize h : s.enterAsleep = t
  unfold State.enterAsleep at h
  try dsimp only at h
  (repeat' split at h) <;> subst h <;> simp

@[simp] theorem State.shifterEmpties_frame (s : State) :
    (s.shifterEmpties).power = s.power ∧ (s.shifterEmpties).queue = s.queue ∧
    (s.shifterEmpties).programs = s.programs ∧ (s.shifterEmpties).results = s.results ∧
    (s.shifterEmpties).arbiter = s.arbiter ∧ (s.shifterEmpties).drive = s.drive ∧
    (s.shifterEmpties).meter = s.meter ∧ (s.shifterEmpties).load = s.load ∧
    (s.shifterEmpties).strain = s.strain ∧ (s.shifterEmpties).seq = s.seq ∧ (s.shifterEmpties).rate = s.rate ∧
    (s.shifterEmpties).eval = s.eval ∧ (s.shifterEmpties).inputs = s.inputs ∧
    (s.shifterEmpties).config = s.config ∧ (s.shifterEmpties).refPhase = s.refPhase ∧
    (s.shifterEmpties).freeCount = s.freeCount ∧ (s.shifterEmpties).pending = s.pending := by
  generalize h : s.shifterEmpties = t
  unfold State.shifterEmpties at h
  try dsimp only at h
  (repeat' split at h) <;> subst h <;> simp

@[simp] theorem State.attemptFails_frame (s : State) :
    (s.attemptFails).power = s.power ∧ (s.attemptFails).queue = s.queue ∧
    (s.attemptFails).programs = s.programs ∧ (s.attemptFails).results = s.results ∧
    (s.attemptFails).arbiter = s.arbiter ∧ (s.attemptFails).drive = s.drive ∧
    (s.attemptFails).meter = s.meter ∧ (s.attemptFails).load = s.load ∧ (s.attemptFails).strain = s.strain ∧
    (s.attemptFails).seq = s.seq ∧ (s.attemptFails).rate = s.rate ∧ (s.attemptFails).eval = s.eval ∧
    (s.attemptFails).inputs = s.inputs ∧ (s.attemptFails).config = s.config ∧
    (s.attemptFails).refPhase = s.refPhase ∧ (s.attemptFails).freeCount = s.freeCount ∧
    (s.attemptFails).pending = s.pending := by
  generalize h : s.attemptFails = t
  unfold State.attemptFails at h
  try dsimp only at h
  (repeat' split at h) <;> subst h <;> simp

@[simp] theorem State.requestAttach_frame (s : State) (owner : CommandOwner) :
    (s.requestAttach owner).power = s.power ∧ (s.requestAttach owner).queue = s.queue ∧
    (s.requestAttach owner).programs = s.programs ∧ (s.requestAttach owner).results = s.results ∧
    (s.requestAttach owner).arbiter = s.arbiter ∧ (s.requestAttach owner).drive = s.drive ∧
    (s.requestAttach owner).meter = s.meter ∧ (s.requestAttach owner).load = s.load ∧
    (s.requestAttach owner).strain = s.strain ∧ (s.requestAttach owner).seq = s.seq ∧
    (s.requestAttach owner).rate = s.rate ∧ (s.requestAttach owner).eval = s.eval ∧
    (s.requestAttach owner).inputs = s.inputs ∧ (s.requestAttach owner).config = s.config ∧
    (s.requestAttach owner).refPhase = s.refPhase ∧ (s.requestAttach owner).freeCount = s.freeCount ∧
    (s.requestAttach owner).pending = s.pending := by
  generalize h : s.requestAttach owner = t
  unfold State.requestAttach at h
  try dsimp only at h
  (repeat' split at h) <;> subst h <;> simp

@[simp] theorem State.requestDetach_frame (s : State) (owner : CommandOwner) :
    (s.requestDetach owner).power = s.power ∧ (s.requestDetach owner).queue = s.queue ∧
    (s.requestDetach owner).programs = s.programs ∧ (s.requestDetach owner).results = s.results ∧
    (s.requestDetach owner).arbiter = s.arbiter ∧ (s.requestDetach owner).drive = s.drive ∧
    (s.requestDetach owner).meter = s.meter ∧ (s.requestDetach owner).load = s.load ∧
    (s.requestDetach owner).strain = s.strain ∧ (s.requestDetach owner).seq = s.seq ∧
    (s.requestDetach owner).rate = s.rate ∧ (s.requestDetach owner).eval = s.eval ∧
    (s.requestDetach owner).inputs = s.inputs ∧ (s.requestDetach owner).config = s.config ∧
    (s.requestDetach owner).refPhase = s.refPhase ∧ (s.requestDetach owner).freeCount = s.freeCount ∧
    (s.requestDetach owner).pending = s.pending := by
  generalize h : s.requestDetach owner = t
  unfold State.requestDetach at h
  try dsimp only at h
  (repeat' split at h) <;> subst h <;> simp

@[simp] theorem State.setHeadState_frame (s : State) (st : EntryState) :
    (s.setHeadState st).power = s.power ∧ (s.setHeadState st).ports = s.ports ∧
    (s.setHeadState st).programs = s.programs ∧ (s.setHeadState st).results = s.results ∧
    (s.setHeadState st).arbiter = s.arbiter ∧ (s.setHeadState st).drive = s.drive ∧
    (s.setHeadState st).meter = s.meter ∧ (s.setHeadState st).load = s.load ∧
    (s.setHeadState st).link = s.link ∧ (s.setHeadState st).strain = s.strain ∧
    (s.setHeadState st).seq = s.seq ∧ (s.setHeadState st).rate = s.rate ∧ (s.setHeadState st).eval = s.eval ∧
    (s.setHeadState st).inputs = s.inputs ∧ (s.setHeadState st).config = s.config ∧
    (s.setHeadState st).refPhase = s.refPhase ∧ (s.setHeadState st).freeCount = s.freeCount ∧
    (s.setHeadState st).pending = s.pending := by
  generalize h : s.setHeadState st = t
  unfold State.setHeadState at h
  try dsimp only at h
  (repeat' split at h) <;> subst h <;> simp

@[simp] theorem State.removeHead_frame (s : State) :
    (s.removeHead).power = s.power ∧ (s.removeHead).results = s.results ∧ (s.removeHead).arbiter = s.arbiter ∧
    (s.removeHead).drive = s.drive ∧ (s.removeHead).meter = s.meter ∧ (s.removeHead).load = s.load ∧
    (s.removeHead).link = s.link ∧ (s.removeHead).strain = s.strain ∧ (s.removeHead).rate = s.rate ∧
    (s.removeHead).eval = s.eval ∧ (s.removeHead).inputs = s.inputs ∧ (s.removeHead).config = s.config ∧
    (s.removeHead).refPhase = s.refPhase ∧ (s.removeHead).freeCount = s.freeCount ∧
    (s.removeHead).pending = s.pending := by
  generalize h : s.removeHead = t
  unfold State.removeHead at h
  try dsimp only at h
  (repeat' split at h) <;> subst h <;> simp

@[simp] theorem State.seqWrite_frame (s : State) (v : Int) :
    (s.seqWrite v).power = s.power ∧ (s.seqWrite v).ports = s.ports ∧ (s.seqWrite v).queue = s.queue ∧
    (s.seqWrite v).programs = s.programs ∧ (s.seqWrite v).results = s.results ∧
    (s.seqWrite v).arbiter = s.arbiter ∧ (s.seqWrite v).meter = s.meter ∧ (s.seqWrite v).load = s.load ∧
    (s.seqWrite v).link = s.link ∧ (s.seqWrite v).strain = s.strain ∧ (s.seqWrite v).seq = s.seq ∧
    (s.seqWrite v).rate = s.rate ∧ (s.seqWrite v).eval = s.eval ∧ (s.seqWrite v).inputs = s.inputs ∧
    (s.seqWrite v).config = s.config ∧ (s.seqWrite v).refPhase = s.refPhase ∧
    (s.seqWrite v).freeCount = s.freeCount ∧ (s.seqWrite v).pending = s.pending := by
  generalize h : s.seqWrite v = t
  unfold State.seqWrite at h
  try dsimp only at h
  (repeat' split at h) <;> subst h <;> simp

@[simp] theorem State.detachForEnding_frame (s : State) :
    (s.detachForEnding).power = s.power ∧ (s.detachForEnding).queue = s.queue ∧
    (s.detachForEnding).programs = s.programs ∧ (s.detachForEnding).results = s.results ∧
    (s.detachForEnding).arbiter = s.arbiter ∧ (s.detachForEnding).drive = s.drive ∧
    (s.detachForEnding).meter = s.meter ∧ (s.detachForEnding).load = s.load ∧
    (s.detachForEnding).strain = s.strain ∧ (s.detachForEnding).seq = s.seq ∧
    (s.detachForEnding).rate = s.rate ∧ (s.detachForEnding).eval = s.eval ∧
    (s.detachForEnding).inputs = s.inputs ∧ (s.detachForEnding).config = s.config ∧
    (s.detachForEnding).refPhase = s.refPhase ∧ (s.detachForEnding).freeCount = s.freeCount ∧
    (s.detachForEnding).pending = s.pending := by
  generalize h : s.detachForEnding = t
  unfold State.detachForEnding at h
  try dsimp only at h
  (repeat' split at h) <;> subst h <;> simp

@[simp] theorem State.enterEnding_frame (s : State) (outcome : TestOutcome) (cause : Option Cause) :
    (s.enterEnding outcome cause).power = s.power ∧ (s.enterEnding outcome cause).queue = s.queue ∧
    (s.enterEnding outcome cause).programs = s.programs ∧ (s.enterEnding outcome cause).results = s.results ∧
    (s.enterEnding outcome cause).arbiter = s.arbiter ∧ (s.enterEnding outcome cause).meter = s.meter ∧
    (s.enterEnding outcome cause).load = s.load ∧ (s.enterEnding outcome cause).strain = s.strain ∧
    (s.enterEnding outcome cause).rate = s.rate ∧ (s.enterEnding outcome cause).inputs = s.inputs ∧
    (s.enterEnding outcome cause).config = s.config ∧ (s.enterEnding outcome cause).refPhase = s.refPhase ∧
    (s.enterEnding outcome cause).freeCount = s.freeCount ∧ (s.enterEnding outcome cause).pending = s.pending := by
  generalize h : s.enterEnding outcome cause = t
  unfold State.enterEnding at h
  try dsimp only at h
  (repeat' split at h) <;> subst h <;> simp

@[simp] theorem State.addNote_frame (s : State) (c : Cause) :
    (s.addNote c).power = s.power ∧ (s.addNote c).ports = s.ports ∧ (s.addNote c).queue = s.queue ∧
    (s.addNote c).programs = s.programs ∧ (s.addNote c).results = s.results ∧
    (s.addNote c).arbiter = s.arbiter ∧ (s.addNote c).drive = s.drive ∧ (s.addNote c).meter = s.meter ∧
    (s.addNote c).load = s.load ∧ (s.addNote c).link = s.link ∧ (s.addNote c).strain = s.strain ∧
    (s.addNote c).rate = s.rate ∧ (s.addNote c).eval = s.eval ∧ (s.addNote c).inputs = s.inputs ∧
    (s.addNote c).config = s.config ∧ (s.addNote c).refPhase = s.refPhase ∧
    (s.addNote c).freeCount = s.freeCount ∧ (s.addNote c).pending = s.pending := by
  generalize h : s.addNote c = t
  unfold State.addNote at h
  try dsimp only at h
  (repeat' split at h) <;> subst h <;> simp

@[simp] theorem State.reportFault_frame (s : State) (c : Cause) :
    (s.reportFault c).power = s.power ∧ (s.reportFault c).queue = s.queue ∧
    (s.reportFault c).programs = s.programs ∧ (s.reportFault c).results = s.results ∧
    (s.reportFault c).arbiter = s.arbiter ∧ (s.reportFault c).meter = s.meter ∧
    (s.reportFault c).load = s.load ∧ (s.reportFault c).strain = s.strain ∧ (s.reportFault c).rate = s.rate ∧
    (s.reportFault c).inputs = s.inputs ∧ (s.reportFault c).config = s.config ∧
    (s.reportFault c).refPhase = s.refPhase ∧ (s.reportFault c).freeCount = s.freeCount ∧
    (s.reportFault c).pending = s.pending := by
  generalize h : s.reportFault c = t
  unfold State.reportFault at h
  try dsimp only at h
  (repeat' split at h) <;> subst h <;> simp

@[simp] theorem State.undoArming_frame (s : State) :
    (s.undoArming).power = s.power ∧ (s.undoArming).ports = s.ports ∧ (s.undoArming).programs = s.programs ∧
    (s.undoArming).arbiter = s.arbiter ∧ (s.undoArming).drive = s.drive ∧ (s.undoArming).meter = s.meter ∧
    (s.undoArming).load = s.load ∧ (s.undoArming).link = s.link ∧ (s.undoArming).strain = s.strain ∧
    (s.undoArming).rate = s.rate ∧ (s.undoArming).eval = s.eval ∧ (s.undoArming).inputs = s.inputs ∧
    (s.undoArming).config = s.config ∧ (s.undoArming).refPhase = s.refPhase ∧
    (s.undoArming).freeCount = s.freeCount ∧ (s.undoArming).pending = s.pending := by
  generalize h : s.undoArming = t
  unfold State.undoArming at h
  try dsimp only at h
  (repeat' split at h) <;> subst h <;> simp

@[simp] theorem State.pauseAutoArm_frame (s : State) :
    (s.pauseAutoArm).power = s.power ∧ (s.pauseAutoArm).ports = s.ports ∧ (s.pauseAutoArm).queue = s.queue ∧
    (s.pauseAutoArm).programs = s.programs ∧ (s.pauseAutoArm).results = s.results ∧
    (s.pauseAutoArm).arbiter = s.arbiter ∧ (s.pauseAutoArm).drive = s.drive ∧
    (s.pauseAutoArm).meter = s.meter ∧ (s.pauseAutoArm).load = s.load ∧ (s.pauseAutoArm).link = s.link ∧
    (s.pauseAutoArm).strain = s.strain ∧ (s.pauseAutoArm).rate = s.rate ∧ (s.pauseAutoArm).eval = s.eval ∧
    (s.pauseAutoArm).inputs = s.inputs ∧ (s.pauseAutoArm).config = s.config ∧
    (s.pauseAutoArm).refPhase = s.refPhase ∧ (s.pauseAutoArm).freeCount = s.freeCount ∧
    (s.pauseAutoArm).pending = s.pending := by
  generalize h : s.pauseAutoArm = t
  unfold State.pauseAutoArm at h
  try dsimp only at h
  (repeat' split at h) <;> subst h <;> simp

@[simp] theorem State.authorityLost_frame (s : State) (reason : Cause) :
    (s.authorityLost reason).power = s.power ∧ (s.authorityLost reason).programs = s.programs ∧
    (s.authorityLost reason).arbiter = s.arbiter ∧ (s.authorityLost reason).meter = s.meter ∧
    (s.authorityLost reason).load = s.load ∧ (s.authorityLost reason).strain = s.strain ∧
    (s.authorityLost reason).rate = s.rate ∧ (s.authorityLost reason).inputs = s.inputs ∧
    (s.authorityLost reason).config = s.config ∧ (s.authorityLost reason).refPhase = s.refPhase ∧
    (s.authorityLost reason).freeCount = s.freeCount ∧ (s.authorityLost reason).pending = s.pending := by
  generalize h : s.authorityLost reason = t
  unfold State.authorityLost at h
  try dsimp only at h
  (repeat' split at h) <;> subst h <;> simp

@[simp] theorem State.startTest_frame (s : State) :
    (s.startTest).power = s.power ∧ (s.startTest).programs = s.programs ∧ (s.startTest).results = s.results ∧
    (s.startTest).arbiter = s.arbiter ∧ (s.startTest).meter = s.meter ∧ (s.startTest).load = s.load ∧
    (s.startTest).link = s.link ∧ (s.startTest).rate = s.rate ∧ (s.startTest).eval = s.eval ∧
    (s.startTest).inputs = s.inputs ∧ (s.startTest).config = s.config ∧ (s.startTest).refPhase = s.refPhase ∧
    (s.startTest).freeCount = s.freeCount ∧ (s.startTest).pending = s.pending := by
  generalize h : s.startTest = t
  unfold State.startTest at h
  try dsimp only at h
  (repeat' split at h) <;> subst h <;> simp

@[simp] theorem State.testGripsStart_frame (s : State) :
    (s.testGripsStart).power = s.power ∧ (s.testGripsStart).programs = s.programs ∧
    (s.testGripsStart).results = s.results ∧ (s.testGripsStart).arbiter = s.arbiter ∧
    (s.testGripsStart).meter = s.meter ∧ (s.testGripsStart).load = s.load ∧ (s.testGripsStart).link = s.link ∧
    (s.testGripsStart).rate = s.rate ∧ (s.testGripsStart).eval = s.eval ∧
    (s.testGripsStart).inputs = s.inputs ∧ (s.testGripsStart).config = s.config ∧
    (s.testGripsStart).refPhase = s.refPhase ∧ (s.testGripsStart).freeCount = s.freeCount ∧
    (s.testGripsStart).pending = s.pending := by
  generalize h : s.testGripsStart = t
  unfold State.testGripsStart at h
  try dsimp only at h
  (repeat' split at h) <;> subst h <;> simp

@[simp] theorem State.grantSequencer_frame (s : State) :
    (s.grantSequencer).power = s.power ∧ (s.grantSequencer).programs = s.programs ∧
    (s.grantSequencer).results = s.results ∧ (s.grantSequencer).meter = s.meter ∧
    (s.grantSequencer).load = s.load ∧ (s.grantSequencer).link = s.link ∧ (s.grantSequencer).rate = s.rate ∧
    (s.grantSequencer).eval = s.eval ∧ (s.grantSequencer).inputs = s.inputs ∧
    (s.grantSequencer).config = s.config ∧ (s.grantSequencer).refPhase = s.refPhase ∧
    (s.grantSequencer).freeCount = s.freeCount ∧ (s.grantSequencer).pending = s.pending := by
  generalize h : s.grantSequencer = t
  unfold State.grantSequencer at h
  try dsimp only at h
  (repeat' split at h) <;> subst h <;> simp

@[simp] theorem State.grantFront_frame (s : State) :
    (s.grantFront).power = s.power ∧ (s.grantFront).programs = s.programs ∧
    (s.grantFront).results = s.results ∧ (s.grantFront).meter = s.meter ∧ (s.grantFront).load = s.load ∧
    (s.grantFront).link = s.link ∧ (s.grantFront).rate = s.rate ∧ (s.grantFront).eval = s.eval ∧
    (s.grantFront).inputs = s.inputs ∧ (s.grantFront).config = s.config ∧
    (s.grantFront).refPhase = s.refPhase ∧ (s.grantFront).freeCount = s.freeCount ∧
    (s.grantFront).pending = s.pending := by
  generalize h : s.grantFront = t
  unfold State.grantFront at h
  try dsimp only at h
  (repeat' split at h) <;> subst h <;> simp

@[simp] theorem State.grantIfFree_frame (s : State) :
    (s.grantIfFree).power = s.power ∧ (s.grantIfFree).programs = s.programs ∧
    (s.grantIfFree).results = s.results ∧ (s.grantIfFree).meter = s.meter ∧ (s.grantIfFree).load = s.load ∧
    (s.grantIfFree).link = s.link ∧ (s.grantIfFree).rate = s.rate ∧ (s.grantIfFree).eval = s.eval ∧
    (s.grantIfFree).inputs = s.inputs ∧ (s.grantIfFree).config = s.config ∧
    (s.grantIfFree).refPhase = s.refPhase ∧ (s.grantIfFree).freeCount = s.freeCount ∧
    (s.grantIfFree).pending = s.pending := by
  generalize h : s.grantIfFree = t
  unfold State.grantIfFree at h
  try dsimp only at h
  (repeat' split at h) <;> subst h <;> simp

@[simp] theorem State.dropHolder_frame (s : State) (cause : MoveEndCause) :
    (s.dropHolder cause).power = s.power ∧ (s.dropHolder cause).queue = s.queue ∧
    (s.dropHolder cause).programs = s.programs ∧ (s.dropHolder cause).results = s.results ∧
    (s.dropHolder cause).meter = s.meter ∧ (s.dropHolder cause).load = s.load ∧
    (s.dropHolder cause).link = s.link ∧ (s.dropHolder cause).strain = s.strain ∧
    (s.dropHolder cause).seq = s.seq ∧ (s.dropHolder cause).rate = s.rate ∧
    (s.dropHolder cause).eval = s.eval ∧ (s.dropHolder cause).inputs = s.inputs ∧
    (s.dropHolder cause).config = s.config ∧ (s.dropHolder cause).refPhase = s.refPhase ∧
    (s.dropHolder cause).freeCount = s.freeCount ∧ (s.dropHolder cause).pending = s.pending := by
  generalize h : s.dropHolder cause = t
  unfold State.dropHolder at h
  try dsimp only at h
  (repeat' split at h) <;> subst h <;> simp

@[simp] theorem State.revokeHolder_frame (s : State) (move : MoveEndCause) (reason : Cause) :
    (s.revokeHolder move reason).power = s.power ∧ (s.revokeHolder move reason).programs = s.programs ∧
    (s.revokeHolder move reason).meter = s.meter ∧ (s.revokeHolder move reason).load = s.load ∧
    (s.revokeHolder move reason).strain = s.strain ∧ (s.revokeHolder move reason).rate = s.rate ∧
    (s.revokeHolder move reason).inputs = s.inputs ∧ (s.revokeHolder move reason).config = s.config ∧
    (s.revokeHolder move reason).refPhase = s.refPhase ∧ (s.revokeHolder move reason).freeCount = s.freeCount ∧
    (s.revokeHolder move reason).pending = s.pending := by
  generalize h : s.revokeHolder move reason = t
  unfold State.revokeHolder at h
  try dsimp only at h
  (repeat' split at h) <;> subst h <;> simp

@[simp] theorem State.denyWaiting_frame (s : State) :
    (s.denyWaiting).power = s.power ∧ (s.denyWaiting).queue = s.queue ∧ (s.denyWaiting).programs = s.programs ∧
    (s.denyWaiting).results = s.results ∧ (s.denyWaiting).drive = s.drive ∧ (s.denyWaiting).meter = s.meter ∧
    (s.denyWaiting).load = s.load ∧ (s.denyWaiting).link = s.link ∧ (s.denyWaiting).strain = s.strain ∧
    (s.denyWaiting).seq = s.seq ∧ (s.denyWaiting).rate = s.rate ∧ (s.denyWaiting).eval = s.eval ∧
    (s.denyWaiting).inputs = s.inputs ∧ (s.denyWaiting).config = s.config ∧
    (s.denyWaiting).refPhase = s.refPhase ∧ (s.denyWaiting).freeCount = s.freeCount ∧
    (s.denyWaiting).pending = s.pending := by
  generalize h : s.denyWaiting = t
  unfold State.denyWaiting at h
  try dsimp only at h
  (repeat' split at h) <;> subst h <;> simp

@[simp] theorem State.sequencerRequests_frame (s : State) :
    (s.sequencerRequests).power = s.power ∧ (s.sequencerRequests).programs = s.programs ∧
    (s.sequencerRequests).results = s.results ∧ (s.sequencerRequests).meter = s.meter ∧
    (s.sequencerRequests).load = s.load ∧ (s.sequencerRequests).link = s.link ∧
    (s.sequencerRequests).rate = s.rate ∧ (s.sequencerRequests).eval = s.eval ∧
    (s.sequencerRequests).inputs = s.inputs ∧ (s.sequencerRequests).config = s.config ∧
    (s.sequencerRequests).refPhase = s.refPhase ∧ (s.sequencerRequests).freeCount = s.freeCount ∧
    (s.sequencerRequests).pending = s.pending := by
  generalize h : s.sequencerRequests = t
  unfold State.sequencerRequests at h
  try dsimp only at h
  (repeat' split at h) <;> subst h <;> simp

@[simp] theorem State.sequencerReleases_frame (s : State) :
    (s.sequencerReleases).power = s.power ∧ (s.sequencerReleases).programs = s.programs ∧
    (s.sequencerReleases).results = s.results ∧ (s.sequencerReleases).meter = s.meter ∧
    (s.sequencerReleases).load = s.load ∧ (s.sequencerReleases).link = s.link ∧
    (s.sequencerReleases).rate = s.rate ∧ (s.sequencerReleases).eval = s.eval ∧
    (s.sequencerReleases).inputs = s.inputs ∧ (s.sequencerReleases).config = s.config ∧
    (s.sequencerReleases).refPhase = s.refPhase ∧ (s.sequencerReleases).freeCount = s.freeCount ∧
    (s.sequencerReleases).pending = s.pending := by
  generalize h : s.sequencerReleases = t
  unfold State.sequencerReleases at h
  try dsimp only at h
  (repeat' split at h) <;> subst h <;> simp

@[simp] theorem State.armHead_frame (s : State) :
    (s.armHead).power = s.power ∧ (s.armHead).programs = s.programs ∧ (s.armHead).meter = s.meter ∧
    (s.armHead).link = s.link ∧ (s.armHead).rate = s.rate ∧ (s.armHead).eval = s.eval ∧
    (s.armHead).inputs = s.inputs ∧ (s.armHead).config = s.config ∧ (s.armHead).refPhase = s.refPhase ∧
    (s.armHead).freeCount = s.freeCount ∧ (s.armHead).pending = s.pending := by
  generalize h : s.armHead = t
  unfold State.armHead at h
  try dsimp only at h
  (repeat' split at h) <;> subst h <;> simp

@[simp] theorem State.examineHead_frame (s : State) :
    (s.examineHead).power = s.power ∧ (s.examineHead).programs = s.programs ∧ (s.examineHead).meter = s.meter ∧
    (s.examineHead).link = s.link ∧ (s.examineHead).rate = s.rate ∧ (s.examineHead).eval = s.eval ∧
    (s.examineHead).inputs = s.inputs ∧ (s.examineHead).config = s.config ∧
    (s.examineHead).refPhase = s.refPhase ∧ (s.examineHead).freeCount = s.freeCount ∧
    (s.examineHead).pending = s.pending := by
  generalize h : s.examineHead = t
  unfold State.examineHead at h
  try dsimp only at h
  (repeat' split at h) <;> subst h <;> simp

@[simp] theorem State.releaseAtCompletion_frame (s : State) :
    (s.releaseAtCompletion).power = s.power ∧ (s.releaseAtCompletion).programs = s.programs ∧
    (s.releaseAtCompletion).results = s.results ∧ (s.releaseAtCompletion).meter = s.meter ∧
    (s.releaseAtCompletion).load = s.load ∧ (s.releaseAtCompletion).link = s.link ∧
    (s.releaseAtCompletion).rate = s.rate ∧ (s.releaseAtCompletion).eval = s.eval ∧
    (s.releaseAtCompletion).inputs = s.inputs ∧ (s.releaseAtCompletion).config = s.config ∧
    (s.releaseAtCompletion).refPhase = s.refPhase ∧ (s.releaseAtCompletion).freeCount = s.freeCount ∧
    (s.releaseAtCompletion).pending = s.pending := by
  generalize h : s.releaseAtCompletion = t
  unfold State.releaseAtCompletion at h
  try dsimp only at h
  (repeat' split at h) <;> subst h <;> simp

@[simp] theorem State.completeTest_frame (s : State) :
    (s.completeTest).power = s.power ∧ (s.completeTest).meter = s.meter ∧ (s.completeTest).link = s.link ∧
    (s.completeTest).inputs = s.inputs ∧ (s.completeTest).config = s.config ∧
    (s.completeTest).refPhase = s.refPhase ∧ (s.completeTest).freeCount = s.freeCount ∧
    (s.completeTest).pending = s.pending := by
  generalize h : s.completeTest = t
  unfold State.completeTest at h
  try dsimp only at h
  (repeat' split at h) <;> subst h <;> simp

@[simp] theorem State.testEnding_frame (s : State) :
    (s.testEnding).power = s.power ∧ (s.testEnding).meter = s.meter ∧ (s.testEnding).link = s.link ∧
    (s.testEnding).inputs = s.inputs ∧ (s.testEnding).config = s.config ∧
    (s.testEnding).refPhase = s.refPhase ∧ (s.testEnding).freeCount = s.freeCount ∧
    (s.testEnding).pending = s.pending := by
  generalize h : s.testEnding = t
  unfold State.testEnding at h
  try dsimp only at h
  (repeat' split at h) <;> subst h <;> simp

@[simp] theorem State.takeZero_frame (s : State) :
    (s.takeZero).power = s.power ∧ (s.takeZero).ports = s.ports ∧ (s.takeZero).queue = s.queue ∧
    (s.takeZero).programs = s.programs ∧ (s.takeZero).results = s.results ∧ (s.takeZero).arbiter = s.arbiter ∧
    (s.takeZero).drive = s.drive ∧ (s.takeZero).meter = s.meter ∧ (s.takeZero).load = s.load ∧
    (s.takeZero).link = s.link ∧ (s.takeZero).seq = s.seq ∧ (s.takeZero).rate = s.rate ∧
    (s.takeZero).eval = s.eval ∧ (s.takeZero).inputs = s.inputs ∧ (s.takeZero).config = s.config ∧
    (s.takeZero).refPhase = s.refPhase ∧ (s.takeZero).freeCount = s.freeCount ∧ (s.takeZero).pending = s.pending := by
  generalize h : s.takeZero = t
  unfold State.takeZero at h
  try dsimp only at h
  (repeat' split at h) <;> subst h <;> simp

@[simp] theorem State.testAttach_frame (s : State) :
    (s.testAttach).power = s.power ∧ (s.testAttach).ports = s.ports ∧ (s.testAttach).queue = s.queue ∧
    (s.testAttach).programs = s.programs ∧ (s.testAttach).results = s.results ∧
    (s.testAttach).arbiter = s.arbiter ∧ (s.testAttach).drive = s.drive ∧ (s.testAttach).meter = s.meter ∧
    (s.testAttach).load = s.load ∧ (s.testAttach).link = s.link ∧ (s.testAttach).eval = s.eval ∧
    (s.testAttach).inputs = s.inputs ∧ (s.testAttach).config = s.config ∧
    (s.testAttach).refPhase = s.refPhase ∧ (s.testAttach).freeCount = s.freeCount ∧
    (s.testAttach).pending = s.pending := by
  generalize h : s.testAttach = t
  unfold State.testAttach at h
  try dsimp only at h
  (repeat' split at h) <;> subst h <;> simp

@[simp] theorem State.linkChanged_frame (s : State) :
    (s.linkChanged).power = s.power ∧ (s.linkChanged).meter = s.meter ∧ (s.linkChanged).link = s.link ∧
    (s.linkChanged).inputs = s.inputs ∧ (s.linkChanged).config = s.config ∧
    (s.linkChanged).refPhase = s.refPhase ∧ (s.linkChanged).freeCount = s.freeCount ∧
    (s.linkChanged).pending = s.pending := by
  generalize h : s.linkChanged = t
  unfold State.linkChanged at h
  try dsimp only at h
  (repeat' split at h) <;> subst h <;> simp

/-- A change of the link reaches no sequencer that does not wait for one. -/
theorem State.linkChanged_of_not_waiting (s : State) (attach : s.seq.state ≠ .attach)
    (ending : s.seq.state ≠ .ending) : s.linkChanged = s := by
  simp [State.linkChanged, State.testAttach, State.testEnding, State.endingSettled, attach, ending]

/-- A link on its way, in CLOSING or WAKING, ends neither ATTACH nor the wait of ENDING. -/
theorem State.linkChanged_of_link_under_way (s : State) (link : s.link.state = .closing ∨ s.link.state = .waking) :
    s.linkChanged = s := by
  rcases link with h | h <;> simp [State.linkChanged, State.testAttach, State.testEnding, State.endingSettled, h]

@[simp] theorem State.arriveReady_frame (s : State) :
    (s.arriveReady).power = s.power ∧ (s.arriveReady).meter = s.meter ∧ (s.arriveReady).inputs = s.inputs ∧
    (s.arriveReady).config = s.config ∧ (s.arriveReady).refPhase = s.refPhase ∧
    (s.arriveReady).freeCount = s.freeCount ∧ (s.arriveReady).pending = s.pending := by
  generalize h : s.arriveReady = t
  unfold State.arriveReady at h
  try dsimp only at h
  (repeat' split at h) <;> subst h <;> simp

/-- Where the sequencer does not wait, an arrival in READY touches the link and CONSOLE's notices alone. -/
theorem State.arriveReady_frame_of_not_waiting (s : State) (attach : s.seq.state ≠ .attach)
    (ending : s.seq.state ≠ .ending) :
    (s.arriveReady).power = s.power ∧ (s.arriveReady).queue = s.queue ∧ (s.arriveReady).programs = s.programs ∧
    (s.arriveReady).results = s.results ∧ (s.arriveReady).arbiter = s.arbiter ∧
    (s.arriveReady).drive = s.drive ∧ (s.arriveReady).meter = s.meter ∧ (s.arriveReady).load = s.load ∧
    (s.arriveReady).strain = s.strain ∧ (s.arriveReady).seq = s.seq ∧ (s.arriveReady).rate = s.rate ∧
    (s.arriveReady).eval = s.eval ∧ (s.arriveReady).inputs = s.inputs ∧ (s.arriveReady).config = s.config ∧
    (s.arriveReady).refPhase = s.refPhase ∧ (s.arriveReady).freeCount = s.freeCount ∧
    (s.arriveReady).pending = s.pending := by
  generalize h : s.arriveReady = t
  unfold State.arriveReady at h
  try dsimp only at h
  (repeat' split at h) <;> subst h <;>
    simp [State.linkChanged_of_not_waiting, attach, ending]

@[simp] theorem State.arriveAsleep_frame (s : State) :
    (s.arriveAsleep).power = s.power ∧ (s.arriveAsleep).meter = s.meter ∧ (s.arriveAsleep).inputs = s.inputs ∧
    (s.arriveAsleep).config = s.config ∧ (s.arriveAsleep).refPhase = s.refPhase ∧
    (s.arriveAsleep).freeCount = s.freeCount ∧ (s.arriveAsleep).pending = s.pending := by
  generalize h : s.arriveAsleep = t
  unfold State.arriveAsleep at h
  try dsimp only at h
  (repeat' split at h) <;> subst h <;> simp

/-- Where the sequencer does not wait, an arrival in ASLEEP touches the link and CONSOLE's notices alone. -/
theorem State.arriveAsleep_frame_of_not_waiting (s : State) (attach : s.seq.state ≠ .attach)
    (ending : s.seq.state ≠ .ending) :
    (s.arriveAsleep).power = s.power ∧ (s.arriveAsleep).queue = s.queue ∧
    (s.arriveAsleep).programs = s.programs ∧ (s.arriveAsleep).results = s.results ∧
    (s.arriveAsleep).arbiter = s.arbiter ∧ (s.arriveAsleep).drive = s.drive ∧ (s.arriveAsleep).meter = s.meter ∧
    (s.arriveAsleep).load = s.load ∧ (s.arriveAsleep).strain = s.strain ∧ (s.arriveAsleep).seq = s.seq ∧
    (s.arriveAsleep).rate = s.rate ∧ (s.arriveAsleep).eval = s.eval ∧ (s.arriveAsleep).inputs = s.inputs ∧
    (s.arriveAsleep).config = s.config ∧ (s.arriveAsleep).refPhase = s.refPhase ∧
    (s.arriveAsleep).freeCount = s.freeCount ∧ (s.arriveAsleep).pending = s.pending := by
  generalize h : s.arriveAsleep = t
  unfold State.arriveAsleep at h
  try dsimp only at h
  (repeat' split at h) <;> subst h <;>
    simp [State.linkChanged_of_not_waiting, attach, ending]

end Sys2Proof.Machine
end

