-- ==== Sys2Proof/Laws/Drive.lean ====
section
/-! SUPPORT. What the operations of the drive and of the speed meter leave as it was. -/

namespace Sys2Proof.Machine

@[simp] theorem State.leaveList_frame (s : State) (q : Party) :
    (s.leaveList q).power = s.power ∧ (s.leaveList q).ports = s.ports ∧ (s.leaveList q).queue = s.queue ∧
    (s.leaveList q).programs = s.programs ∧ (s.leaveList q).results = s.results ∧
    (s.leaveList q).drive = s.drive ∧ (s.leaveList q).meter = s.meter ∧ (s.leaveList q).load = s.load ∧
    (s.leaveList q).link = s.link ∧ (s.leaveList q).strain = s.strain ∧ (s.leaveList q).seq = s.seq ∧
    (s.leaveList q).rate = s.rate ∧ (s.leaveList q).eval = s.eval ∧ (s.leaveList q).inputs = s.inputs ∧
    (s.leaveList q).config = s.config ∧ (s.leaveList q).refPhase = s.refPhase ∧
    (s.leaveList q).freeCount = s.freeCount ∧ (s.leaveList q).pending = s.pending :=
  ⟨rfl, rfl, rfl, rfl, rfl, rfl, rfl, rfl, rfl, rfl, rfl, rfl, rfl, rfl, rfl, rfl, rfl, rfl⟩

@[simp] theorem State.recordMove_frame (s : State) (p : Role) (kind : MoveKind) (target : Word32) (speed : Int) (clamped : Bool) :
    (s.recordMove p kind target speed clamped).power = s.power ∧
    (s.recordMove p kind target speed clamped).queue = s.queue ∧
    (s.recordMove p kind target speed clamped).programs = s.programs ∧
    (s.recordMove p kind target speed clamped).results = s.results ∧
    (s.recordMove p kind target speed clamped).arbiter = s.arbiter ∧
    (s.recordMove p kind target speed clamped).meter = s.meter ∧
    (s.recordMove p kind target speed clamped).load = s.load ∧
    (s.recordMove p kind target speed clamped).link = s.link ∧
    (s.recordMove p kind target speed clamped).strain = s.strain ∧
    (s.recordMove p kind target speed clamped).seq = s.seq ∧
    (s.recordMove p kind target speed clamped).rate = s.rate ∧
    (s.recordMove p kind target speed clamped).eval = s.eval ∧
    (s.recordMove p kind target speed clamped).inputs = s.inputs ∧
    (s.recordMove p kind target speed clamped).config = s.config ∧
    (s.recordMove p kind target speed clamped).refPhase = s.refPhase ∧
    (s.recordMove p kind target speed clamped).freeCount = s.freeCount ∧
    (s.recordMove p kind target speed clamped).pending = s.pending := by
  generalize h : s.recordMove p kind target speed clamped = t
  unfold State.recordMove at h
  try dsimp only at h
  (repeat' split at h) <;> subst h <;> simp

@[simp] theorem State.settleMove_frame (s : State) :
    (s.settleMove).power = s.power ∧ (s.settleMove).queue = s.queue ∧ (s.settleMove).programs = s.programs ∧
    (s.settleMove).results = s.results ∧ (s.settleMove).arbiter = s.arbiter ∧ (s.settleMove).meter = s.meter ∧
    (s.settleMove).load = s.load ∧ (s.settleMove).link = s.link ∧ (s.settleMove).strain = s.strain ∧
    (s.settleMove).seq = s.seq ∧ (s.settleMove).rate = s.rate ∧ (s.settleMove).eval = s.eval ∧
    (s.settleMove).inputs = s.inputs ∧ (s.settleMove).config = s.config ∧
    (s.settleMove).refPhase = s.refPhase ∧ (s.settleMove).freeCount = s.freeCount ∧
    (s.settleMove).pending = s.pending := by
  generalize h : s.settleMove = t
  unfold State.settleMove at h
  try dsimp only at h
  (repeat' split at h) <;> subst h <;> simp

@[simp] theorem State.takeMove_frame (s : State) (p : Role) (k : RequestKind) (kind : MoveKind) (raw speed : Int) :
    (s.takeMove p k kind raw speed).power = s.power ∧ (s.takeMove p k kind raw speed).queue = s.queue ∧
    (s.takeMove p k kind raw speed).programs = s.programs ∧
    (s.takeMove p k kind raw speed).results = s.results ∧ (s.takeMove p k kind raw speed).arbiter = s.arbiter ∧
    (s.takeMove p k kind raw speed).meter = s.meter ∧ (s.takeMove p k kind raw speed).load = s.load ∧
    (s.takeMove p k kind raw speed).link = s.link ∧ (s.takeMove p k kind raw speed).strain = s.strain ∧
    (s.takeMove p k kind raw speed).seq = s.seq ∧ (s.takeMove p k kind raw speed).rate = s.rate ∧
    (s.takeMove p k kind raw speed).eval = s.eval ∧ (s.takeMove p k kind raw speed).inputs = s.inputs ∧
    (s.takeMove p k kind raw speed).config = s.config ∧ (s.takeMove p k kind raw speed).refPhase = s.refPhase ∧
    (s.takeMove p k kind raw speed).freeCount = s.freeCount ∧
    (s.takeMove p k kind raw speed).pending = s.pending := by
  generalize h : s.takeMove p k kind raw speed = t
  unfold State.takeMove at h
  try dsimp only at h
  (repeat' split at h) <;> subst h <;> simp

@[simp] theorem State.takeJog_frame (s : State) (p : Role) (direction : Direction) (speed : Int) :
    (s.takeJog p direction speed).power = s.power ∧ (s.takeJog p direction speed).queue = s.queue ∧
    (s.takeJog p direction speed).programs = s.programs ∧ (s.takeJog p direction speed).results = s.results ∧
    (s.takeJog p direction speed).arbiter = s.arbiter ∧ (s.takeJog p direction speed).meter = s.meter ∧
    (s.takeJog p direction speed).load = s.load ∧ (s.takeJog p direction speed).link = s.link ∧
    (s.takeJog p direction speed).strain = s.strain ∧ (s.takeJog p direction speed).seq = s.seq ∧
    (s.takeJog p direction speed).rate = s.rate ∧ (s.takeJog p direction speed).eval = s.eval ∧
    (s.takeJog p direction speed).inputs = s.inputs ∧ (s.takeJog p direction speed).config = s.config ∧
    (s.takeJog p direction speed).refPhase = s.refPhase ∧ (s.takeJog p direction speed).pending = s.pending := by
  generalize h : s.takeJog p direction speed = t
  unfold State.takeJog at h
  try dsimp only at h
  (repeat' split at h) <;> subst h <;> simp

@[simp] theorem State.driveFault_frame (s : State) (kind : DriveFaultKind) :
    (s.driveFault kind).power = s.power ∧ (s.driveFault kind).meter = s.meter ∧
    (s.driveFault kind).inputs = s.inputs ∧ (s.driveFault kind).config = s.config ∧
    (s.driveFault kind).refPhase = s.refPhase ∧ (s.driveFault kind).freeCount = s.freeCount ∧
    (s.driveFault kind).pending = s.pending := by
  generalize h : s.driveFault kind = t
  unfold State.driveFault at h
  try dsimp only at h
  (repeat' split at h) <;> subst h <;> simp

@[simp] theorem State.judgeFollowing_frame (s : State) :
    (s.judgeFollowing).power = s.power ∧ (s.judgeFollowing).meter = s.meter ∧
    (s.judgeFollowing).inputs = s.inputs ∧ (s.judgeFollowing).config = s.config ∧
    (s.judgeFollowing).refPhase = s.refPhase ∧ (s.judgeFollowing).freeCount = s.freeCount ∧
    (s.judgeFollowing).pending = s.pending := by
  generalize h : s.judgeFollowing = t
  unfold State.judgeFollowing at h
  try dsimp only at h
  (repeat' split at h) <;> subst h <;> simp

@[simp] theorem State.limitStop_frame (s : State) :
    (s.limitStop).power = s.power ∧ (s.limitStop).meter = s.meter ∧ (s.limitStop).inputs = s.inputs ∧
    (s.limitStop).config = s.config ∧ (s.limitStop).refPhase = s.refPhase ∧
    (s.limitStop).freeCount = s.freeCount ∧ (s.limitStop).pending = s.pending := by
  generalize h : s.limitStop = t
  unfold State.limitStop at h
  try dsimp only at h
  (repeat' split at h) <;> subst h <;> simp

@[simp] theorem State.pulse_frame (s : State) (dir : Direction) :
    (s.pulse dir).power = s.power ∧ (s.pulse dir).ports = s.ports ∧ (s.pulse dir).queue = s.queue ∧
    (s.pulse dir).programs = s.programs ∧ (s.pulse dir).results = s.results ∧
    (s.pulse dir).arbiter = s.arbiter ∧ (s.pulse dir).meter = s.meter ∧ (s.pulse dir).load = s.load ∧
    (s.pulse dir).link = s.link ∧ (s.pulse dir).strain = s.strain ∧ (s.pulse dir).seq = s.seq ∧
    (s.pulse dir).rate = s.rate ∧ (s.pulse dir).eval = s.eval ∧ (s.pulse dir).inputs = s.inputs ∧
    (s.pulse dir).config = s.config ∧ (s.pulse dir).refPhase = s.refPhase ∧
    (s.pulse dir).freeCount = s.freeCount ∧ (s.pulse dir).pending = s.pending :=
  ⟨rfl, rfl, rfl, rfl, rfl, rfl, rfl, rfl, rfl, rfl, rfl, rfl, rfl, rfl, rfl, rfl, rfl, rfl⟩

@[simp] theorem State.nextPeriod_frame (s : State) (g : Period) :
    (s.nextPeriod g).power = s.power ∧ (s.nextPeriod g).ports = s.ports ∧ (s.nextPeriod g).queue = s.queue ∧
    (s.nextPeriod g).programs = s.programs ∧ (s.nextPeriod g).results = s.results ∧
    (s.nextPeriod g).arbiter = s.arbiter ∧ (s.nextPeriod g).meter = s.meter ∧ (s.nextPeriod g).load = s.load ∧
    (s.nextPeriod g).link = s.link ∧ (s.nextPeriod g).strain = s.strain ∧ (s.nextPeriod g).seq = s.seq ∧
    (s.nextPeriod g).rate = s.rate ∧ (s.nextPeriod g).eval = s.eval ∧ (s.nextPeriod g).inputs = s.inputs ∧
    (s.nextPeriod g).config = s.config ∧ (s.nextPeriod g).refPhase = s.refPhase ∧
    (s.nextPeriod g).freeCount = s.freeCount ∧ (s.nextPeriod g).pending = s.pending :=
  ⟨rfl, rfl, rfl, rfl, rfl, rfl, rfl, rfl, rfl, rfl, rfl, rfl, rfl, rfl, rfl, rfl, rfl, rfl⟩

@[simp] theorem State.periodEnd_frame (s : State) :
    (s.periodEnd).power = s.power ∧ (s.periodEnd).meter = s.meter ∧ (s.periodEnd).inputs = s.inputs ∧
    (s.periodEnd).config = s.config ∧ (s.periodEnd).refPhase = s.refPhase ∧
    (s.periodEnd).freeCount = s.freeCount ∧ (s.periodEnd).pending = s.pending := by
  generalize h : s.periodEnd = t
  unfold State.periodEnd at h
  try dsimp only at h
  (repeat' split at h) <;> subst h <;> simp

@[simp] theorem State.reportOverspeed_frame (s : State) :
    (s.reportOverspeed).power = s.power ∧ (s.reportOverspeed).inputs = s.inputs ∧
    (s.reportOverspeed).config = s.config ∧ (s.reportOverspeed).refPhase = s.refPhase ∧
    (s.reportOverspeed).freeCount = s.freeCount ∧ (s.reportOverspeed).pending = s.pending := by
  generalize h : s.reportOverspeed = t
  unfold State.reportOverspeed at h
  try dsimp only at h
  (repeat' split at h) <;> subst h <;> simp

@[simp] theorem State.restChanged_frame (s : State) (before : Bool) :
    (s.restChanged before).power = s.power ∧ (s.restChanged before).meter = s.meter ∧
    (s.restChanged before).inputs = s.inputs ∧ (s.restChanged before).config = s.config ∧
    (s.restChanged before).refPhase = s.refPhase ∧ (s.restChanged before).freeCount = s.freeCount ∧
    (s.restChanged before).pending = s.pending := by
  generalize h : s.restChanged before = t
  unfold State.restChanged at h
  try dsimp only at h
  (repeat' split at h) <;> subst h <;> simp

@[simp] theorem State.completeMeasurement_frame (s : State) (l : LastMeasurement) (v : Int) (method : MeterMethod) (next : Measurement) :
    (s.completeMeasurement l v method next).power = s.power ∧
    (s.completeMeasurement l v method next).inputs = s.inputs ∧
    (s.completeMeasurement l v method next).config = s.config ∧
    (s.completeMeasurement l v method next).refPhase = s.refPhase ∧
    (s.completeMeasurement l v method next).freeCount = s.freeCount ∧
    (s.completeMeasurement l v method next).pending = s.pending := by
  generalize h : s.completeMeasurement l v method next = t
  unfold State.completeMeasurement at h
  try dsimp only at h
  (repeat' split at h) <;> subst h <;> simp

@[simp] theorem State.gateBoundary_frame (s : State) :
    (s.gateBoundary).power = s.power ∧ (s.gateBoundary).inputs = s.inputs ∧
    (s.gateBoundary).config = s.config ∧ (s.gateBoundary).refPhase = s.refPhase ∧
    (s.gateBoundary).freeCount = s.freeCount ∧ (s.gateBoundary).pending = s.pending := by
  generalize h : s.gateBoundary = t
  unfold State.gateBoundary at h
  try dsimp only at h
  (repeat' split at h) <;> subst h <;> simp

@[simp] theorem State.completeInterval_frame (s : State) (dir : Direction) :
    (s.completeInterval dir).power = s.power ∧ (s.completeInterval dir).inputs = s.inputs ∧
    (s.completeInterval dir).config = s.config ∧ (s.completeInterval dir).refPhase = s.refPhase ∧
    (s.completeInterval dir).freeCount = s.freeCount ∧ (s.completeInterval dir).pending = s.pending := by
  generalize h : s.completeInterval dir = t
  unfold State.completeInterval at h
  try dsimp only at h
  (repeat' split at h) <;> subst h <;> simp

@[simp] theorem State.meterCount_frame (s : State) (dir : Direction) :
    (s.meterCount dir).power = s.power ∧ (s.meterCount dir).inputs = s.inputs ∧
    (s.meterCount dir).config = s.config ∧ (s.meterCount dir).refPhase = s.refPhase ∧
    (s.meterCount dir).freeCount = s.freeCount ∧ (s.meterCount dir).pending = s.pending := by
  generalize h : s.meterCount dir = t
  unfold State.meterCount at h
  try dsimp only at h
  (repeat' split at h) <;> subst h <;> simp

@[simp] theorem State.countEncoder_frame (s : State) (dir : Direction) :
    (s.countEncoder dir).power = s.power ∧ (s.countEncoder dir).ports = s.ports ∧
    (s.countEncoder dir).queue = s.queue ∧ (s.countEncoder dir).programs = s.programs ∧
    (s.countEncoder dir).results = s.results ∧ (s.countEncoder dir).arbiter = s.arbiter ∧
    (s.countEncoder dir).meter = s.meter ∧ (s.countEncoder dir).load = s.load ∧
    (s.countEncoder dir).link = s.link ∧ (s.countEncoder dir).strain = s.strain ∧
    (s.countEncoder dir).seq = s.seq ∧ (s.countEncoder dir).rate = s.rate ∧
    (s.countEncoder dir).eval = s.eval ∧ (s.countEncoder dir).inputs = s.inputs ∧
    (s.countEncoder dir).config = s.config ∧ (s.countEncoder dir).refPhase = s.refPhase ∧
    (s.countEncoder dir).freeCount = s.freeCount ∧ (s.countEncoder dir).pending = s.pending :=
  ⟨rfl, rfl, rfl, rfl, rfl, rfl, rfl, rfl, rfl, rfl, rfl, rfl, rfl, rfl, rfl, rfl, rfl, rfl⟩

@[simp] theorem State.encoderEvent_frame (s : State) (dir : Direction) :
    (s.encoderEvent dir).power = s.power ∧ (s.encoderEvent dir).inputs = s.inputs ∧ (s.encoderEvent dir).config = s.config ∧
    (s.encoderEvent dir).refPhase = s.refPhase ∧ (s.encoderEvent dir).freeCount = s.freeCount ∧
    (s.encoderEvent dir).pending = s.pending := by
  simp [State.encoderEvent]

@[simp] theorem State.sampleChannels_frame (s : State) (now : Channels) :
    (s.sampleChannels now).power = s.power ∧ (s.sampleChannels now).inputs = s.inputs ∧ (s.sampleChannels now).config = s.config ∧
    (s.sampleChannels now).refPhase = s.refPhase ∧ (s.sampleChannels now).freeCount = s.freeCount ∧
    (s.sampleChannels now).pending = s.pending := by
  generalize h : s.sampleChannels now = t
  unfold State.sampleChannels at h
  dsimp only at h
  split at h <;> subst h <;> simp

/-- A count event comes from a change of exactly one channel, and its direction turns round with the change. -/
theorem quadrature_reverses (before now : Channels) (dir : Direction) (h : quadrature before now = some dir) :
    (before.encA = now.encA ↔ before.encB ≠ now.encB)
      ∧ quadrature now before = some (match dir with | .opening => .closing | .closing => .opening) := by
  rcases before with ⟨a, b⟩; rcases now with ⟨c, d⟩
  revert h; cases a <;> cases b <;> cases c <;> cases d <;> cases dir <;> decide

@[simp] theorem State.intervalTimeout_frame (s : State) :
    (s.intervalTimeout).power = s.power ∧ (s.intervalTimeout).inputs = s.inputs ∧
    (s.intervalTimeout).config = s.config ∧ (s.intervalTimeout).refPhase = s.refPhase ∧
    (s.intervalTimeout).freeCount = s.freeCount ∧ (s.intervalTimeout).pending = s.pending := by
  generalize h : s.intervalTimeout = t
  unfold State.intervalTimeout at h
  try dsimp only at h
  (repeat' split at h) <;> subst h <;> simp

end Sys2Proof.Machine
end

