-- ==== Sys2Proof/Laws/Slot.lean ====
section
/-! SUPPORT. What the operations of a conversion slot leave as it was. -/

namespace Sys2Proof.Machine

@[simp] theorem State.overrangeActs_frame (s : State) :
    (s.overrangeActs).power = s.power ∧ (s.overrangeActs).queue = s.queue ∧
    (s.overrangeActs).programs = s.programs ∧ (s.overrangeActs).results = s.results ∧
    (s.overrangeActs).arbiter = s.arbiter ∧ (s.overrangeActs).meter = s.meter ∧
    (s.overrangeActs).strain = s.strain ∧ (s.overrangeActs).rate = s.rate ∧
    (s.overrangeActs).inputs = s.inputs ∧ (s.overrangeActs).config = s.config ∧
    (s.overrangeActs).refPhase = s.refPhase ∧ (s.overrangeActs).freeCount = s.freeCount ∧
    (s.overrangeActs).pending = s.pending := by
  generalize h : s.overrangeActs = t
  unfold State.overrangeActs at h
  try dsimp only at h
  (repeat' split at h) <;> subst h <;> simp

@[simp] theorem State.failTare_frame (s : State) :
    (s.failTare).power = s.power ∧ (s.failTare).queue = s.queue ∧ (s.failTare).programs = s.programs ∧
    (s.failTare).results = s.results ∧ (s.failTare).arbiter = s.arbiter ∧ (s.failTare).drive = s.drive ∧
    (s.failTare).meter = s.meter ∧ (s.failTare).link = s.link ∧ (s.failTare).strain = s.strain ∧
    (s.failTare).seq = s.seq ∧ (s.failTare).rate = s.rate ∧ (s.failTare).eval = s.eval ∧
    (s.failTare).inputs = s.inputs ∧ (s.failTare).config = s.config ∧ (s.failTare).refPhase = s.refPhase ∧
    (s.failTare).freeCount = s.freeCount ∧ (s.failTare).pending = s.pending := by
  generalize h : s.failTare = t
  unfold State.failTare at h
  try dsimp only at h
  (repeat' split at h) <;> subst h <;> simp

@[simp] theorem State.advanceTare_frame (s : State) :
    (s.advanceTare).power = s.power ∧ (s.advanceTare).queue = s.queue ∧ (s.advanceTare).programs = s.programs ∧
    (s.advanceTare).results = s.results ∧ (s.advanceTare).arbiter = s.arbiter ∧
    (s.advanceTare).drive = s.drive ∧ (s.advanceTare).meter = s.meter ∧ (s.advanceTare).link = s.link ∧
    (s.advanceTare).strain = s.strain ∧ (s.advanceTare).seq = s.seq ∧ (s.advanceTare).rate = s.rate ∧
    (s.advanceTare).eval = s.eval ∧ (s.advanceTare).inputs = s.inputs ∧ (s.advanceTare).config = s.config ∧
    (s.advanceTare).refPhase = s.refPhase ∧ (s.advanceTare).freeCount = s.freeCount ∧
    (s.advanceTare).pending = s.pending := by
  generalize h : s.advanceTare = t
  unfold State.advanceTare at h
  try dsimp only at h
  (repeat' split at h) <;> subst h <;> simp

@[simp] theorem State.tareSlot_frame (s : State) (w : TareWalk) (r : Int) :
    (s.tareSlot w r).power = s.power ∧ (s.tareSlot w r).queue = s.queue ∧
    (s.tareSlot w r).programs = s.programs ∧ (s.tareSlot w r).results = s.results ∧
    (s.tareSlot w r).arbiter = s.arbiter ∧ (s.tareSlot w r).drive = s.drive ∧
    (s.tareSlot w r).meter = s.meter ∧ (s.tareSlot w r).link = s.link ∧ (s.tareSlot w r).strain = s.strain ∧
    (s.tareSlot w r).seq = s.seq ∧ (s.tareSlot w r).rate = s.rate ∧ (s.tareSlot w r).eval = s.eval ∧
    (s.tareSlot w r).inputs = s.inputs ∧ (s.tareSlot w r).config = s.config ∧
    (s.tareSlot w r).refPhase = s.refPhase ∧ (s.tareSlot w r).freeCount = s.freeCount ∧
    (s.tareSlot w r).pending = s.pending := by
  generalize h : s.tareSlot w r = t
  unfold State.tareSlot at h
  try dsimp only at h
  (repeat' split at h) <;> subst h <;> simp

@[simp] theorem State.checkReference_frame (s : State) (r : Int) :
    (s.checkReference r).power = s.power ∧ (s.checkReference r).queue = s.queue ∧
    (s.checkReference r).programs = s.programs ∧ (s.checkReference r).results = s.results ∧
    (s.checkReference r).arbiter = s.arbiter ∧ (s.checkReference r).meter = s.meter ∧
    (s.checkReference r).strain = s.strain ∧ (s.checkReference r).rate = s.rate ∧
    (s.checkReference r).inputs = s.inputs ∧ (s.checkReference r).config = s.config ∧
    (s.checkReference r).refPhase = s.refPhase ∧ (s.checkReference r).freeCount = s.freeCount ∧
    (s.checkReference r).pending = s.pending := by
  generalize h : s.checkReference r = t
  unfold State.checkReference at h
  try dsimp only at h
  (repeat' split at h) <;> subst h <;> simp

@[simp] theorem State.loadSlot_frame (s : State) (r : Int) :
    (s.loadSlot r).power = s.power ∧ (s.loadSlot r).queue = s.queue ∧ (s.loadSlot r).programs = s.programs ∧
    (s.loadSlot r).results = s.results ∧ (s.loadSlot r).arbiter = s.arbiter ∧ (s.loadSlot r).meter = s.meter ∧
    (s.loadSlot r).strain = s.strain ∧ (s.loadSlot r).rate = s.rate ∧ (s.loadSlot r).inputs = s.inputs ∧
    (s.loadSlot r).config = s.config ∧ (s.loadSlot r).refPhase = s.refPhase ∧
    (s.loadSlot r).freeCount = s.freeCount ∧ (s.loadSlot r).pending = s.pending := by
  generalize h : s.loadSlot r = t
  unfold State.loadSlot at h
  try dsimp only at h
  (repeat' split at h) <;> subst h <;> simp

@[simp] theorem State.afterLoadEvent_frame (s : State) (before : LoadUnit) :
    (s.afterLoadEvent before).power = s.power ∧ (s.afterLoadEvent before).programs = s.programs ∧
    (s.afterLoadEvent before).meter = s.meter ∧ (s.afterLoadEvent before).link = s.link ∧
    (s.afterLoadEvent before).rate = s.rate ∧ (s.afterLoadEvent before).eval = s.eval ∧
    (s.afterLoadEvent before).inputs = s.inputs ∧ (s.afterLoadEvent before).config = s.config ∧
    (s.afterLoadEvent before).refPhase = s.refPhase ∧ (s.afterLoadEvent before).freeCount = s.freeCount ∧
    (s.afterLoadEvent before).pending = s.pending := by
  generalize h : s.afterLoadEvent before = t
  unfold State.afterLoadEvent at h
  try dsimp only at h
  (repeat' split at h) <;> subst h <;> simp

@[simp] theorem State.countStaleness_frame (s : State) :
    (s.countStaleness).power = s.power ∧ (s.countStaleness).queue = s.queue ∧
    (s.countStaleness).programs = s.programs ∧ (s.countStaleness).results = s.results ∧
    (s.countStaleness).arbiter = s.arbiter ∧ (s.countStaleness).drive = s.drive ∧
    (s.countStaleness).meter = s.meter ∧ (s.countStaleness).load = s.load ∧
    (s.countStaleness).strain = s.strain ∧ (s.countStaleness).seq = s.seq ∧ (s.countStaleness).rate = s.rate ∧
    (s.countStaleness).eval = s.eval ∧ (s.countStaleness).inputs = s.inputs ∧
    (s.countStaleness).config = s.config ∧ (s.countStaleness).refPhase = s.refPhase ∧
    (s.countStaleness).freeCount = s.freeCount ∧ (s.countStaleness).pending = s.pending := by
  generalize h : s.countStaleness = t
  unfold State.countStaleness at h
  try dsimp only at h
  (repeat' split at h) <;> subst h <;> simp

@[simp] theorem State.countDuration_frame (s : State) :
    (s.countDuration).power = s.power ∧ (s.countDuration).ports = s.ports ∧ (s.countDuration).queue = s.queue ∧
    (s.countDuration).programs = s.programs ∧ (s.countDuration).results = s.results ∧
    (s.countDuration).arbiter = s.arbiter ∧ (s.countDuration).drive = s.drive ∧
    (s.countDuration).meter = s.meter ∧ (s.countDuration).load = s.load ∧ (s.countDuration).link = s.link ∧
    (s.countDuration).strain = s.strain ∧ (s.countDuration).rate = s.rate ∧ (s.countDuration).eval = s.eval ∧
    (s.countDuration).inputs = s.inputs ∧ (s.countDuration).config = s.config ∧
    (s.countDuration).refPhase = s.refPhase ∧ (s.countDuration).freeCount = s.freeCount ∧
    (s.countDuration).pending = s.pending := by
  generalize h : s.countDuration = t
  unfold State.countDuration at h
  try dsimp only at h
  (repeat' split at h) <;> subst h <;> simp

@[simp] theorem State.measure_frame (s : State) (b : ProgramBody) (force : Int) :
    ((s.measure b force).1).power = s.power ∧ ((s.measure b force).1).ports = s.ports ∧
    ((s.measure b force).1).queue = s.queue ∧ ((s.measure b force).1).programs = s.programs ∧
    ((s.measure b force).1).results = s.results ∧ ((s.measure b force).1).arbiter = s.arbiter ∧
    ((s.measure b force).1).drive = s.drive ∧ ((s.measure b force).1).meter = s.meter ∧
    ((s.measure b force).1).load = s.load ∧ ((s.measure b force).1).link = s.link ∧
    ((s.measure b force).1).rate = s.rate ∧ ((s.measure b force).1).inputs = s.inputs ∧
    ((s.measure b force).1).config = s.config ∧ ((s.measure b force).1).refPhase = s.refPhase ∧
    ((s.measure b force).1).freeCount = s.freeCount ∧ ((s.measure b force).1).pending = s.pending :=
  ⟨rfl, rfl, rfl, rfl, rfl, rfl, rfl, rfl, rfl, rfl, rfl, rfl, rfl, rfl, rfl, rfl⟩

@[simp] theorem State.handOff_frame (s : State) :
    (s.handOff).power = s.power ∧ (s.handOff).ports = s.ports ∧ (s.handOff).queue = s.queue ∧
    (s.handOff).programs = s.programs ∧ (s.handOff).results = s.results ∧ (s.handOff).arbiter = s.arbiter ∧
    (s.handOff).drive = s.drive ∧ (s.handOff).meter = s.meter ∧ (s.handOff).load = s.load ∧
    (s.handOff).link = s.link ∧ (s.handOff).rate = s.rate ∧ (s.handOff).eval = s.eval ∧
    (s.handOff).inputs = s.inputs ∧ (s.handOff).config = s.config ∧ (s.handOff).refPhase = s.refPhase ∧
    (s.handOff).freeCount = s.freeCount ∧ (s.handOff).pending = s.pending := by
  generalize h : s.handOff = t
  unfold State.handOff at h
  try dsimp only at h
  (repeat' split at h) <;> subst h <;> simp

@[simp] theorem State.extensometerStep_frame (s : State) (b : ProgramBody) (force : Int) :
    (s.extensometerStep b force).power = s.power ∧ (s.extensometerStep b force).queue = s.queue ∧
    (s.extensometerStep b force).programs = s.programs ∧ (s.extensometerStep b force).results = s.results ∧
    (s.extensometerStep b force).arbiter = s.arbiter ∧ (s.extensometerStep b force).drive = s.drive ∧
    (s.extensometerStep b force).meter = s.meter ∧ (s.extensometerStep b force).load = s.load ∧
    (s.extensometerStep b force).rate = s.rate ∧ (s.extensometerStep b force).eval = s.eval ∧
    (s.extensometerStep b force).inputs = s.inputs ∧ (s.extensometerStep b force).config = s.config ∧
    (s.extensometerStep b force).refPhase = s.refPhase ∧ (s.extensometerStep b force).freeCount = s.freeCount ∧
    (s.extensometerStep b force).pending = s.pending := by
  generalize h : s.extensometerStep b force = t
  unfold State.extensometerStep at h
  try dsimp only at h
  (repeat' split at h) <;> subst h <;> simp

@[simp] theorem State.endEventStep_frame (s : State) :
    (s.endEventStep).power = s.power ∧ (s.endEventStep).ports = s.ports ∧ (s.endEventStep).queue = s.queue ∧
    (s.endEventStep).programs = s.programs ∧ (s.endEventStep).results = s.results ∧
    (s.endEventStep).arbiter = s.arbiter ∧ (s.endEventStep).drive = s.drive ∧
    (s.endEventStep).meter = s.meter ∧ (s.endEventStep).load = s.load ∧ (s.endEventStep).link = s.link ∧
    (s.endEventStep).strain = s.strain ∧ (s.endEventStep).eval = s.eval ∧ (s.endEventStep).inputs = s.inputs ∧
    (s.endEventStep).config = s.config ∧ (s.endEventStep).refPhase = s.refPhase ∧
    (s.endEventStep).freeCount = s.freeCount ∧ (s.endEventStep).pending = s.pending := by
  generalize h : s.endEventStep = t
  unfold State.endEventStep at h
  try dsimp only at h
  (repeat' split at h) <;> subst h <;> simp

@[simp] theorem State.commandStep_frame (s : State) :
    (s.commandStep).power = s.power ∧ (s.commandStep).ports = s.ports ∧ (s.commandStep).queue = s.queue ∧
    (s.commandStep).programs = s.programs ∧ (s.commandStep).results = s.results ∧
    (s.commandStep).arbiter = s.arbiter ∧ (s.commandStep).meter = s.meter ∧ (s.commandStep).load = s.load ∧
    (s.commandStep).link = s.link ∧ (s.commandStep).strain = s.strain ∧ (s.commandStep).seq = s.seq ∧
    (s.commandStep).eval = s.eval ∧ (s.commandStep).inputs = s.inputs ∧ (s.commandStep).config = s.config ∧
    (s.commandStep).refPhase = s.refPhase ∧ (s.commandStep).freeCount = s.freeCount ∧
    (s.commandStep).pending = s.pending := by
  generalize h : s.commandStep = t
  unfold State.commandStep at h
  try dsimp only at h
  (repeat' split at h) <;> subst h <;> simp

@[simp] theorem State.judge_frame (s : State) (b : ProgramBody) (force : Int) (fractured : Bool) :
    (s.judge b force fractured).power = s.power ∧ (s.judge b force fractured).queue = s.queue ∧
    (s.judge b force fractured).programs = s.programs ∧ (s.judge b force fractured).results = s.results ∧
    (s.judge b force fractured).arbiter = s.arbiter ∧ (s.judge b force fractured).meter = s.meter ∧
    (s.judge b force fractured).load = s.load ∧ (s.judge b force fractured).inputs = s.inputs ∧
    (s.judge b force fractured).config = s.config ∧ (s.judge b force fractured).refPhase = s.refPhase ∧
    (s.judge b force fractured).freeCount = s.freeCount ∧ (s.judge b force fractured).pending = s.pending := by
  generalize h : s.judge b force fractured = t
  unfold State.judge at h
  try dsimp only at h
  (repeat' split at h) <;> subst h <;> simp

@[simp] theorem State.runSample_frame (s : State) (b : ProgramBody) (force : Int) :
    (s.runSample b force).power = s.power ∧ (s.runSample b force).queue = s.queue ∧
    (s.runSample b force).programs = s.programs ∧ (s.runSample b force).results = s.results ∧
    (s.runSample b force).arbiter = s.arbiter ∧ (s.runSample b force).meter = s.meter ∧
    (s.runSample b force).load = s.load ∧ (s.runSample b force).inputs = s.inputs ∧
    (s.runSample b force).config = s.config ∧ (s.runSample b force).refPhase = s.refPhase ∧
    (s.runSample b force).freeCount = s.freeCount ∧ (s.runSample b force).pending = s.pending := by
  generalize h : s.runSample b force = t
  unfold State.runSample at h
  try dsimp only at h
  (repeat' split at h) <;> subst h <;> simp

@[simp] theorem State.enterAttach_frame (s : State) :
    (s.enterAttach).power = s.power ∧ (s.enterAttach).queue = s.queue ∧ (s.enterAttach).programs = s.programs ∧
    (s.enterAttach).results = s.results ∧ (s.enterAttach).arbiter = s.arbiter ∧
    (s.enterAttach).meter = s.meter ∧ (s.enterAttach).load = s.load ∧ (s.enterAttach).inputs = s.inputs ∧
    (s.enterAttach).config = s.config ∧ (s.enterAttach).refPhase = s.refPhase ∧
    (s.enterAttach).freeCount = s.freeCount ∧ (s.enterAttach).pending = s.pending := by
  generalize h : s.enterAttach = t
  unfold State.enterAttach at h
  try dsimp only at h
  (repeat' split at h) <;> subst h <;> simp

@[simp] theorem State.reachPreload_frame (s : State) (b : ProgramBody) (force : Int) :
    (s.reachPreload b force).power = s.power ∧ (s.reachPreload b force).queue = s.queue ∧
    (s.reachPreload b force).programs = s.programs ∧ (s.reachPreload b force).results = s.results ∧
    (s.reachPreload b force).arbiter = s.arbiter ∧ (s.reachPreload b force).meter = s.meter ∧
    (s.reachPreload b force).load = s.load ∧ (s.reachPreload b force).inputs = s.inputs ∧
    (s.reachPreload b force).config = s.config ∧ (s.reachPreload b force).refPhase = s.refPhase ∧
    (s.reachPreload b force).freeCount = s.freeCount ∧ (s.reachPreload b force).pending = s.pending := by
  generalize h : s.reachPreload b force = t
  unfold State.reachPreload at h
  try dsimp only at h
  (repeat' split at h) <;> subst h <;> simp

@[simp] theorem State.approachSample_frame (s : State) (b : ProgramBody) :
    (s.approachSample b).power = s.power ∧ (s.approachSample b).queue = s.queue ∧
    (s.approachSample b).programs = s.programs ∧ (s.approachSample b).results = s.results ∧
    (s.approachSample b).arbiter = s.arbiter ∧ (s.approachSample b).meter = s.meter ∧
    (s.approachSample b).load = s.load ∧ (s.approachSample b).inputs = s.inputs ∧
    (s.approachSample b).config = s.config ∧ (s.approachSample b).refPhase = s.refPhase ∧
    (s.approachSample b).freeCount = s.freeCount ∧ (s.approachSample b).pending = s.pending := by
  unfold State.approachSample
  split <;> simp

@[simp] theorem State.preloadSample_frame (s : State) (b : ProgramBody) (force : Int) :
    (s.preloadSample b force).power = s.power ∧ (s.preloadSample b force).queue = s.queue ∧
    (s.preloadSample b force).programs = s.programs ∧ (s.preloadSample b force).results = s.results ∧
    (s.preloadSample b force).arbiter = s.arbiter ∧ (s.preloadSample b force).meter = s.meter ∧
    (s.preloadSample b force).load = s.load ∧ (s.preloadSample b force).inputs = s.inputs ∧
    (s.preloadSample b force).config = s.config ∧ (s.preloadSample b force).refPhase = s.refPhase ∧
    (s.preloadSample b force).freeCount = s.freeCount ∧ (s.preloadSample b force).pending = s.pending := by
  generalize h : s.preloadSample b force = t
  unfold State.preloadSample at h
  try dsimp only at h
  (repeat' split at h) <;> subst h <;> simp

@[simp] theorem State.attachSample_frame (s : State) (b : ProgramBody) (force : Int) :
    (s.attachSample b force).power = s.power ∧ (s.attachSample b force).queue = s.queue ∧
    (s.attachSample b force).programs = s.programs ∧ (s.attachSample b force).results = s.results ∧
    (s.attachSample b force).arbiter = s.arbiter ∧ (s.attachSample b force).meter = s.meter ∧
    (s.attachSample b force).load = s.load ∧ (s.attachSample b force).inputs = s.inputs ∧
    (s.attachSample b force).config = s.config ∧ (s.attachSample b force).refPhase = s.refPhase ∧
    (s.attachSample b force).freeCount = s.freeCount ∧ (s.attachSample b force).pending = s.pending := by
  generalize h : s.attachSample b force = t
  unfold State.attachSample at h
  try dsimp only at h
  (repeat' split at h) <;> subst h <;> simp

@[simp] theorem State.endingSample_frame (s : State) (b : ProgramBody) (force : Int) :
    (s.endingSample b force).power = s.power ∧ (s.endingSample b force).queue = s.queue ∧
    (s.endingSample b force).programs = s.programs ∧ (s.endingSample b force).results = s.results ∧
    (s.endingSample b force).arbiter = s.arbiter ∧ (s.endingSample b force).meter = s.meter ∧
    (s.endingSample b force).load = s.load ∧ (s.endingSample b force).inputs = s.inputs ∧
    (s.endingSample b force).config = s.config ∧ (s.endingSample b force).refPhase = s.refPhase ∧
    (s.endingSample b force).freeCount = s.freeCount ∧ (s.endingSample b force).pending = s.pending := by
  generalize h : s.endingSample b force = t
  unfold State.endingSample at h
  try dsimp only at h
  (repeat' split at h) <;> subst h <;> simp

@[simp] theorem State.absentSample_frame (s : State) (b : ProgramBody) :
    (s.absentSample b).power = s.power ∧ (s.absentSample b).queue = s.queue ∧
    (s.absentSample b).programs = s.programs ∧ (s.absentSample b).results = s.results ∧
    (s.absentSample b).arbiter = s.arbiter ∧ (s.absentSample b).meter = s.meter ∧
    (s.absentSample b).load = s.load ∧ (s.absentSample b).inputs = s.inputs ∧
    (s.absentSample b).config = s.config ∧ (s.absentSample b).refPhase = s.refPhase ∧
    (s.absentSample b).freeCount = s.freeCount ∧ (s.absentSample b).pending = s.pending := by
  unfold State.absentSample
  split <;> simp

@[simp] theorem State.sampleTest_frame (s : State) :
    (s.sampleTest).power = s.power ∧ (s.sampleTest).queue = s.queue ∧ (s.sampleTest).programs = s.programs ∧
    (s.sampleTest).results = s.results ∧ (s.sampleTest).arbiter = s.arbiter ∧ (s.sampleTest).meter = s.meter ∧
    (s.sampleTest).load = s.load ∧ (s.sampleTest).inputs = s.inputs ∧ (s.sampleTest).config = s.config ∧
    (s.sampleTest).refPhase = s.refPhase ∧ (s.sampleTest).freeCount = s.freeCount ∧
    (s.sampleTest).pending = s.pending := by
  generalize h : s.sampleTest = t
  unfold State.sampleTest at h
  try dsimp only at h
  (repeat' split at h) <;> subst h <;> simp

@[simp] theorem State.conversionSlot_frame (s : State) (r : Int) :
    (s.conversionSlot r).power = s.power ∧ (s.conversionSlot r).meter = s.meter ∧
    (s.conversionSlot r).inputs = s.inputs ∧ (s.conversionSlot r).config = s.config ∧
    (s.conversionSlot r).refPhase = s.refPhase ∧ (s.conversionSlot r).freeCount = s.freeCount ∧
    (s.conversionSlot r).pending = s.pending := by
  generalize h : s.conversionSlot r = t
  unfold State.conversionSlot at h
  try dsimp only at h
  (repeat' split at h) <;> subst h <;> simp

end Sys2Proof.Machine
end

