-- ==== Sys2Proof/Laws/Blocks.lean ====
section
/-! SUPPORT. What the operations of the other blocks leave as it was. -/

namespace Sys2Proof.Machine

@[simp] theorem State.append_frame (s : State) (e : SpecimenEntry) :
    (s.append e).power = s.power ∧ (s.append e).results = s.results ∧ (s.append e).arbiter = s.arbiter ∧
    (s.append e).drive = s.drive ∧ (s.append e).meter = s.meter ∧ (s.append e).load = s.load ∧
    (s.append e).link = s.link ∧ (s.append e).strain = s.strain ∧ (s.append e).seq = s.seq ∧
    (s.append e).rate = s.rate ∧ (s.append e).eval = s.eval ∧ (s.append e).inputs = s.inputs ∧
    (s.append e).config = s.config ∧ (s.append e).refPhase = s.refPhase ∧
    (s.append e).freeCount = s.freeCount ∧ (s.append e).pending = s.pending :=
  ⟨rfl, rfl, rfl, rfl, rfl, rfl, rfl, rfl, rfl, rfl, rfl, rfl, rfl, rfl, rfl, rfl⟩

@[simp] theorem State.removeEntry_frame (s : State) (e : SpecimenEntry) :
    (s.removeEntry e).power = s.power ∧ (s.removeEntry e).ports = s.ports ∧
    (s.removeEntry e).results = s.results ∧ (s.removeEntry e).arbiter = s.arbiter ∧
    (s.removeEntry e).drive = s.drive ∧ (s.removeEntry e).meter = s.meter ∧ (s.removeEntry e).load = s.load ∧
    (s.removeEntry e).link = s.link ∧ (s.removeEntry e).strain = s.strain ∧ (s.removeEntry e).rate = s.rate ∧
    (s.removeEntry e).eval = s.eval ∧ (s.removeEntry e).inputs = s.inputs ∧
    (s.removeEntry e).config = s.config ∧ (s.removeEntry e).refPhase = s.refPhase ∧
    (s.removeEntry e).freeCount = s.freeCount ∧ (s.removeEntry e).pending = s.pending := by
  generalize h : s.removeEntry e = t
  unfold State.removeEntry at h
  try dsimp only at h
  (repeat' split at h) <;> subst h <;> simp

@[simp] theorem State.setProgram_frame (s : State) (slot : Nat) (b : Option ProgramBody) :
    (s.setProgram slot b).power = s.power ∧ (s.setProgram slot b).ports = s.ports ∧
    (s.setProgram slot b).queue = s.queue ∧ (s.setProgram slot b).results = s.results ∧
    (s.setProgram slot b).arbiter = s.arbiter ∧ (s.setProgram slot b).drive = s.drive ∧
    (s.setProgram slot b).meter = s.meter ∧ (s.setProgram slot b).load = s.load ∧
    (s.setProgram slot b).link = s.link ∧ (s.setProgram slot b).strain = s.strain ∧
    (s.setProgram slot b).seq = s.seq ∧ (s.setProgram slot b).rate = s.rate ∧
    (s.setProgram slot b).eval = s.eval ∧ (s.setProgram slot b).inputs = s.inputs ∧
    (s.setProgram slot b).config = s.config ∧ (s.setProgram slot b).refPhase = s.refPhase ∧
    (s.setProgram slot b).freeCount = s.freeCount ∧ (s.setProgram slot b).pending = s.pending :=
  ⟨rfl, rfl, rfl, rfl, rfl, rfl, rfl, rfl, rfl, rfl, rfl, rfl, rfl, rfl, rfl, rfl, rfl, rfl⟩

@[simp] theorem State.enterHold_frame (s : State) :
    (s.enterHold).power = s.power ∧ (s.enterHold).ports = s.ports ∧ (s.enterHold).queue = s.queue ∧
    (s.enterHold).programs = s.programs ∧ (s.enterHold).results = s.results ∧
    (s.enterHold).arbiter = s.arbiter ∧ (s.enterHold).meter = s.meter ∧ (s.enterHold).load = s.load ∧
    (s.enterHold).link = s.link ∧ (s.enterHold).strain = s.strain ∧ (s.enterHold).rate = s.rate ∧
    (s.enterHold).eval = s.eval ∧ (s.enterHold).inputs = s.inputs ∧ (s.enterHold).config = s.config ∧
    (s.enterHold).refPhase = s.refPhase ∧ (s.enterHold).freeCount = s.freeCount ∧
    (s.enterHold).pending = s.pending := by
  generalize h : s.enterHold = t
  unfold State.enterHold at h
  try dsimp only at h
  (repeat' split at h) <;> subst h <;> simp

@[simp] theorem State.noticeRevoked_frame (s : State) (holder : Option Party) :
    (s.noticeRevoked holder).power = s.power ∧ (s.noticeRevoked holder).queue = s.queue ∧
    (s.noticeRevoked holder).programs = s.programs ∧ (s.noticeRevoked holder).results = s.results ∧
    (s.noticeRevoked holder).arbiter = s.arbiter ∧ (s.noticeRevoked holder).drive = s.drive ∧
    (s.noticeRevoked holder).meter = s.meter ∧ (s.noticeRevoked holder).load = s.load ∧
    (s.noticeRevoked holder).link = s.link ∧ (s.noticeRevoked holder).strain = s.strain ∧
    (s.noticeRevoked holder).seq = s.seq ∧ (s.noticeRevoked holder).rate = s.rate ∧
    (s.noticeRevoked holder).eval = s.eval ∧ (s.noticeRevoked holder).inputs = s.inputs ∧
    (s.noticeRevoked holder).config = s.config ∧ (s.noticeRevoked holder).refPhase = s.refPhase ∧
    (s.noticeRevoked holder).freeCount = s.freeCount ∧ (s.noticeRevoked holder).pending = s.pending := by
  generalize h : s.noticeRevoked holder = t
  unfold State.noticeRevoked at h
  try dsimp only at h
  (repeat' split at h) <;> subst h <;> simp

@[simp] theorem State.setLatch_frame (s : State) :
    (s.setLatch).power = s.power ∧ (s.setLatch).meter = s.meter ∧ (s.setLatch).config = s.config ∧
    (s.setLatch).refPhase = s.refPhase ∧ (s.setLatch).freeCount = s.freeCount ∧ (s.setLatch).pending = s.pending := by
  generalize h : s.setLatch = t
  unfold State.setLatch at h
  try dsimp only at h
  (repeat' split at h) <;> subst h <;> simp

@[simp] theorem State.captureGrip_frame (s : State) (position : Word32) :
    (s.captureGrip position).power = s.power ∧ (s.captureGrip position).ports = s.ports ∧
    (s.captureGrip position).programs = s.programs ∧ (s.captureGrip position).results = s.results ∧
    (s.captureGrip position).arbiter = s.arbiter ∧ (s.captureGrip position).drive = s.drive ∧
    (s.captureGrip position).meter = s.meter ∧ (s.captureGrip position).load = s.load ∧
    (s.captureGrip position).link = s.link ∧ (s.captureGrip position).strain = s.strain ∧
    (s.captureGrip position).seq = s.seq ∧ (s.captureGrip position).rate = s.rate ∧
    (s.captureGrip position).eval = s.eval ∧ (s.captureGrip position).inputs = s.inputs ∧
    (s.captureGrip position).config = s.config ∧ (s.captureGrip position).refPhase = s.refPhase ∧
    (s.captureGrip position).freeCount = s.freeCount ∧ (s.captureGrip position).pending = s.pending := by
  generalize h : s.captureGrip position = t
  unfold State.captureGrip at h
  try dsimp only at h
  (repeat' split at h) <;> subst h <;> simp

@[simp] theorem State.gripsOpened_frame (s : State) :
    (s.gripsOpened).power = s.power ∧ (s.gripsOpened).meter = s.meter ∧ (s.gripsOpened).inputs = s.inputs ∧
    (s.gripsOpened).config = s.config ∧ (s.gripsOpened).refPhase = s.refPhase ∧
    (s.gripsOpened).freeCount = s.freeCount ∧ (s.gripsOpened).pending = s.pending := by
  generalize h : s.gripsOpened = t
  unfold State.gripsOpened at h
  try dsimp only at h
  (repeat' split at h) <;> subst h <;> simp

@[simp] theorem State.countFree_frame (s : State) (used : Bool) :
    (s.countFree used).power = s.power ∧ (s.countFree used).ports = s.ports ∧
    (s.countFree used).queue = s.queue ∧ (s.countFree used).programs = s.programs ∧
    (s.countFree used).results = s.results ∧ (s.countFree used).arbiter = s.arbiter ∧
    (s.countFree used).drive = s.drive ∧ (s.countFree used).meter = s.meter ∧
    (s.countFree used).load = s.load ∧ (s.countFree used).link = s.link ∧
    (s.countFree used).strain = s.strain ∧ (s.countFree used).seq = s.seq ∧ (s.countFree used).rate = s.rate ∧
    (s.countFree used).eval = s.eval ∧ (s.countFree used).inputs = s.inputs ∧
    (s.countFree used).config = s.config ∧ (s.countFree used).refPhase = s.refPhase ∧
    (s.countFree used).pending = s.pending := by
  generalize h : s.countFree used = t
  unfold State.countFree at h
  try dsimp only at h
  (repeat' split at h) <;> subst h <;> simp

@[simp] theorem State.answerCommand_frame (s : State) :
    (s.answerCommand).power = s.power ∧ (s.answerCommand).queue = s.queue ∧
    (s.answerCommand).programs = s.programs ∧ (s.answerCommand).results = s.results ∧
    (s.answerCommand).arbiter = s.arbiter ∧ (s.answerCommand).drive = s.drive ∧
    (s.answerCommand).meter = s.meter ∧ (s.answerCommand).load = s.load ∧ (s.answerCommand).strain = s.strain ∧
    (s.answerCommand).seq = s.seq ∧ (s.answerCommand).rate = s.rate ∧ (s.answerCommand).eval = s.eval ∧
    (s.answerCommand).inputs = s.inputs ∧ (s.answerCommand).config = s.config ∧
    (s.answerCommand).refPhase = s.refPhase ∧ (s.answerCommand).freeCount = s.freeCount ∧
    (s.answerCommand).pending = s.pending := by
  generalize h : s.answerCommand = t
  unfold State.answerCommand at h
  try dsimp only at h
  (repeat' split at h) <;> subst h <;> simp

@[simp] theorem State.handStreamOn_frame (s : State) :
    (s.handStreamOn).power = s.power ∧ (s.handStreamOn).ports = s.ports ∧ (s.handStreamOn).queue = s.queue ∧
    (s.handStreamOn).programs = s.programs ∧ (s.handStreamOn).results = s.results ∧
    (s.handStreamOn).arbiter = s.arbiter ∧ (s.handStreamOn).drive = s.drive ∧
    (s.handStreamOn).meter = s.meter ∧ (s.handStreamOn).load = s.load ∧ (s.handStreamOn).strain = s.strain ∧
    (s.handStreamOn).seq = s.seq ∧ (s.handStreamOn).rate = s.rate ∧ (s.handStreamOn).eval = s.eval ∧
    (s.handStreamOn).inputs = s.inputs ∧ (s.handStreamOn).config = s.config ∧
    (s.handStreamOn).refPhase = s.refPhase ∧ (s.handStreamOn).freeCount = s.freeCount ∧
    (s.handStreamOn).pending = s.pending :=
  ⟨rfl, rfl, rfl, rfl, rfl, rfl, rfl, rfl, rfl, rfl, rfl, rfl, rfl, rfl, rfl, rfl, rfl, rfl⟩

@[simp] theorem State.armsConfirmedOpen_frame (s : State) :
    (s.armsConfirmedOpen).power = s.power ∧ (s.armsConfirmedOpen).meter = s.meter ∧
    (s.armsConfirmedOpen).inputs = s.inputs ∧ (s.armsConfirmedOpen).config = s.config ∧
    (s.armsConfirmedOpen).refPhase = s.refPhase ∧ (s.armsConfirmedOpen).freeCount = s.freeCount ∧
    (s.armsConfirmedOpen).pending = s.pending := by
  generalize h : s.armsConfirmedOpen = t
  unfold State.armsConfirmedOpen at h
  try dsimp only at h
  (repeat' split at h) <;> subst h <;> simp

theorem State.armsConfirmedOpen_frame_of_not_waiting (s : State) (attach : s.seq.state ≠ .attach)
    (ending : s.seq.state ≠ .ending) :
    (s.armsConfirmedOpen).power = s.power ∧ (s.armsConfirmedOpen).queue = s.queue ∧
    (s.armsConfirmedOpen).programs = s.programs ∧ (s.armsConfirmedOpen).results = s.results ∧
    (s.armsConfirmedOpen).arbiter = s.arbiter ∧ (s.armsConfirmedOpen).drive = s.drive ∧
    (s.armsConfirmedOpen).meter = s.meter ∧ (s.armsConfirmedOpen).load = s.load ∧
    (s.armsConfirmedOpen).strain = s.strain ∧ (s.armsConfirmedOpen).seq = s.seq ∧
    (s.armsConfirmedOpen).rate = s.rate ∧ (s.armsConfirmedOpen).eval = s.eval ∧
    (s.armsConfirmedOpen).inputs = s.inputs ∧ (s.armsConfirmedOpen).config = s.config ∧
    (s.armsConfirmedOpen).refPhase = s.refPhase ∧ (s.armsConfirmedOpen).freeCount = s.freeCount ∧
    (s.armsConfirmedOpen).pending = s.pending := by
  generalize h : s.armsConfirmedOpen = t
  unfold State.armsConfirmedOpen at h
  try dsimp only at h
  (repeat' split at h) <;> subst h <;>
    simp [State.arriveReady_frame_of_not_waiting, attach, ending]

@[simp] theorem State.armsOpened_frame (s : State) :
    (s.armsOpened).power = s.power ∧ (s.armsOpened).meter = s.meter ∧ (s.armsOpened).inputs = s.inputs ∧
    (s.armsOpened).config = s.config ∧ (s.armsOpened).refPhase = s.refPhase ∧
    (s.armsOpened).freeCount = s.freeCount ∧ (s.armsOpened).pending = s.pending := by
  generalize h : s.armsOpened = t
  unfold State.armsOpened at h
  try dsimp only at h
  (repeat' split at h) <;> subst h <;> simp

theorem State.armsOpened_frame_of_not_waiting (s : State) (attach : s.seq.state ≠ .attach)
    (ending : s.seq.state ≠ .ending) :
    (s.armsOpened).power = s.power ∧ (s.armsOpened).queue = s.queue ∧ (s.armsOpened).programs = s.programs ∧
    (s.armsOpened).results = s.results ∧ (s.armsOpened).arbiter = s.arbiter ∧ (s.armsOpened).drive = s.drive ∧
    (s.armsOpened).meter = s.meter ∧ (s.armsOpened).load = s.load ∧ (s.armsOpened).strain = s.strain ∧
    (s.armsOpened).seq = s.seq ∧ (s.armsOpened).rate = s.rate ∧ (s.armsOpened).eval = s.eval ∧
    (s.armsOpened).inputs = s.inputs ∧ (s.armsOpened).config = s.config ∧ (s.armsOpened).refPhase = s.refPhase ∧
    (s.armsOpened).freeCount = s.freeCount ∧ (s.armsOpened).pending = s.pending := by
  generalize h : s.armsOpened = t
  unfold State.armsOpened at h
  try dsimp only at h
  (repeat' split at h) <;> subst h <;>
    simp [State.arriveReady_frame_of_not_waiting, attach, ending]

@[simp] theorem State.statusActs_frame (s : State) (found : LinkState) (slept : Bool) (arms : ArmsState) (fault : Octet) :
    (s.statusActs found slept arms fault).power = s.power ∧
    (s.statusActs found slept arms fault).meter = s.meter ∧
    (s.statusActs found slept arms fault).inputs = s.inputs ∧
    (s.statusActs found slept arms fault).config = s.config ∧
    (s.statusActs found slept arms fault).refPhase = s.refPhase ∧
    (s.statusActs found slept arms fault).freeCount = s.freeCount ∧
    (s.statusActs found slept arms fault).pending = s.pending := by
  generalize h : s.statusActs found slept arms fault = t
  unfold State.statusActs at h
  try dsimp only at h
  (repeat' split at h) <;> subst h <;> simp

theorem State.statusActs_frame_of_not_waiting (s : State) (found : LinkState) (slept : Bool) (arms : ArmsState) (fault : Octet) (attach : s.seq.state ≠ .attach)
    (ending : s.seq.state ≠ .ending) :
    (s.statusActs found slept arms fault).power = s.power ∧
    (s.statusActs found slept arms fault).queue = s.queue ∧
    (s.statusActs found slept arms fault).programs = s.programs ∧
    (s.statusActs found slept arms fault).results = s.results ∧
    (s.statusActs found slept arms fault).arbiter = s.arbiter ∧
    (s.statusActs found slept arms fault).drive = s.drive ∧
    (s.statusActs found slept arms fault).meter = s.meter ∧
    (s.statusActs found slept arms fault).load = s.load ∧
    (s.statusActs found slept arms fault).strain = s.strain ∧
    (s.statusActs found slept arms fault).seq = s.seq ∧ (s.statusActs found slept arms fault).rate = s.rate ∧
    (s.statusActs found slept arms fault).eval = s.eval ∧
    (s.statusActs found slept arms fault).inputs = s.inputs ∧
    (s.statusActs found slept arms fault).config = s.config ∧
    (s.statusActs found slept arms fault).refPhase = s.refPhase ∧
    (s.statusActs found slept arms fault).freeCount = s.freeCount ∧
    (s.statusActs found slept arms fault).pending = s.pending := by
  generalize h : s.statusActs found slept arms fault = t
  unfold State.statusActs at h
  try dsimp only at h
  (repeat' split at h) <;> subst h <;>
    simp [State.armsConfirmedOpen_frame_of_not_waiting, State.armsOpened_frame_of_not_waiting,
      State.arriveAsleep_frame_of_not_waiting, attach, ending]

@[simp] theorem State.takeStatus_frame (s : State) (arms : ArmsState) (fault : Octet) :
    (s.takeStatus arms fault).power = s.power ∧ (s.takeStatus arms fault).meter = s.meter ∧
    (s.takeStatus arms fault).inputs = s.inputs ∧ (s.takeStatus arms fault).config = s.config ∧
    (s.takeStatus arms fault).refPhase = s.refPhase ∧ (s.takeStatus arms fault).freeCount = s.freeCount ∧
    (s.takeStatus arms fault).pending = s.pending := by
  generalize h : s.takeStatus arms fault = t
  unfold State.takeStatus at h
  try dsimp only at h
  (repeat' split at h) <;> subst h <;> simp

theorem State.takeStatus_frame_of_not_waiting (s : State) (arms : ArmsState) (fault : Octet) (attach : s.seq.state ≠ .attach)
    (ending : s.seq.state ≠ .ending) :
    (s.takeStatus arms fault).power = s.power ∧ (s.takeStatus arms fault).queue = s.queue ∧
    (s.takeStatus arms fault).programs = s.programs ∧ (s.takeStatus arms fault).results = s.results ∧
    (s.takeStatus arms fault).arbiter = s.arbiter ∧ (s.takeStatus arms fault).drive = s.drive ∧
    (s.takeStatus arms fault).meter = s.meter ∧ (s.takeStatus arms fault).load = s.load ∧
    (s.takeStatus arms fault).strain = s.strain ∧ (s.takeStatus arms fault).seq = s.seq ∧
    (s.takeStatus arms fault).rate = s.rate ∧ (s.takeStatus arms fault).eval = s.eval ∧
    (s.takeStatus arms fault).inputs = s.inputs ∧ (s.takeStatus arms fault).config = s.config ∧
    (s.takeStatus arms fault).refPhase = s.refPhase ∧ (s.takeStatus arms fault).freeCount = s.freeCount ∧
    (s.takeStatus arms fault).pending = s.pending := by
  generalize h : s.takeStatus arms fault = t
  unfold State.takeStatus at h
  try dsimp only at h
  (repeat' split at h) <;> subst h <;>
    simp [State.statusActs_frame_of_not_waiting, attach, ending]

@[simp] theorem State.acceptReading_frame (s : State) (r : Reading) :
    (s.acceptReading r).power = s.power ∧ (s.acceptReading r).ports = s.ports ∧
    (s.acceptReading r).queue = s.queue ∧ (s.acceptReading r).programs = s.programs ∧
    (s.acceptReading r).results = s.results ∧ (s.acceptReading r).arbiter = s.arbiter ∧
    (s.acceptReading r).drive = s.drive ∧ (s.acceptReading r).meter = s.meter ∧
    (s.acceptReading r).load = s.load ∧ (s.acceptReading r).seq = s.seq ∧ (s.acceptReading r).rate = s.rate ∧
    (s.acceptReading r).eval = s.eval ∧ (s.acceptReading r).inputs = s.inputs ∧
    (s.acceptReading r).config = s.config ∧ (s.acceptReading r).refPhase = s.refPhase ∧
    (s.acceptReading r).freeCount = s.freeCount ∧ (s.acceptReading r).pending = s.pending :=
  ⟨rfl, rfl, rfl, rfl, rfl, rfl, rfl, rfl, rfl, rfl, rfl, rfl, rfl, rfl, rfl, rfl, rfl⟩

@[simp] theorem State.enterStreaming_frame (s : State) :
    (s.enterStreaming).power = s.power ∧ (s.enterStreaming).queue = s.queue ∧
    (s.enterStreaming).programs = s.programs ∧ (s.enterStreaming).results = s.results ∧
    (s.enterStreaming).arbiter = s.arbiter ∧ (s.enterStreaming).drive = s.drive ∧
    (s.enterStreaming).meter = s.meter ∧ (s.enterStreaming).load = s.load ∧
    (s.enterStreaming).strain = s.strain ∧ (s.enterStreaming).seq = s.seq ∧ (s.enterStreaming).rate = s.rate ∧
    (s.enterStreaming).eval = s.eval ∧ (s.enterStreaming).inputs = s.inputs ∧
    (s.enterStreaming).config = s.config ∧ (s.enterStreaming).refPhase = s.refPhase ∧
    (s.enterStreaming).freeCount = s.freeCount ∧ (s.enterStreaming).pending = s.pending :=
  ⟨rfl, rfl, rfl, rfl, rfl, rfl, rfl, rfl, rfl, rfl, rfl, rfl, rfl, rfl, rfl, rfl, rfl⟩

@[simp] theorem State.takeReading_frame (s : State) (r : Reading) :
    (s.takeReading r).power = s.power ∧ (s.takeReading r).queue = s.queue ∧
    (s.takeReading r).programs = s.programs ∧ (s.takeReading r).results = s.results ∧
    (s.takeReading r).arbiter = s.arbiter ∧ (s.takeReading r).drive = s.drive ∧
    (s.takeReading r).meter = s.meter ∧ (s.takeReading r).load = s.load ∧ (s.takeReading r).seq = s.seq ∧
    (s.takeReading r).rate = s.rate ∧ (s.takeReading r).eval = s.eval ∧ (s.takeReading r).inputs = s.inputs ∧
    (s.takeReading r).config = s.config ∧ (s.takeReading r).refPhase = s.refPhase ∧
    (s.takeReading r).freeCount = s.freeCount ∧ (s.takeReading r).pending = s.pending := by
  generalize h : s.takeReading r = t
  unfold State.takeReading at h
  try dsimp only at h
  (repeat' split at h) <;> subst h <;> simp

@[simp] theorem State.sleepMissed_frame (s : State) :
    (s.sleepMissed).power = s.power ∧ (s.sleepMissed).meter = s.meter ∧ (s.sleepMissed).inputs = s.inputs ∧
    (s.sleepMissed).config = s.config ∧ (s.sleepMissed).refPhase = s.refPhase ∧
    (s.sleepMissed).freeCount = s.freeCount ∧ (s.sleepMissed).pending = s.pending := by
  simp [State.sleepMissed]

@[simp] theorem State.commandMissed_frame (s : State) (c : QueuedCommand) :
    (s.commandMissed c).power = s.power ∧ (s.commandMissed c).meter = s.meter ∧
    (s.commandMissed c).inputs = s.inputs ∧ (s.commandMissed c).config = s.config ∧
    (s.commandMissed c).refPhase = s.refPhase ∧ (s.commandMissed c).freeCount = s.freeCount ∧
    (s.commandMissed c).pending = s.pending := by
  generalize h : s.commandMissed c = t
  unfold State.commandMissed at h
  try dsimp only at h
  (repeat' split at h) <;> subst h <;> simp

@[simp] theorem State.lockTaken_frame (s : State) (count : Nat) :
    (s.lockTaken count).power = s.power ∧ (s.lockTaken count).meter = s.meter ∧
    (s.lockTaken count).inputs = s.inputs ∧ (s.lockTaken count).config = s.config ∧
    (s.lockTaken count).refPhase = s.refPhase ∧ (s.lockTaken count).freeCount = s.freeCount ∧
    (s.lockTaken count).pending = s.pending := by
  generalize h : s.lockTaken count = t
  unfold State.lockTaken at h
  try dsimp only at h
  (repeat' split at h) <;> subst h <;> simp

theorem State.lockTaken_frame_of_not_waiting (s : State) (count : Nat) (attach : s.seq.state ≠ .attach)
    (ending : s.seq.state ≠ .ending) :
    (s.lockTaken count).power = s.power ∧ (s.lockTaken count).queue = s.queue ∧
    (s.lockTaken count).programs = s.programs ∧ (s.lockTaken count).results = s.results ∧
    (s.lockTaken count).arbiter = s.arbiter ∧ (s.lockTaken count).drive = s.drive ∧
    (s.lockTaken count).meter = s.meter ∧ (s.lockTaken count).load = s.load ∧
    (s.lockTaken count).strain = s.strain ∧ (s.lockTaken count).seq = s.seq ∧
    (s.lockTaken count).rate = s.rate ∧ (s.lockTaken count).eval = s.eval ∧
    (s.lockTaken count).inputs = s.inputs ∧ (s.lockTaken count).config = s.config ∧
    (s.lockTaken count).refPhase = s.refPhase ∧ (s.lockTaken count).freeCount = s.freeCount ∧
    (s.lockTaken count).pending = s.pending := by
  generalize h : s.lockTaken count = t
  unfold State.lockTaken at h
  try dsimp only at h
  (repeat' split at h) <;> subst h <;>
    simp [State.arriveReady_frame_of_not_waiting, attach, ending]

@[simp] theorem State.revokePort_frame (s : State) (p : Role) :
    (s.revokePort p).power = s.power ∧ (s.revokePort p).programs = s.programs ∧
    (s.revokePort p).results = s.results ∧ (s.revokePort p).meter = s.meter ∧ (s.revokePort p).load = s.load ∧
    (s.revokePort p).link = s.link ∧ (s.revokePort p).rate = s.rate ∧ (s.revokePort p).eval = s.eval ∧
    (s.revokePort p).inputs = s.inputs ∧ (s.revokePort p).config = s.config ∧
    (s.revokePort p).refPhase = s.refPhase ∧ (s.revokePort p).freeCount = s.freeCount ∧
    (s.revokePort p).pending = s.pending := by
  generalize h : s.revokePort p = t
  unfold State.revokePort at h
  try dsimp only at h
  (repeat' split at h) <;> subst h <;> simp

@[simp] theorem State.forgetRequest_frame (s : State) (p : Role) :
    (s.forgetRequest p).power = s.power ∧ (s.forgetRequest p).ports = s.ports ∧
    (s.forgetRequest p).queue = s.queue ∧ (s.forgetRequest p).programs = s.programs ∧
    (s.forgetRequest p).results = s.results ∧ (s.forgetRequest p).drive = s.drive ∧
    (s.forgetRequest p).meter = s.meter ∧ (s.forgetRequest p).load = s.load ∧
    (s.forgetRequest p).link = s.link ∧ (s.forgetRequest p).strain = s.strain ∧
    (s.forgetRequest p).seq = s.seq ∧ (s.forgetRequest p).rate = s.rate ∧ (s.forgetRequest p).eval = s.eval ∧
    (s.forgetRequest p).inputs = s.inputs ∧ (s.forgetRequest p).config = s.config ∧
    (s.forgetRequest p).refPhase = s.refPhase ∧ (s.forgetRequest p).freeCount = s.freeCount ∧
    (s.forgetRequest p).pending = s.pending :=
  ⟨rfl, rfl, rfl, rfl, rfl, rfl, rfl, rfl, rfl, rfl, rfl, rfl, rfl, rfl, rfl, rfl, rfl, rfl⟩

@[simp] theorem State.recordAtReset_frame (s : State) (outcome : TestOutcome) (cause note : Option Cause) :
    (s.recordAtReset outcome cause note).power = s.power ∧
    (s.recordAtReset outcome cause note).arbiter = s.arbiter ∧
    (s.recordAtReset outcome cause note).drive = s.drive ∧
    (s.recordAtReset outcome cause note).meter = s.meter ∧ (s.recordAtReset outcome cause note).load = s.load ∧
    (s.recordAtReset outcome cause note).link = s.link ∧
    (s.recordAtReset outcome cause note).strain = s.strain ∧
    (s.recordAtReset outcome cause note).rate = s.rate ∧ (s.recordAtReset outcome cause note).eval = s.eval ∧
    (s.recordAtReset outcome cause note).inputs = s.inputs ∧
    (s.recordAtReset outcome cause note).config = s.config ∧
    (s.recordAtReset outcome cause note).refPhase = s.refPhase ∧
    (s.recordAtReset outcome cause note).freeCount = s.freeCount ∧
    (s.recordAtReset outcome cause note).pending = s.pending := by
  generalize h : s.recordAtReset outcome cause note = t
  unfold State.recordAtReset at h
  try dsimp only at h
  (repeat' split at h) <;> subst h <;> simp

@[simp] theorem State.resetTest_frame (s : State) :
    (s.resetTest).power = s.power ∧ (s.resetTest).arbiter = s.arbiter ∧ (s.resetTest).drive = s.drive ∧
    (s.resetTest).meter = s.meter ∧ (s.resetTest).load = s.load ∧ (s.resetTest).link = s.link ∧
    (s.resetTest).strain = s.strain ∧ (s.resetTest).rate = s.rate ∧ (s.resetTest).eval = s.eval ∧
    (s.resetTest).inputs = s.inputs ∧ (s.resetTest).config = s.config ∧ (s.resetTest).refPhase = s.refPhase ∧
    (s.resetTest).freeCount = s.freeCount ∧ (s.resetTest).pending = s.pending := by
  generalize h : s.resetTest = t
  unfold State.resetTest at h
  try dsimp only at h
  (repeat' split at h) <;> subst h <;> simp

@[simp] theorem State.resetMotion_frame (s : State) :
    (s.resetMotion).power = s.power ∧ (s.resetMotion).queue = s.queue ∧ (s.resetMotion).programs = s.programs ∧
    (s.resetMotion).results = s.results ∧ (s.resetMotion).meter = s.meter ∧ (s.resetMotion).load = s.load ∧
    (s.resetMotion).link = s.link ∧ (s.resetMotion).strain = s.strain ∧ (s.resetMotion).seq = s.seq ∧
    (s.resetMotion).rate = s.rate ∧ (s.resetMotion).eval = s.eval ∧ (s.resetMotion).inputs = s.inputs ∧
    (s.resetMotion).config = s.config ∧ (s.resetMotion).refPhase = s.refPhase ∧
    (s.resetMotion).freeCount = s.freeCount ∧ (s.resetMotion).pending = s.pending := by
  generalize h : s.resetMotion = t
  unfold State.resetMotion at h
  try dsimp only at h
  (repeat' split at h) <;> subst h <;> simp

@[simp] theorem State.resetLink_frame (s : State) :
    (s.resetLink).power = s.power ∧ (s.resetLink).queue = s.queue ∧ (s.resetLink).programs = s.programs ∧
    (s.resetLink).results = s.results ∧ (s.resetLink).arbiter = s.arbiter ∧ (s.resetLink).drive = s.drive ∧
    (s.resetLink).meter = s.meter ∧ (s.resetLink).load = s.load ∧ (s.resetLink).strain = s.strain ∧
    (s.resetLink).seq = s.seq ∧ (s.resetLink).rate = s.rate ∧ (s.resetLink).eval = s.eval ∧
    (s.resetLink).inputs = s.inputs ∧ (s.resetLink).config = s.config ∧ (s.resetLink).refPhase = s.refPhase ∧
    (s.resetLink).freeCount = s.freeCount ∧ (s.resetLink).pending = s.pending := by
  generalize h : s.resetLink = t
  unfold State.resetLink at h
  try dsimp only at h
  (repeat' split at h) <;> subst h <;> simp

@[simp] theorem State.controllerReset_frame (s : State) :
    (s.controllerReset).power = s.power ∧ (s.controllerReset).inputs = s.inputs ∧
    (s.controllerReset).config = s.config ∧ (s.controllerReset).refPhase = s.refPhase ∧
    (s.controllerReset).freeCount = s.freeCount ∧ (s.controllerReset).pending = s.pending := by
  generalize h : s.controllerReset = t
  unfold State.controllerReset at h
  try dsimp only at h
  (repeat' split at h) <;> subst h <;> simp

end Sys2Proof.Machine
end

