-- ==== Sys2Proof/Laws/Ports.lean ====
section
/-! SUPPORT. What the ports' operations do: reading a port after an update, and a notice set after an addition; and the
four octets of an item read back as the item. -/

namespace Sys2Proof.Machine

@[simp] theorem PerRole.get_set_self {α : Type} (x : PerRole α) (p : Role) (v : α) : (x.set p v).get p = v := by
  cases p <;> rfl

theorem PerRole.get_set_of_ne {α : Type} (x : PerRole α) {p q : Role} (v : α) (h : q ≠ p) :
    (x.set p v).get q = x.get q := by
  cases p <;> cases q <;> first | rfl | exact absurd rfl h

theorem PerRole.get_set {α : Type} (x : PerRole α) (p q : Role) (v : α) :
    (x.set p v).get q = if q = p then v else x.get q := by
  split
  · next h => subst h; exact PerRole.get_set_self x q v
  · next h => exact PerRole.get_set_of_ne x v h

/-- A port after an update of a port. -/
@[simp] theorem State.onPort_get (s : State) (p q : Role) (f : Port → Port) :
    (s.onPort p f).ports.get q = if q = p then f (s.ports.get p) else s.ports.get q :=
  PerRole.get_set _ _ _ _

/-- A reply at its port. -/
theorem State.answer_get_self (s : State) (p : Role) (k : RequestKind) (st : Status) (body : List Octet) :
    (s.answer p k st body).ports.get p =
      { inputBuffer := [], pendingReply := some ⟨⟨k.code, st, body⟩, Config.replyReadyTicks⟩
        notices := (s.ports.get p).notices, clockingOut := none } := by
  simp [State.answer, State.answerKind]

/-- A reply reaches no other port. -/
theorem State.answer_get_of_ne (s : State) {p q : Role} (k : RequestKind) (st : Status) (body : List Octet)
    (h : q ≠ p) : (s.answer p k st body).ports.get q = s.ports.get q := by
  simp [State.answer, State.answerKind, h]

/-- A reply leaves every notice set as it was. -/
@[simp] theorem State.answer_notices (s : State) (p q : Role) (k : RequestKind) (st : Status) (body : List Octet) :
    ((s.answer p k st body).ports.get q).notices = (s.ports.get q).notices := by
  by_cases h : q = p
  · subst h; simp [State.answer, State.answerKind]
  · simp [State.answer, State.answerKind, h]

/-- A notice set after an addition (R186). -/
@[simp] theorem State.addNotice_notices (s : State) (p q : Role) (n : Notice) :
    ((s.addNotice p n).ports.get q).notices =
      if q = p then withNotice (s.ports.get q).notices n else (s.ports.get q).notices := by
  by_cases h : q = p
  · subst h; simp [State.addNotice]
  · simp [State.addNotice, h]

/-- Adding a notice leaves the pending replies as they were. -/
@[simp] theorem State.addNotice_pendingReply (s : State) (p q : Role) (n : Notice) :
    ((s.addNotice p n).ports.get q).pendingReply = (s.ports.get q).pendingReply := by
  by_cases h : q = p
  · subst h; simp [State.addNotice]
  · simp [State.addNotice, h]

/-- Adding a notice leaves the messages being clocked out as they were. -/
@[simp] theorem State.addNotice_clockingOut (s : State) (p q : Role) (n : Notice) :
    ((s.addNotice p n).ports.get q).clockingOut = (s.ports.get q).clockingOut := by
  by_cases h : q = p
  · subst h; simp [State.addNotice]
  · simp [State.addNotice, h]

/-- A notice that is added is present. -/
theorem withNotice_hasNotice (w : BitVec 32) (n : Notice) : (withNotice w n).getLsbD n.bit = true := by
  cases n <;> simp [withNotice, Notice.bit]

/-- A notice that is present stays present when one is added (R186). -/
theorem withNotice_keeps (w : BitVec 32) (n : Notice) (i : Nat) (h : w.getLsbD i = true) :
    (withNotice w n).getLsbD i = true := by
  simp [withNotice, h]

/-- A taken request is a transaction of a running part. -/
theorem State.running_of_takes {s : State} {p : Role} (h : s.takes p = true) : s.power = .running := by
  simp [State.takes] at h
  exact h.1

/-- A taken request of an allowed role reaches its owning block. -/
theorem State.request_of_takes {s : State} {p : Role} (k : RequestKind) (own : State → State)
    (ht : s.takes p = true) (hr : k.row.roles.mem p = true) : s.request p k own = own s := by
  have hp : s.power ≠ .off := by simp [State.running_of_takes ht]
  simp [State.request, State.whenTaken, hp, ht, hr]

/-- A taken request of a role not allowed is refused ROLE_REFUSED (R183, check 4). -/
theorem State.request_of_wrong_role {s : State} {p : Role} (k : RequestKind) (own : State → State)
    (ht : s.takes p = true) (hr : k.row.roles.mem p = false) :
    s.request p k own = s.answer p k .roleRefused [] := by
  have hp : s.power ≠ .off := by simp [State.running_of_takes ht]
  simp [State.request, State.whenTaken, hp, ht, hr, State.refuse]

/-- A request of a transaction whose octets are discarded (R181). -/
theorem State.request_of_not_taken {s : State} {p : Role} (k : RequestKind) (own : State → State)
    (hp : s.power ≠ .off) (ht : s.takes p = false) : s.request p k own = s.endTransaction p := by
  simp [State.request, State.whenTaken, hp, ht]

/-- A word is its four octets, the most significant first. -/
theorem word_of_octets (w : Word32) :
    w.extractLsb' 24 8 ++ w.extractLsb' 16 8 ++ w.extractLsb' 8 8 ++ w.extractLsb' 0 8 = w := by
  ext i hi
  simp only [BitVec.getElem_append, BitVec.getElem_extractLsb']
  split_ifs <;> (rw [← BitVec.getLsbD_eq_getElem]; congr 1; omega)

/-- Where the four octets of a word stand in a body, the word is read back. -/
theorem word4_of_octets (b : List Octet) (i : Nat) (w : Word32) (first : b.getD i 0 = w.extractLsb' 24 8)
    (second : b.getD (i + 1) 0 = w.extractLsb' 16 8) (third : b.getD (i + 2) 0 = w.extractLsb' 8 8)
    (fourth : b.getD (i + 3) 0 = w.extractLsb' 0 8) : word4 b i = w := by
  rw [word4, first, second, third, fourth]
  exact word_of_octets w

/-! ## The octets of a transaction (R181) -/

@[simp] theorem num2_length (x : Int) : (num2 x).length = 2 := rfl

/-- A message has five octets beside its body. -/
@[simp] theorem Reply.message_length (r : Reply) : r.message.length = r.body.length + 5 := by
  simp [Reply.message]; omega

/-- Within the message the part drives its octets. -/
theorem Reply.octetOut_of_lt (r : Reply) {n : Nat} (h : n < r.message.length) : r.octetOut n = r.message[n] :=
  List.getD_eq_getElem r.message 0x00 h

/-- After the message's last octet the part drives 0x00. -/
theorem Reply.octetOut_of_le (r : Reply) {n : Nat} (h : r.body.length + 5 ≤ n) : r.octetOut n = 0x00 := by
  simp [Reply.octetOut, h]

/-- The levels of an octet, followed by others, are clocked in as that octet followed by those of the others. -/
theorem octetsClockedIn_octetLevels (o : Octet) (rest : List Bool) :
    octetsClockedIn (octetLevels o ++ rest) = o :: octetsClockedIn rest := by
  have h : ∀ o : Octet, BitVec.ofNat 8 ((octetLevels o).foldl (fun n x => 2 * n + (if x then 1 else 0)) 0) = o := by
    decide
  exact congrArg (· :: _) (h o)

/-- Fewer than eight levels make no octet. -/
theorem octetsClockedIn_incomplete (levels : List Bool) (h : levels.length < 8) : octetsClockedIn levels = [] := by
  match levels with
  | [] | [_] | [_, _] | [_, _, _] | [_, _, _, _] | [_, _, _, _, _] | [_, _, _, _, _, _] | [_, _, _, _, _, _, _] => rfl
  | _ :: _ :: _ :: _ :: _ :: _ :: _ :: _ :: _ => simp at h; omega

/-- Octets on the line are clocked in as they are, and the bits of an incomplete last octet are discarded (R181). -/
theorem octetsClockedIn_octets (octets : List Octet) (rest : List Bool) (h : rest.length < 8) :
    octetsClockedIn (octets.flatMap octetLevels ++ rest) = octets := by
  induction octets with
  | nil => simpa using octetsClockedIn_incomplete rest h
  | cons o os ih => simp [octetsClockedIn_octetLevels, ih]

end Sys2Proof.Machine
end

