-- ==== Sys2Proof/Tests/Slice0.lean ====
section
/-! SUPPORT. The model's own tests: the refusals of the well-formedness check, the manual's worked figures, and for
every statement with hypotheses a witness of each clause's hypotheses. -/

namespace Sys2Proof.Tests

open Sys2Proof Sys2Proof.Machine

set_option maxRecDepth 20000

/-! ## States to test on -/

def word (x : Int) : Word32 := BitVec.ofInt 32 x

/-- The n-th specimen ID: one letter and eleven spaces. -/
def name (n : Nat) : List Octet := BitVec.ofNat 8 (0x41 + n) :: List.replicate 11 0x20

/-- The program of slot 3 in the manual's worked sequences (5.10), start mode GRIPS. -/
def body : ProgramBody where
  startMode := .grips
  gripOpen := .hold
  lengthSource := .gripSeparation
  initialRange := 2
  approach := 100000
  preload := 5000
  travelLimit := 10000
  extUse := .auto
  extGauge := 50000
  releaseStrain := 10000
  releaseDrop := 0
  modulusMode := .secant
  nominal := 210000
  sigmaLo := 10000
  sigmaHi := 25000
  proofOffset := 2000
  yieldDrop := 500
  searchLimit := 20000
  transient := 2000
  rise := 1000
  fractureArm := 10000
  fractureDrop := 200
  lowCut := 20
  segments := [⟨.strainRate, 250, 20, 500, .yieldEnd, 0⟩, ⟨.crossheadSpeed, 100000, 0, 10, .fracture, 0⟩]

/-- A table with its full scale at 8,000,000 counts. -/
def table (fullScale : Int) : RangeTable := ⟨fullScale, [(-8000000, -fullScale), (0, 0), (8000000, fullScale)]⟩

def tables : PerRange (Option RangeTable) :=
  ⟨some (table 10000000), some (table 2500000), some (table 1000000), some (table 10000)⟩

def entry : SpecimenEntry where
  id := name 0
  slot := 3
  shape := .flat 20000 3000
  parallel := 75000
  gauge := 50000
  area := 60000
  state := .waiting
  capture := some (word 1204300)

def record : ResultRecord where
  id := name 7
  slot := 3
  outcome := .aborted
  cause := some .operator
  note := none
  area := 60000
  gauge := 50000
  parallel := 75000
  modulus := none
  reh := none
  rel := none
  ae := none
  rp := none
  fmRm := none
  ag := none
  elongation := none
  source := none
  rangeSwitches := 0
  holds := 0
  flags := ⟨false, false, false, false, false, false, false⟩
  duration := 0
  required := ⟨true, false, true⟩
  takenBy := ⟨false, false, false⟩

/-- Calibrated and referenced, the latch clear and the grips closed, an empty queue. -/
def bench : State :=
  { State.reset with
    programs := State.reset.programs.set 3 ⟨some body, 0⟩
    inputs := ⟨false, none, false, true, none⟩
    drive := { State.reset.drive with encoder := word 1204300, commanded := word 1204300, referenced := true }
    load := { State.reset.load with
      tables := tables, reference := some ⟨4000000, 1000⟩, settling := false, slotNumber := 7 } }

/-- `bench` with one waiting specimen. -/
def loaded : State :=
  { bench with queue := [entry], programs := State.reset.programs.set 3 ⟨some body, 1⟩ }

/-- `loaded` after its arming, SEQUENCER holding. -/
def armed : State :=
  { loaded with
    queue := [{ entry with state := .armed }]
    results := { loaded.results with reserved := true }
    arbiter := ⟨some .sequencer, []⟩
    seq := { loaded.seq with state := .armed, openSeen := true } }

/-- `armed` in another sequencer state. -/
def inState (st : SeqState) : State :=
  { armed with
    queue := [{ entry with state := .inTest }]
    seq := { armed.seq with state := st, openSeen := false }
    strain := { armed.strain with area := some 60000, parallel := some 75000, extGauge := some 50000 } }

/-- `bench` with the link in a state. -/
def linked (st : LinkState) : State :=
  { bench with link := { bench.link with state := st, lock := some 80 } }

/-- `linked` with its shifter, its holding slot and what an attach has set. -/
def linkedWith (st : LinkState) (shifter : Shifter) (holding : Option QueuedCommand) (pending : Bool) : State :=
  { linked st with link := { (linked st).link with shifter := shifter, holding := holding, attachPending := pending } }

/-- `s` with a filter of 100 µs and one of 2 ms timed to their ends. -/
def filtered (s : State) : State :=
  { s with inputs := { s.inputs with frameStopFilter := some 1000, gripsFilter := some 20000 } }

/-- A move of the console from `bench`'s position to `target`. -/
def moving (kind : MoveKind) (target : Word32) : State :=
  { bench with
    arbiter := ⟨some .console, []⟩
    drive := { bench.drive with
      generator := some ⟨10000, 0, .opening⟩, velocity := 100000, source := .move
      move := some ⟨1, kind, .console, target, 100000, false, .travelling⟩ } }

/-- The state after a command, where it answers next. -/
def after (i : Instr) (s : State) : State :=
  match exec i s with
  | .next t => t
  | _ => s

/-- The message of the port's pending reply. -/
def replyOf (p : Role) (s : State) : List Octet :=
  match (s.ports.get p).pendingReply with
  | some r => r.reply.message
  | none => []

/-! ## Ill-formed commands -/

theorem test_wf_enqueue_id_of_eleven_octets_refused :
    wellFormed (.enqueue .cell (List.replicate 11 0x41) 3 0 0 0 0 0 0) = false
      ∧ wellFormed (.enqueue .cell (name 0) 3 0 0 0 0 0 0) = true := by decide

theorem test_wf_program_body_lengths :
    wellFormed (.writeProgram .console (List.replicate 73 0)) = false
      ∧ wellFormed (.writeProgram .console (List.replicate 74 0)) = true
      ∧ wellFormed (.writeProgram .console (List.replicate 116 0)) = true
      ∧ wellFormed (.writeProgram .console (List.replicate 117 0)) = false := by decide

theorem test_wf_calibration_body_lengths :
    wellFormed (.writeCalibration .console (List.replicate 5 0)) = false
      ∧ wellFormed (.writeCalibration .console (List.replicate 6 0)) = true
      ∧ wellFormed (.writeCalibration .console (List.replicate 71 0)) = false := by decide

theorem test_wf_malformed_too_short_or_long_refused :
    wellFormed (.malformedRequest .console [0x01, 0x00]) = false
      ∧ wellFormed (.malformedRequest .console (List.replicate 124 0xFF)) = false
      ∧ wellFormed (.malformedRequest .console [0x01, 0x00, 0x16]) = true := by decide

theorem test_wf_malformed_that_passes_every_check_refused :
    wellFormed (.malformedRequest .console [0x01, 0x00, 0x15]) = false := by decide

/-! ## The manual's figures -/

/-- 11.8.6. -/
theorem test_nop_message_and_reply :
    requestMessage .nop [] = [0x01, 0x00, 0x15]
      ∧ commandOfOctets .console [0x01, 0x00, 0x15] = .nop .console
      ∧ replyOf .console (after (.nop .console) bench) = [0x01, 0x00, 0x00, 0x00, 0x16] := by decide

/-- R181, with the reply of 11.8.6: the message, 0x00 after it, and the most significant bit first. -/
theorem test_octets_of_a_transaction :
    let q := (after (.transactionBegin .cell) (after (.replyReady .cell) (after (.nop .cell) bench))).ports.get .cell
    (List.range 8).map q.octetOut = [0x01, 0x00, 0x00, 0x00, 0x16, 0x00, 0x00, 0x00].map some
      ∧ (List.range 8).map q.sdo = [false, false, false, false, false, false, false, true].map some
      ∧ (bench.ports.get .cell).octetOut 0 = none
      ∧ octetsClockedIn [true, false, false, false, false, false, true, false, true, true] = [0x82] := by decide

/-- 4.14, "Area" and "A round specimen". -/
theorem test_areas : Shape.area (.flat 20000 3000) = 60000 ∧ Shape.area (.round 10000) = 78540 := by decide

/-- 6.8: slots a, a + 1 and a + 3. -/
theorem test_unclamped_forces :
    unclampedForce [(-8000000, -1000400), (0, 0), (4000000, 500000), (8000000, 1000200)] 7780000 = some 972689
      ∧ unclampedForce [(-8000000, -1000400), (0, 0), (4000000, 500000), (8000000, 1000200)] 7850000 = some 981443
      ∧ unclampedForce [(-8000000, -2500000), (0, 0), (8000000, 2500000)] 3152000 = some 985000 := by decide

/-- 6.8: the overrange test of slots a and a + 1. -/
theorem test_overrange_threshold :
    overrange 1000000 7780450 972689 = false ∧ overrange 1000000 7850450 981443 = true := by decide

/-- 4.14: the sample in the transition, the hand-off on it and the next sample. -/
theorem test_strains_and_hand_off :
    let u : StrainUnit := { StrainUnit.cleared ⟨1500, word 454300⟩ with
      area := some 60000, parallel := some 75000, extGauge := some 50000, p0 := some 0, fPre := some 5000
      zero := some 1200, lastUsable := some 11950, source := some .extensometer }
    let a := u.compute 250000 (word 4000)
    let b := a.handOff.compute 250100 (word 4002)
    (a.sigma, a.epsilonE, a.epsilonC, a.epsilon) = (some 41667, some 2150, some 4843, some 2150)
      ∧ (b.sigma, b.epsilonC, b.delta, b.epsilon) = (some 41683, some 4846, -2693, some 2153) := by decide

/-- 3.8: samples 1 and 4. -/
theorem test_lead_clamp_and_output_limit :
    let r : RateController := ⟨350357000, some .stressRate, 1000, 100, 50, false⟩
    let g : Segment := ⟨.stressRate, 1000, 100, 50, .strain, 5000⟩
    r.compute g 0 34200 75000 1000000 = ({ r with target := 342500000 }, 5000)
      ∧ ({ r with target := 342505000 } : RateController).compute g 0 34300 75000 1000000
          = ({ r with target := 342510000 }, 0) := by decide

/-- 9.3: an interval of 5,277 µs. -/
theorem test_interval_speed :
    let s := { bench with meter := { bench.meter with
      method := .interval, inFlight := .intervalTiming .opening, counter := 5277 } }
    (after (.encoderCount ⟨true, false⟩) s).meter.lastSpeed = 18950 := by decide

/-- R148: the four changes of an opening cycle, ENCA leading, and the same cycle closing, ENCB leading. -/
theorem test_quadrature_cycle :
    ([(false, false), (true, false), (true, true), (false, true)].zip
        [(true, false), (true, true), (false, true), (false, false)]).all (fun (x, y) =>
      quadrature ⟨x.1, x.2⟩ ⟨y.1, y.2⟩ == some .opening && quadrature ⟨x.2, x.1⟩ ⟨y.2, y.1⟩ == some .closing)
      = true := by decide

/-- R125: the check octets 0x49 and 0x62, worked by hand from the polynomial x⁸ + x² + x + 1, and −4,556 sent as 34 EE
FF. -/
theorem test_head_frames :
    HeadCommand.closeArms.frame = [0xC1, 0x49]
      ∧ framesOfRun ([0xA0, 2, 0, 0x62, 0xA0, 2, 0].map some)
          = [.statusFrame .closed 0, .frameDiscarded .restedHigh, .lineRestedHigh]
      ∧ (frameElongation [0xA5, 0, 0x34, 0xEE, 0xFF, 2, 0]).toInt = -4556 := by decide

/-- 9.9: the gate of 5 counts at 4 ms with the commanded velocity 0. -/
theorem test_gate_completion :
    let s := { bench with meter := { bench.meter with inFlight := .gateOpen 4 3, counter := 5, overspeedCount := 1 } }
    let t := (after .gateBoundary s).meter
    (t.lastSpeed, t.overspeedCount, t.inFlight) = (125000, 2, .gateOpen 4 0) := by decide

/-- 8.5, the example with step length 4. -/
theorem test_move_by_on_the_step_grid :
    let s := { bench with
      arbiter := ⟨some .cell, []⟩
      drive := { bench.drive with
        encoder := word 1000002, commanded := word 1000002, moveCounter := 41
        config := { bench.drive.config with step := 4 } } }
    let t := after (.moveBy .cell (word 1001) (word 50000)) s
    t.drive.generator = some ⟨80000, 0, .opening⟩
      ∧ t.drive.move = some ⟨42, .moveBy, .cell, word 1001002, 50000, false, .travelling⟩ := by decide

/-- R150: a closing move holds a negative commanded velocity. -/
theorem test_closing_move_velocity :
    let s := { bench with arbiter := ⟨some .cell, []⟩ }
    let d := (after (.moveBy .cell (word (-1000)) (word 50000)) s).drive
    (d.velocity, d.generator) = (-50000, some ⟨20000, 0, .closing⟩) := by decide

/-- 4.14, "Start": the capture 1,204,300 and the datum 454,300 give 75,000 µm. -/
theorem test_start_resolves_the_parallel_length :
    let s := { armed with
      queue := [{ entry with state := .armed, parallel := 80000 }]
      strain := { armed.strain with frame := ⟨1500, word 454300⟩ } }
    (after (.start .console) s).strain.parallel = some 75000 := by decide

/-! ## Single steps -/

theorem test_enqueue_body :
    let t := after (.enqueue .cell (name 0) 3 0 (word 20000) (word 3000) 0 (word 75000) (word 50000)) bench
    t.queue = [{ entry with capture := none }] ∧ t.programs[3]? = some ⟨some body, 1⟩ := by decide

theorem test_written_program_is_the_body :
    programFailure tables (programOctets body) = none ∧ programOfOctets (programOctets body) = body := by decide

theorem test_frame_stop_in_armed_disarms :
    let t := after .frameStopAcceptedActive (filtered armed)
    (t.seq.state, t.arbiter, t.results.reserved, t.inputs.latch) = (.idle, ⟨none, []⟩, false, true) := by decide

/-- R37: SLEEP's second miss in ATTACH ends ATTACH, and the attach goes on by a wake. -/
theorem test_sleep_missed_in_attach :
    let s := { inState .attach with link := { bench.link with
      state := .ready, lock := some 80, attachPending := true, operationTimer := some 7
      shifter := .command ⟨.sleep, .link⟩ true (some 50000) } }
    let t := after .answerTimeout s
    (t.seq.state, t.seq.extAttachFailed, t.link.state, t.link.operationTimer) = (.run, true, .waking, some 7) := by
  decide

/-- R48: with the rest flag set the test completes at READY, before the pending attach takes the link to CLOSING. -/
theorem test_ending_completes_at_ready_under_an_attach :
    let s := { inState .ending with
      seq := { (inState .ending).seq with outcome := some .aborted }, meter := { bench.meter with rest := true }
      link := { bench.link with state := .opening, lock := some 80, attachPending := true } }
    let t := after (.statusFrame .opened 0) s
    (t.seq.state, t.results.records.length, t.link.state) = (.idle, 1, .closing) := by decide

/-- R63, R111: a held sample without force writes the approach speed again. -/
theorem test_held_absent_sample_in_preload :
    let s := { inState .preload with
      seq := { (inState .preload).seq with startPosition := word 1204300 }
      load := { bench.load with settling := true, last := ⟨none, false, 0⟩ } }
    let t := after (.conversionSlot 0) s
    (t.load.last.force, t.drive.velocity, t.drive.source, t.seq.state) = (none, 100000, .sequencer, .preload) := by decide

/-- R37: the first accepted reading ends ATTACH. -/
theorem test_first_reading_ends_attach :
    let s := { inState .attach with link := { (linked .closing).link with streamRequested := true, attachPending := true } }
    let t := after (.readingFrame 7 1234 0x02) s
    (t.seq.state, t.strain.zero, t.strain.source, t.link.state) = (.run, some 1234, some .extensometer, .streaming) := by
  decide

/-- R149: DIR is high for OPEN and low for CLOSE while a period is in progress. -/
theorem test_direction_pin :
    ((moving (.jog .opening) 0).drive.dirPin, ({ bench.drive with generator := some ⟨1, 0, .closing⟩ } : Drive).dirPin,
      bench.drive.dirPin) = (some true, some false, none) := by decide

/-- R133: the eighth delivery without a reading loses the link, also where the sample overranges and ends the test. -/
theorem test_count_of_eight_on_overrange :
    let s := { inState .run with
      link := { bench.link with state := .streaming, lock := some 80, staleness := 7 }
      load := { bench.load with activeRange := 0, last := ⟨some 0, false, 0⟩ } }
    let t := after (.conversionSlot 8388607) s
    (t.link.state, t.seq.state, t.seq.cause) = (.lost, .ending, some .loadOverrange) := by decide

theorem test_abort_in_run :
    let t := after (.abort .cell) (inState .run)
    (t.seq.state, t.seq.outcome, t.seq.cause) = (.ending, some .aborted, some .operator) := by decide

theorem test_power_on_load_takes_the_stored_image :
    let items := { bench.configItems with autoArm := true }
    let s := { bench with config := { bench.config with inFlight := some items } }
    let t := after .configImageLoadDone (after .powerOn (after (.configStoreCompletion true) s))
    (t.seq.autoArm, (t.ports.get .cell).notices) = (true, 1) := by decide +kernel

/-! ## Witnesses: every hypothesis of each statement is met by a state, clause by clause -/

/-- `s` with the last transaction of a port begun and clocking out a message. -/
def clocking (p : Role) (st : Status) (s : State) : State :=
  s.onPort p fun q => { q with clockingOut := some ⟨0x00, st, []⟩ }

/-- `s` with a pending reply of a port. -/
def replying (p : Role) (wait : Nat) (s : State) : State :=
  s.onPort p fun q => { q with pendingReply := some ⟨⟨0x01, .ok, []⟩, wait⟩ }

theorem test_hyp_StepRunsFront : ({ bench with pending := [.nop .console] } : State).pending = .nop .console :: [] := by
  decide

theorem test_hyp_EmptyQueueTicks :
    State.reset.pending = [] ∧ State.reset.power = .running
      ∧ ({ State.reset with power := .off } : State).power ≠ .running
      ∧ (linkedWith .ready (.command ⟨.sleep, .link⟩ false (some 49999)) none false).link.shifter
          = .command ⟨.sleep, .link⟩ false (some 49999)
      ∧ (9 ≤ ({ bench with refPhase := 9 } : State).refPhase ∧ ({ bench with refPhase := 8 } : State).refPhase < 9)
      ∧ ({ bench.meter with inFlight := .intervalTiming .closing } : SpeedMeter).inFlight = .intervalTiming .closing
      ∧ ({ bench.meter with inFlight := .gateWaiting } : SpeedMeter).inFlight ≠ .intervalWaiting := by decide

theorem test_hyp_ReadsChangeNothing :
    (∀ p ∈ [Role.console, .cell, .quality], State.reset.takes p = true)
      ∧ (-2147483648 ≤ ({ bench.meter with lastSpeed := -2147483648 } : SpeedMeter).lastSpeed
        ∧ ({ bench.meter with lastSpeed := 2147483647 } : SpeedMeter).lastSpeed ≤ 2147483647)
      ∧ (State.reset.seq.state = .idle ∧ armed.seq.state = .armed ∧ (inState .run).seq.state ≠ .idle
        ∧ (inState .run).seq.state ≠ .armed ∧ (inState .run).seq.segment ≤ 255)
      ∧ (entry.id.length = 12 ∧ entry.shape = .flat 20000 3000
        ∧ ({ entry with shape := .round 10000 } : SpecimenEntry).shape = .round 10000) := by decide

/-- One segment, 73 octets, and four, 115 octets. -/
theorem test_hyp_WrittenProgramReadsBack :
    programFailure tables (programOctets { body with segments := body.segments.drop 1 }) = none
      ∧ programFailure tables (programOctets { body with
          segments := (List.replicate 3 ⟨.strainRate, 1, 0, 10, .strain, 1⟩) ++ body.segments.drop 1 }) = none := by
  decide

/-- Bodies of no octets and of 116, and no bits and seven of an incomplete octet. -/
theorem test_hyp_RequestSurvivesTheWire :
    requestOf (.nop .quality) = some (.quality, .nop, []) ∧ wellFormed (.nop .quality) = true
      ∧ RequestKind.nop.row.roles.mem .quality = true
      ∧ requestOf (.writeProgram .console (List.replicate 116 0))
          = some (.console, .writeProgram, List.replicate 116 0)
      ∧ wellFormed (.writeProgram .console (List.replicate 116 0)) = true
      ∧ RequestKind.writeProgram.row.roles.mem .console = true
      ∧ ([] : List Bool).length < 8 ∧ (List.replicate 7 true).length < 8 := by decide

theorem test_hyp_GetNoticesEmptiesTheSet : State.reset.takes .cell = true := by decide

theorem test_hyp_LinkResetByStanding :
    (bench.takes .cell = true ∧ bench.portHolds .cell = false)
      ∧ let s := { moving (.jog .opening) 0 with arbiter := ⟨some .console, [.cell]⟩ }
        s.takes .console = true ∧ partyOf .console = some .console ∧ s.arbiter.holder = some .console ∧ s.arbiterLaw
          ∧ s.seq.state.inTest = false ∧ s.arbiter.waiting.head? ≠ some .sequencer
          ∧ ({ armed with arbiter := ⟨some .cell, [.sequencer, .console]⟩ } : State).arbiterLaw
          ∧ ∀ m ∈ s.drive.move, m.issuer = .console := by decide

/-- Three octets and 123; a length of 121 and one too long; a wrong check and an unknown kind. -/
theorem test_hyp_MalformedRequestIsRefused :
    (120 < (([0x01, 121, 0] : List Octet).getD 1 0).toNat
      ∧ 3 < (([0x01, 1, 0] : List Octet).getD 1 0).toNat + 3)
      ∧ (((0x01 : Octet) :: 120 :: List.replicate 121 0).length = 123
        ∧ ((0x01 : Octet) :: 120 :: List.replicate 121 0).getD 1 0 = 120)
      ∧ ([0x01, 0, 0x16] : List Octet).getD 2 0 ≠ crc8 ([0x01, 0, 0x16].take 2)
      ∧ (([0, 0, 0] : List Octet).getD 2 0 = crc8 ([0, 0, 0].take 2))
      ∧ (requestOf (.arm .cell) = some (.cell, .arm, []) ∧ bench.takes .cell = true
        ∧ RequestKind.arm.row.roles.mem .cell = false)
      ∧ ∀ k : RequestKind, k.code ≠ ([0, 0, 0] : List Octet).getD 0 0 := by
  refine ⟨by decide, by decide, by decide, by decide, by decide, fun k => ?_⟩
  cases k <;> decide

/-- An ID of 11 octets, and a message with a body of one octet for a kind without a body, and for another role's kind. -/
theorem test_hyp_MalformedRequestIsRefused_lengths :
    requestOf (.withdraw .cell (List.replicate 11 0x41)) = some (.cell, .withdraw, List.replicate 11 0x41)
      ∧ bench.takes .cell = true ∧ RequestKind.withdraw.row.roles.mem .cell = true
      ∧ (List.replicate 11 (0x41 : Octet)).length < RequestKind.withdraw.row.shortest
      ∧ (let o := requestMessage .nop [0]; o.length = 4 ∧ o.getD 3 0 = crc8 (o.take 3)
        ∧ RequestKind.nop.code = o.getD 0 0 ∧ RequestKind.nop.row.roles.mem .cell = true
        ∧ RequestKind.nop.row.longest < (o.getD 1 0).toNat)
      ∧ (let o := requestMessage .arm []; o.getD 2 0 = crc8 (o.take 2) ∧ RequestKind.arm.code = o.getD 0 0
        ∧ RequestKind.arm.row.roles.mem .cell = false) := by decide

theorem test_hyp_TransactionsMoveOneReply :
    (let s := clocking .cell .notReady bench;
      requestOf (.nop .cell) = some (.cell, .nop, []) ∧ s.power ≠ .off ∧ s.takes .cell = false)
      ∧ (let s := { bench with power := .loading };
        s.power ≠ .off ∧ s.takes .cell = false ∧ s.power = .loading ∧ (s.ports.get .cell).clockingOut = none)
      ∧ bench.power = .running ∧ (bench.ports.get .cell).clockingOut = none
      ∧ (∀ n ∈ [0, 1, 500], ((replying .cell n bench).ports.get .cell).clockingOut = none
          ∧ ((replying .cell n bench).ports.get .cell).pendingReply = some ⟨⟨0x01, .ok, []⟩, n⟩)
      ∧ (let r : Reply := ⟨0x06, .ok, [0x05, 0x06]⟩;
        ((bench.onPort .cell fun q => { q with clockingOut := some r }).ports.get .cell).clockingOut = some r
          ∧ 1 < r.body.length ∧ r.body.length + 5 ≤ 7) := by decide

/-- A FLAT entry at the least dimensions its area admits, and a ROUND one at the greatest, in the eighth place. -/
theorem test_hyp_EnqueueAppendsTheEntry :
    let s := { bench with queue := (List.range 7).map fun n => { entry with id := name (n + 1) } }
    s.takes .cell = true ∧ (name 0).length = 12 ∧ s.queue.length < 8
      ∧ (∀ c ∈ name 0, 0x20 ≤ c.toNat ∧ c.toNat ≤ 0x7E) ∧ (∃ c ∈ name 0, c ≠ 0x20)
      ∧ (∀ e ∈ s.queue, e.id ≠ name 0) ∧ (∀ r ∈ s.results.records, r.id ≠ name 0)
      ∧ s.programs[(3 : Octet).toNat]? = some ⟨some body, 0⟩
      ∧ (1000 ≤ (word 10000).toInt ∧ 100 ≤ (word 100).toInt ∧ 1000 ≤ (Shape.flat 10000 100).area)
      ∧ ((word 50000).toInt ≤ 50000 ∧ (Shape.round 50000).area ≤ 20000000)
      ∧ (word 400000).toInt ≤ 400000 ∧ 10000 ≤ (word 10000).toInt
      ∧ (body.extUse = .auto → body.extGauge ≤ (word 75000).toInt) := by decide

/-- Each dimension one beyond its range, the area one short of its own, a parallel length one short of the gauge. -/
theorem test_hyp_EnqueueRefusals :
    let full := { bench with queue := (List.range 8).map fun n => { entry with id := name (n + 1) } }
    (full.takes .cell = true ∧ 8 ≤ full.queue.length)
      ∧ bench.queue.length < 8
      ∧ (∃ c ∈ ((0x7F : Octet) :: List.replicate 11 0x41), c.toNat < 0x20 ∨ 0x7E < c.toNat)
      ∧ (∀ c ∈ List.replicate 12 (0x20 : Octet), c = 0x20)
      ∧ (∃ e ∈ loaded.queue, e.id = name 0)
      ∧ 15 < (16 : Octet).toNat ∧ bench.programAt (15 : Octet).toNat = none
      ∧ (bench.programAt (3 : Octet).toNat).isSome = true ∧ (2 : Octet) ≠ 0 ∧ (2 : Octet) ≠ 1
      ∧ bench.programAt (3 : Octet).toNat = some body
      ∧ ((word 999).toInt < 1000 ∧ 60000 < (word 60001).toInt ∧ 50000 < (word 50001).toInt
        ∧ (word 9999).toInt < 10000 ∧ 400000 < (word 400001).toInt)
      ∧ (Shape.flat (word 9994).toInt (word 100).toInt).area < 1000
      ∧ (body.extUse = .auto ∧ (word 49999).toInt < body.extGauge) := by decide

theorem test_hyp_WithdrawRemovesWaitingEntry :
    bench.takes .quality = true
      ∧ (∀ e ∈ bench.queue, e.id ≠ name 0)
      ∧ (armed.queue = [] ++ { entry with state := .armed } :: [] ∧ EntryState.armed ≠ .waiting)
      ∧ (let s := { loaded with queue := [{ entry with id := name 1 }, entry] };
        s.takes .cell = true ∧ s.queue = [{ entry with id := name 1 }] ++ entry :: [] ∧ entry.id = name 0
          ∧ (∀ x ∈ [{ entry with id := name 1 }], x.id ≠ name 0) ∧ entry.state = .waiting
          ∧ s.programs[entry.slot]? = some ⟨some body, 1⟩) := by decide

theorem test_hyp_ProgramSlotsAreWrittenClearedRead :
    bench.takes .cell = true ∧ 15 < (16 : Octet).toNat ∧ (15 : Octet).toNat ≤ 15
      ∧ (let s := { bench with config := { bench.config with inFlight := some ConfigItems.defaults } };
        s.takes .console = true ∧ s.config.inFlight.isSome = true)
      ∧ (loaded.programs[(3 : Octet).toNat]? = some ⟨some body, 1⟩ ∧ loaded.config.inFlight = none)
      ∧ (bench.programs[(3 : Octet).toNat]? = some ⟨some body, 0⟩ ∧ bench.programs[(15 : Octet).toNat]? = some ⟨none, 0⟩)
      ∧ (73 ≤ (List.replicate 73 (2 : Octet)).length
        ∧ programFailure tables (List.replicate 73 2) = some 1
        ∧ (programOctets body).length ≤ 115 ∧ programFailure bench.load.tables (programOctets body) = none) := by decide

theorem test_hyp_ResultsAreFetchedAndTaken :
    let taken := { record with takenBy := ⟨true, false, false⟩ }
    let s := { bench with results := ⟨[taken, { record with id := name 8 }], false, ⟨true, false, true⟩⟩ }
    (∀ r ∈ bench.results.records, r.takenBy.mem .console = true)
      ∧ s.takes .console = true ∧ s.results.records = [taken] ++ { record with id := name 8 } :: []
      ∧ (∀ x ∈ [taken], x.takenBy.mem .console = true) ∧ record.takenBy.mem .console = false
      ∧ s.takes .cell = true ∧ s.results.records = taken :: [{ record with id := name 8 }] ∧ taken.takenBy.cell = false
      ∧ (∀ r ∈ s.results.records, r.id ≠ name 9)
      ∧ (taken.id = name 7 ∧ taken.takenBy.mem .console = true)
      ∧ (s.takes .quality = true ∧ taken.takenBy.mem .quality = false
        ∧ ∀ a ∈ [Role.console, .cell, .quality], taken.required.mem a = true → a = .quality ∨ taken.takenBy.mem a = true)
      ∧ (∃ a ∈ [Role.console, .cell, .quality], record.required.mem a = true ∧ a ≠ .console
        ∧ record.takenBy.mem a = false)
      ∧ (let s := { bench with config := { bench.config with inFlight := some ConfigItems.defaults } };
        s.takes .console = true ∧ s.config.inFlight.isSome = true)
      ∧ bench.takes .console = true ∧ bench.config.inFlight = none
      ∧ (record.id.length = 12 ∧ record.modulus = none ∧ record.fmRm = none
        ∧ ({ record with modulus := some ⟨210000, .secant⟩ } : ResultRecord).modulus = some ⟨210000, .secant⟩
        ∧ ({ record with fmRm := some (100000, 16667) } : ResultRecord).fmRm = some (100000, 16667))
      ∧ ∀ o ∈ [(0x00 : Octet), 0x02, 0x03, 0x06, 0x0D], o ≠ 0x01 ∧ o ≠ 0x04 ∧ o ≠ 0x05 := by decide

/-- One state for each check that fails first, with 12 places taken for the last, and one that passes them all with
11. -/
theorem test_hyp_ArmAnsweredByFirstFailingCheck :
    bench.takes .cell = true
      ∧ (loaded.headLaw ∧ loaded.inUseLaw ∧ loaded.seq.state = .idle ∧ entry ∈ loaded.queue.head?)
      ∧ armed.seq.state ≠ .idle ∧ bench.queue = [] ∧ loaded.queue ≠ []
      ∧ ({ loaded with load := { loaded.load with reference := none } } : State).load.calibrationValid = false
      ∧ loaded.load.calibrationValid = true
      ∧ ({ loaded with drive := State.reset.drive } : State).drive.referenced = false ∧ loaded.drive.referenced = true
      ∧ ({ loaded with inputs := State.reset.inputs } : State).inputs.latch = true ∧ loaded.inputs.latch = false
      ∧ ({ loaded with load := { loaded.load with referenceFault := true } } : State).load.referenceFault = true
      ∧ loaded.load.referenceFault = false
      ∧ ({ loaded with load := loaded.load.beginTare } : State).load.tare.isSome = true ∧ loaded.load.tare = none
      ∧ (List.replicate 12 record).length + (if loaded.results.reserved then 1 else 0) = 12
      ∧ (List.replicate 11 record).length + (if loaded.results.reserved then 1 else 0) < 12
      ∧ loaded.takes .console = true := by decide

theorem test_hyp_ArmingEffects :
    loaded.queue = entry :: [] ∧ loaded.programAt entry.slot = some body ∧ loaded.inputs.latch = false
      ∧ loaded.arbiter.holder ≠ some .sequencer ∧ .sequencer ∉ loaded.arbiter.waiting
      ∧ 0 ≤ loaded.drive.config.vmax := by decide

theorem test_hyp_AutoArmExaminesTheHead :
    (let s := { loaded with
        seq := { loaded.seq with autoArm := true }, results := { loaded.results with records := List.replicate 11 record } };
      s.seq.state = .idle ∧ s.seq.autoArm = true ∧ s.seq.autoArmPause = false ∧ s.queue ≠ []
        ∧ s.load.calibrationValid = true ∧ s.drive.referenced = true ∧ s.inputs.latch = false
        ∧ s.load.referenceFault = false ∧ s.load.tare = none
        ∧ s.results.records.length + (if s.results.reserved then 1 else 0) < 12)
      ∧ ¬ (loaded.seq.autoArm = true) ∧ loaded.power = .running
      ∧ (let s := { bench with config := { bench.config with inFlight := some ConfigItems.defaults } };
        s.takes .console = true ∧ s.config.inFlight.isSome = true)
      ∧ bench.config.inFlight = none ∧ (2 : Octet) ≠ 0 ∧ (2 : Octet) ≠ 1 := by decide

theorem test_hyp_DisarmUndoesTheArming :
    armed.takes .console = true ∧ loaded.seq.state ≠ .armed
      ∧ (armed.seq.state = .armed ∧ armed.arbiterLaw ∧ armed.queue = { entry with state := .armed } :: []
        ∧ armed.arbiter.holder = some .sequencer)
      ∧ (let s := { armed with arbiter := ⟨some .cell, [.sequencer, .console]⟩ };
        s.seq.state = .armed ∧ s.arbiterLaw ∧ s.arbiter.holder ≠ some .sequencer) := by decide

theorem test_hyp_TestsStartByStartOrByTheGrips :
    armed.takes .console = true ∧ loaded.seq.state ≠ .armed ∧ armed.seq.state = .armed
      ∧ ({ armed with load := armed.load.beginTare } : State).load.tare.isSome = true ∧ armed.load.tare = none
      ∧ ({ armed with arbiter := ⟨some .cell, [.sequencer]⟩ } : State).arbiter.holder ≠ some .sequencer
      ∧ (armed.arbiter.holder = some .sequencer ∧ armed.inputs.grips = true ∧ armed.load.referenceFault = false)
      ∧ (armed.power = .running ∧ armed.queue = { entry with state := .armed } :: []
        ∧ armed.programAt entry.slot = some body ∧ body.startMode = .grips ∧ armed.seq.openSeen = true)
      ∧ ({ armed with seq := { armed.seq with openSeen := false } } : State).seq.openSeen ≠ true := by decide

/-- A capture at each bound of the parallel length and one beyond it. -/
theorem test_hyp_StartEffects :
    armed.queue = { entry with state := .armed } :: [] ∧ armed.programAt entry.slot = some body
      ∧ armed.arbiter.holder = some .sequencer ∧ armed.drive.generator = none ∧ armed.drive.move = none
      ∧ 0 ≤ body.approach ∧ 0 ≤ armed.drive.config.vmax
      ∧ periodTicks armed.drive.config.step (min body.approach armed.drive.config.vmax) = some 10000
      ∧ periodTicks 100 (min 1000 armed.drive.config.vmax) = none
      ∧ body.lengthSource = .gripSeparation
      ∧ (let c := word (10000 * 10); 10000 ≤ roundDiv (c.toInt - armed.strain.frame.datum.toInt) 10)
      ∧ (let c := word (400000 * 10); roundDiv (c.toInt - armed.strain.frame.datum.toInt) 10 ≤ 400000)
      ∧ (let c := word (400000 * 10 + 5); 400000 < roundDiv (c.toInt - armed.strain.frame.datum.toInt) 10)
      ∧ ({ body with lengthSource := .entered } : ProgramBody).lengthSource = .entered := by decide

theorem test_hyp_HoldAndResume :
    (inState .run).takes .console = true ∧ (inState .run).takes .cell = true ∧ armed.seq.state ≠ .run
      ∧ ((inState .run).seq.state = .run ∧ (inState .run).arbiter.holder = some .sequencer
        ∧ 0 ≤ (inState .run).drive.config.vmax)
      ∧ (inState .run).seq.state ≠ .hold
      ∧ ((inState .hold).seq.state = .hold ∧ (inState .hold).inputs.grips = true) := by decide

theorem test_hyp_AbortEntersEnding :
    (inState .run).takes .cell = true ∧ armed.seq.state = .armed ∧ (inState .preload).seq.state = .preload
      ∧ (inState .run).arbiter.holder = some .sequencer ∧ 0 ≤ (inState .run).drive.config.vmax
      ∧ (linked .streaming).link.state = .streaming
      ∧ ((linked .closing).link.state = .closing ∧ (linked .closing).link.queued .closeArms = false)
      ∧ (let s := linkedWith .closing .sendingBreak (some ⟨.closeArms, .sequencer⟩) true;
        s.link.state = .closing ∧ s.link.queued .closeArms = true)
      ∧ (let s := { inState .run with link := (linked .waking).link };
        s.link.state = .waking ∧ s.link.attachPending = false)
      ∧ (∀ st ∈ [LinkState.waking, .ready],
        let s := { inState .attach with link := { (linked st).link with attachPending := true } };
        s.link.state = st ∧ s.link.attachPending = true ∧ s.seq.state = .attach ∧ s.link.queued .closeArms = false)
      ∧ (let s := { inState .hold with
          link := { (linked .ready).link with attachPending := true, waiting := [⟨.closeArms, .sequencer⟩] }
          seq := { (inState .hold).seq with extAttachFailed := true } };
        s.link.state = .ready ∧ s.link.attachPending = true ∧ s.seq.state = .hold ∧ s.seq.extAttachFailed = true
          ∧ s.link.queued .closeArms = true)
      ∧ (inState .run).link.state = .asleep := by decide

theorem test_hyp_EndingWaitsThenCompletes :
    let s := { inState .ending with meter := { bench.meter with rest := true } }
    s.power = .running ∧ s.seq.state = .ending ∧ s.meter.rest = true ∧ s.link.state = .asleep
      ∧ (inState .ending).meter.rest = false ∧ (inState .run).seq.state ≠ .ending
      ∧ (let u := { s with link := (linkedWith .opening .empty none true).link };
        u.power = .running ∧ u.seq.state = .ending ∧ u.link.state = .opening ∧ u.link.attachPending = true
          ∧ u.link.lock.isSome = true ∧ u.link.discarding = false ∧ u.link.shifter = .empty ∧ u.link.holding = none
          ∧ u.link.waiting = [] ∧ u.meter.rest = true) := by decide

theorem test_hyp_CompletionEffects :
    let s := { inState .ending with seq := { (inState .ending).seq with outcome := some .complete } }
    let u := { s with arbiter := ⟨none, [.cell]⟩ }
    s.queue = { entry with state := .inTest } :: [] ∧ s.seq.state = .ending ∧ s.seq.outcome = some .complete
      ∧ s.arbiter.holder = some .sequencer ∧ u.arbiter.holder = none ∧ s.drive.move = none
      ∧ s.programs[entry.slot]? = some ⟨some body, 1⟩ ∧ s.strain.parallel = some 75000
      ∧ s.results.readers.mem .console = true ∧ Role.cell ∈ u.arbiter.waiting.head?.bind Party.port := by decide

/-- The body of a WRITE_CALIBRATION. -/
def calibrationBody (range : Nat) (t : RangeTable) : List Octet :=
  num1 range ++ num4 t.fullScale ++ num1 t.points.length ++ t.points.flatMap fun q => num4 q.1 ++ num4 q.2

/-- A body of one point, of six octets, and one of eight points, of seventy. -/
theorem test_hyp_CalibrationIsWrittenAsAWhole :
    let eight : RangeTable := ⟨2400000, (List.range 8).map fun n => ((n : Int) * 1000, (n : Int) * 1000)⟩
    bench.takes .console = true ∧ bench.seq.state = .idle ∧ bench.config.inFlight = none ∧ bench.load.tare = none
      ∧ 6 ≤ ([4, 0, 0, 0, 0, 0] : List Octet).length
      ∧ calibrationFailure bench.load.tables [4, 0, 0, 0, 0, 0] = some 1
      ∧ (calibrationBody 1 eight).length ≤ 70
      ∧ calibrationFailure bench.load.tables (calibrationBody 1 { eight with
          points := [(-8388608, -2400000), (8388607, 2400000)] }) = none
      ∧ 8388607 < (word 8388608).toInt ∧ (word (-8388608)).toInt ≤ 8388607 ∧ (word 0).toInt < 1
      ∧ 1 ≤ (word 1).toInt ∧ (word 1000000).toInt ≤ 1000000
      ∧ armed.seq.state ≠ .idle ∧ (calibrationBody 1 (table 100)).length ≤ 70
      ∧ ({ bench with load := bench.load.beginTare } : State).load.tare.isSome = true
      ∧ ({ bench with config := { bench.config with inFlight := some ConfigItems.defaults } } : State).config.inFlight.isSome
      ∧ 65535 < (word 65536).toInt ∧ 0 ≤ (word 0).toInt ∧ (word 65535).toInt ≤ 65535 := by decide

theorem test_hyp_RangeIsSetAndTareBegins :
    bench.takes .console = true ∧ bench.takes .cell = true ∧ 3 < (4 : Octet).toNat ∧ (3 : Octet).toNat ≤ 3
      ∧ armed.seq.state ≠ .idle ∧ bench.seq.state = .idle
      ∧ ({ bench with load := bench.load.beginTare } : State).load.tare.isSome = true ∧ bench.load.tare = none
      ∧ (0 : Octet).toNat = bench.load.activeRange.val
      ∧ (((3 : Fin 4).val = (3 : Octet).toNat) ∧ (3 : Fin 4) ≠ bench.load.activeRange)
      ∧ ((inState .run).seq.state ≠ .idle ∧ (inState .run).seq.state ≠ .armed) ∧ armed.seq.state = .armed := by decide

/-- `bench` in a tare walk. -/
def taring (range : Fin 4) (count : Nat) (found : List Int) : State :=
  { bench with load := { bench.load with activeRange := range, tare := some ⟨range, count, 0, found, 2⟩ } }

theorem test_hyp_TareWalksTheRangesAndCommits :
    let s := taring 0 62 []
    s.power = .running ∧ s.seq.state = .idle ∧ s.seq.autoArm = false ∧ s.load.tare = some ⟨0, 62, 0, [], 2⟩
      ∧ s.load.slotNumber + 1 ≠ 0 ∧ s.load.settling = false ∧ s.link.state ≠ .streaming
      ∧ (BitVec.toInt (8388606 : Word24) ≠ 8388607 ∧ BitVec.toInt (8388606 : Word24) ≠ -8388608 ∧ 62 + 1 < 64)
      ∧ BitVec.toInt (8388607 : Word24) = 8388607 ∧ BitVec.toInt (8388608 : Word24) = -8388608
      ∧ (64 ≤ 63 + 1 ∧ (taring 2 63 [0, 0]).load.tare = some ⟨2, 63, 0, [0, 0], 2⟩
        ∧ (taring 3 63 [1, 2, 3]).load.tare = some ⟨3, 63, 0, [1, 2, 3], 2⟩)
      ∧ (64 ≤ 64 ∧ (taring 2 64 [0, 0]).load.tare = some ⟨2, 64, 0, [0, 0], 2⟩ ∧ (3 : Fin 4).val = (2 : Fin 4).val + 1)
      ∧ (taring 3 64 [1, 2, 3]).load.tare = some ⟨3, 64, 0, [1, 2, 3], 2⟩
      ∧ 0 ≤ s.drive.config.vmax
      ∧ (let u := { armed with load := { s.load with settling := true } };
        u.power = .running ∧ u.seq.state = .armed ∧ u.load.tare = some ⟨0, 62, 0, [], 2⟩ ∧ u.load.settling = true
          ∧ u.load.slotNumber + 1 ≠ 0)
      ∧ (let u := { s with load := { s.load with slotNumber := 255 } };
        u.load.slotNumber + 1 = 0 ∧ u.load.reference = some ⟨4000000, 1000⟩
          ∧ |BitVec.toInt (4001000 : Word24) - 4000000| ≤ 1000 ∧ 1000 < |BitVec.toInt (4001001 : Word24) - 4000000|
          ∧ ({ u.load with reference := none } : LoadUnit).reference = none)
      ∧ (let u := { s with link := { (linked .streaming).link with staleness := 6 } };
        u.link.state = .streaming ∧ u.link.staleness + 1 < 8) := by decide

theorem test_hyp_ConversionSlotDeliversOneSample :
    bench.power = .running ∧ bench.seq.state = .idle ∧ bench.seq.autoArm = false ∧ bench.load.tare = none
      ∧ (bench.link.state = .streaming → bench.link.staleness + 1 < 8)
      ∧ (let s := { linked .streaming with link := { (linked .streaming).link with staleness := 6 } };
        s.link.state = .streaming ∧ s.link.staleness + 1 < 8)
      ∧ bench.load.slotNumber + 1 ≠ 0
      ∧ (let s := { bench with load := { bench.load with slotNumber := 255, reference := none } };
        s.load.slotNumber + 1 = 0 ∧ s.load.reference = none)
      ∧ bench.load.reference = some ⟨4000000, 1000⟩
      ∧ (bench.load.settling = false ∧ State.reset.load.settling = true)
      ∧ State.reset.load.tables.get State.reset.load.activeRange = none
      ∧ bench.load.tables.get bench.load.activeRange = some (table 10000000)
      ∧ unclampedForce (table 10000000).points
          (BitVec.toInt (4000000 : Word24) - bench.load.offsets.get bench.load.activeRange) = some 5000000 := by decide

/-- The overrange threshold, 9,800,000 of 10,000,000, met and missed by one unit; the tolerance likewise. -/
theorem test_hyp_OverrangeAndReferenceReachTheTest :
    let at_ (st : SeqState) (k : Fin 4) : State := { inState st with load := { bench.load with activeRange := k } }
    let l := (at_ .run 0).load
    l.tare = none ∧ l.slotNumber + 1 ≠ 0 ∧ l.settling = false ∧ l.tables.get l.activeRange = some (table 10000000)
      ∧ (unclampedForce (table 10000000).points (7840000 - l.offsets.get l.activeRange) = some 9800000
        ∧ 98 * (table 10000000).fullScale ≤ 100 * |(9800000 : Int)|)
      ∧ (unclampedForce (table 10000000).points (7839999 - l.offsets.get l.activeRange) = some 9799999
        ∧ ¬ (98 * (table 10000000).fullScale ≤ 100 * |(9799999 : Int)|))
      ∧ (unclampedForce (table 2500000).points
          (8388607 - (at_ .run 1).load.offsets.get (at_ .run 1).load.activeRange)).isSome = true
      ∧ ((at_ .run 0).seq.state.underTest = true ∧ (at_ .ending 0).seq.state = .ending
        ∧ (at_ .ending 3).seq.state.inTest = true ∧ (at_ .ending 3).load.activeRange.val = (2 : Fin 4).val + 1)
      ∧ ((255 : BitVec 8) + 1 = 0 ∧ l.reference = some ⟨4000000, 1000⟩ ∧ l.referenceFault = false)
      ∧ (|(4001000 : Int) - 4000000| ≤ 1000 ∧ 1000 < |(4001001 : Int) - 4000000|)
      ∧ ({ l with settling := true } : LoadUnit).settling = true := by decide

theorem test_hyp_ForceStaysWithinFullScale :
    bench.power = .running ∧ exec (.conversionSlot 8000000) bench = .next (after (.conversionSlot 8000000) bench)
      ∧ State.reset.load.tables.get State.reset.load.activeRange = none
      ∧ bench.load.tables.get bench.load.activeRange = some (table 10000000) ∧ 0 ≤ (table 10000000).fullScale
      ∧ (10000000 : Int) ∈ (after (.conversionSlot 8000000) bench).load.last.force :=
  ⟨by decide, rfl, by decide, by decide, by decide, by decide⟩

/-- Two divisors, and a half of each sign. -/
theorem test_hyp_DivisionRoundsHalfAwayFromZero :
    (0 : Int) < 1 ∧ 2 * |(1 : Int) - roundDiv 1 2 * 2| = 2 ∧ roundDiv 1 2 = 1 ∧ roundDiv (-1) 2 = -1
      ∧ ((-3 : Int) ≤ -2) := by decide

theorem test_hyp_HandOffLeavesNoStep :
    let u : StrainUnit := { StrainUnit.cleared ⟨1500, word 454300⟩ with
      area := some 60000, parallel := some 75000, extGauge := some 50000, p0 := some 0, fPre := some 5000
      zero := some 1200, lastUsable := some 11950, source := some .extensometer }
    u.area = some 60000 ∧ u.parallel = some 75000 ∧ u.p0 = some 0 ∧ u.fPre = some 5000
      ∧ u.lastUsable = some 11950 ∧ u.zero = some 1200 ∧ u.extGauge = some 50000 ∧ u.source = some .extensometer
      ∧ ({ u with zero := none } : StrainUnit).zero = none ∧ ({ u with source := none } : StrainUnit).source = none
      ∧ ({ u with source := some .crosshead, delta := -17 } : StrainUnit).source = some .crosshead
      ∧ (2150 : Int) ∈ (u.compute 250000 (word 4000)).epsilon := by decide

theorem test_hyp_RateSampleFollowsItsRules :
    let r : RateController := ⟨350357000, some .stressRate, 1000, 100, 50, false⟩
    let g : Segment := ⟨.strainRate, 250, 20, 500, .yieldEnd, 0⟩
    r.compute g 0 34200 75000 1000000 = ({ r with target := 342500000 }, 5000)
      ∧ ({ r with initPending := true } : RateController).compute g 0 34200 75000 1000000
          = (⟨0, some .strainRate, 250, 20, 500, false⟩, 18750)
      ∧ ((0 : Int) ≤ 1000000 ∧ 0 ≤ r.lead ∧ 0 ≤ g.lead)
      ∧ r.initPending = false ∧ r.mode = some .stressRate ∧ r.mode.isSome = true
      ∧ (let s := { inState .run with
          rate := r, strain := { (inState .run).strain with epsilon := some 0, sigma := some 34200 } };
        s.seq.state = .run ∧ s.rate = r ∧ s.activeSegment = body.segments.head? ∧ s.drive.config.vmax = 1000000
          ∧ s.strain.epsilon = some 0 ∧ s.strain.sigma = some 34200 ∧ s.strain.parallel = some 75000
          ∧ s.arbiter.holder = some .sequencer) := by decide

/-- A sample of each kind: below the arm force, at the fracture's low cut, with an empty and with a full ring, a second
secant point accepted and refused, and each way out of the yield search and of the plateau at its bound. -/
theorem test_hyp_EvaluatorWorksOneSample :
    let e := { Evaluator.cleared with detectors := true, maximum := some ⟨100000, 16667, 1000⟩ }
    let full := { e with ring := List.replicate 8 ⟨100000, 16667, 1000⟩ }
    let plateau := { e with
      search := .foundReh, plateau := .opened, reh := some ⟨30000, 1500⟩, plateauMin := some 29000 }
    (e.sample body (some .crosshead) ⟨9999, 0, 0⟩).2 = false
      ∧ ((full.sample body (some .extensometer) ⟨2000, 333, 1000⟩).2 = true
        ∧ (full.sample body (some .extensometer) ⟨80001, 333, 1000⟩).2 = false)
      ∧ ((Evaluator.cleared.sample body none ⟨1, 0, 0⟩).2 = false ∧ Evaluator.cleared.detectors = false)
      ∧ (body.modulusMode = .secant ∧ e.modulus = none ∧ e.secant1 = none ∧ e.secant2 = none
        ∧ (9999 < body.sigmaLo ∧ body.sigmaLo ≤ 10000 ∧ 24999 < body.sigmaHi ∧ body.sigmaHi ≤ 25000))
      ∧ ((0 : Int) < 1050 - 336 ∧ roundDiv body.nominal 2 ≤ roundDiv ((25000 - 10000) * 10000) (1050 - 336)
        ∧ roundDiv ((25000 - 10000) * 10000) (1050 - 336) ≤ roundDiv (3 * body.nominal) 2 ∧ (336 : Int) - 336 ≤ 0)
      ∧ ({ body with modulusMode := .nominal } : ProgramBody).modulusMode = .nominal
      ∧ (e.search = .active ∧ body.searchLimit ≤ 20000 ∧ 19999 < body.searchLimit)
      ∧ (body.sigmaLo ≤ 30000 ∧ 29500 ≤ 30000 - body.yieldDrop ∧ 30000 - body.yieldDrop < 29501)
      ∧ (body.proofOffset ≤ 3429 - roundDiv (30000 * 10000) 210000
        ∧ 3428 - roundDiv (30000 * 10000) 210000 < body.proofOffset)
      ∧ (plateau.search ≠ .active ∧ plateau.plateau = .opened ∧ plateau.reh = some ⟨30000, 1500⟩
        ∧ plateau.plateauMin = some 29000)
      ∧ ((1500 : Int) + body.transient ≤ 3500 ∧ 29000 + body.rise ≤ 30000
        ∧ ((3499 : Int) < 1500 + body.transient ∨ (29999 : Int) < 29000 + body.rise))
      ∧ e.plateau ≠ .opened := by decide

/-- Force samples one unit below the preload force and at it, the travel at its limit and one count beyond. -/
theorem test_hyp_PreloadIsReachedOrAborts :
    let at_ (f : Int) (travel : Int) : State := { inState .preload with
      seq := { (inState .preload).seq with startPosition := word (1204300 - travel) }
      load := { bench.load with last := ⟨some f, false, 2⟩ } }
    (at_ 5000 0).headProgram = some body ∧ (at_ 5000 0).seq.state = .preload
      ∧ (at_ 5000 0).load.last.force = some 5000 ∧ (at_ 5000 0).arbiter.holder = some .sequencer
      ∧ body.preload ≤ 5000 ∧ body.extUse = .auto ∧ (at_ 5000 0).link.state ≠ .streaming
      ∧ ({ body with extUse := .none } : ProgramBody).extUse = .none ∧ (at_ 5000 0).eval.ring = []
      ∧ (4999 < body.preload
        ∧ body.travelLimit * 10 < (at_ 4999 100001).drive.encoder.toInt - (at_ 4999 100001).seq.startPosition.toInt
        ∧ (at_ 4999 100000).drive.encoder.toInt - (at_ 4999 100000).seq.startPosition.toInt
            ≤ body.travelLimit * 10)
      ∧ ({ (at_ 5000 0).load with last := ⟨none, true, 2⟩ } : LoadUnit).last.force = none
      ∧ 0 ≤ (at_ 5000 0).drive.config.vmax
      ∧ (∀ st ∈ [LinkState.asleep, .lost, .opening, .waking, .closing],
        ({ at_ 5000 0 with link := (linked st).link } : State).link.state = st)
      ∧ ((linkedWith .ready (.command ⟨.sleep, .link⟩ false none) none false).link.onLine .sleep = true
        ∧ (linked .ready).link.shifter = .empty ∧ (linked .ready).link.waiting = []
        ∧ (linked .ready).link.attachPending = false ∧ (linked .ready).link.onLine .sleep = false)
      ∧ (∀ holding ∈ [none, some (⟨.openArms, .link⟩ : QueuedCommand)],
        (linkedWith .ready (.command ⟨.streamOff, .link⟩ false none) holding false).link.shifter ≠ .empty)
      ∧ (linkedWith .ready (.command ⟨.streamOff, .link⟩ false none) (some ⟨.closeArms, .link⟩) true).link.queued
          .closeArms = true
      ∧ (let l := { (linked .streaming).link with latest := some ⟨1, 1200, .closed, false, false⟩ };
        l.state = .streaming ∧ l.latest = some ⟨1, 1200, .closed, false, false⟩) := by decide

/-- A sample in each state, fracturing and not; an extensometer reading, overranged and lost; each end event at its
bound. -/
theorem test_hyp_SamplesMoveTheTest :
    let at_ (st : SeqState) (ring : List TestSample) : State := { inState st with
      load := { bench.load with last := ⟨some 2000, false, 2⟩ }
      strain := { (inState st).strain with p0 := some (word 0), fPre := some 5000, source := some .crosshead }
      eval := { Evaluator.cleared with detectors := true, maximum := some ⟨100000, 16667, 1000⟩, ring := ring } }
    let u := { at_ .run [] with
      strain := { (at_ .run []).strain with source := some .extensometer, epsilon := some 10000, sigma := some 333 }
      link := { (linked .streaming).link with latest := some ⟨1, 0, .closed, true, false⟩ } }
    (bench.power = .running ∧ (taring 0 5 []).load.tare.isSome = true ∧ bench.load.referenceFault = false)
      ∧ ((inState .run).seq.state.underTest = true ∧ (inState .ending).seq.state.underTest = false)
      ∧ ((linked .streaming).link.state = .streaming ∧ 6 + 1 < 8 ∧ 8 ≤ 7 + 1)
      ∧ (∀ st ∈ [SeqState.attach, .run, .hold, .ending],
        (at_ st []).seq.state = st ∧ (at_ st []).headProgram = some body ∧ (at_ st []).load.last.force = some 2000
          ∧ (at_ st []).arbiter.holder = some .sequencer ∧ 0 ≤ (at_ st []).drive.config.vmax)
      ∧ ((at_ .run (List.replicate 8 ⟨100000, 16667, 1000⟩)).sampleTest.seq.outcome = some .complete
        ∧ (at_ .run []).sampleTest.seq.outcome = none)
      ∧ ((at_ .ending []).strain.p0.isSome = true ∧ (inState .ending).strain.p0 = none)
      ∧ (u.strain.source = some .extensometer ∧ u.link.state = .streaming
        ∧ (∀ l ∈ u.link.latest, l.overrange = true) ∧ (linked .opening).link.state ≠ .streaming
        ∧ (at_ .run []).strain.source ≠ some .extensometer)
      ∧ ((10000 : Int) ∈ u.strain.epsilon ∧ body.releaseStrain ≤ 10000
        ∧ ({ body with releaseDrop := 100 } : ProgramBody).releaseDrop ≠ 0 ∧ 2000 ≤ 100000 - roundDiv (100000 * 100) 1000)
      ∧ (u.activeSegment = body.segments.head? ∧ u.seq.yieldEndSeen = false
        ∧ ({ u with seq := { u.seq with yieldEndSeen := true } } : State).seq.yieldEndSeen = true)
      ∧ (at_ .hold []).seq.state = .hold ∧ ({ (at_ .hold []).load with last := ⟨none, true, 2⟩ } : LoadUnit).last.force = none
      ∧ (let s := { at_ .attach [] with link := u.link };
        s.seq.state = .attach ∧ s.link.state = .streaming ∧ s.link.latest.isSome = true)
      ∧ (let s := { at_ .attach [] with link := (linked .lost).link };
        s.link.state = .lost ∧ (at_ .attach []).link.state = .asleep) := by decide

theorem test_hyp_AttachAndDetachByLinkState :
    bench.takes .console = true ∧ armed.seq.state ≠ .idle ∧ bench.seq.state = .idle
      ∧ bench.link.state = .asleep
      ∧ (let s := linked .ready;
        s.link.state = .ready ∧ s.link.attachPending = false ∧ s.link.waiting = [] ∧ s.link.shifter = .empty)
      ∧ (let s := linkedWith .ready (.command ⟨.sleep, .link⟩ false none) none false; s.link.onLine .sleep = true)
      ∧ (let s := linkedWith .ready (.command ⟨.streamOff, .link⟩ false none) none false;
        s.link.shifter ≠ .empty ∧ s.link.onLine .sleep = false ∧ s.link.holding = none)
      ∧ (let s := linkedWith .ready (.command ⟨.streamOff, .link⟩ false none) (some ⟨.closeArms, .console⟩) false;
        s.link.shifter ≠ .empty ∧ s.link.onLine .sleep = false ∧ s.link.holding.isSome = true)
      ∧ (linked .waking).link.state = .waking ∧ (linked .opening).link.state = .opening
      ∧ (let s := linked .closing; s.link.state = .closing ∧ s.link.queued .closeArms = false
        ∧ s.link.shifter = .empty ∧ s.link.waiting = [] ∧ s.link.holding = none)
      ∧ (let s := linkedWith .streaming (.command ⟨.streamOn, .link⟩ false none) (some ⟨.openArms, .console⟩) false;
        s.link.state = .streaming ∧ s.link.shifter ≠ .empty
          ∧ (∃ c ∈ s.link.holding, c.command ≠ .streamOn))
      ∧ (let s := linkedWith .ready (.command ⟨.sleep, .link⟩ false none) none true;
        s.link.onLine .sleep = true ∧ s.link.attachPending = true ∧ s.link.queued .closeArms = false)
      ∧ (let s := linkedWith .ready (.command ⟨.streamOff, .link⟩ false none) (some ⟨.streamOff, .link⟩) true;
        ({ s.link with waiting := [⟨.closeArms, .console⟩] } : ExtLink).queued .closeArms = true)
      ∧ (let s := linkedWith .closing (.command ⟨.streamOff, .link⟩ false none) (some ⟨.closeArms, .console⟩) true;
        s.link.state = .closing ∧ s.link.queued .closeArms = true)
      ∧ (let s := linkedWith .streaming (.command ⟨.streamOff, .link⟩ false none) (some ⟨.streamOn, .link⟩) false;
        s.link.shifter ≠ .empty ∧ s.link.waiting = [] ∧ ∀ c ∈ s.link.holding, c.command = .streamOn) := by decide

/-- The shifter's command awaits no answer. -/
def quiet (s : State) : Bool :=
  match s.link.shifter with
  | .command _ _ (some _) => false
  | _ => true

theorem test_hyp_StatusFrameByLinkState :
    (∀ st ∈ [LinkState.ready, .closing, .streaming, .opening, .waking, .lost],
      (linked st).power = .running ∧ (linked st).link.lock.isSome = true ∧ (linked st).link.discarding = false
        ∧ (linked st).seq.state = .idle ∧ quiet (linked st) = true)
      ∧ ((0 : Octet) = 0 ∧ ArmsState.closing ≠ .closed ∧ ArmsState.closed ≠ .opened ∧ (linked .lost).link.armsUnknown = false)
      ∧ ((linked .closing).link.streamRequested = false ∧ (linked .closing).link.shifter = .empty)
      ∧ ((1 : Octet) ≠ 0 ∧ ArmsState.opening ≠ .closed ∧ ArmsState.closed ≠ .opened)
      ∧ ((linked .opening).link.attachPending = false ∧ (linked .opening).link.shifter = .empty)
      ∧ ({ (linked .lost).link with armsUnknown := true } : ExtLink).armsUnknown = true
      ∧ (let s := linkedWith .opening (.command ⟨.openArms, .console⟩ false (some 7)) none true;
        s.link.shifter = .command ⟨.openArms, .console⟩ false (some 7) ∧ s.link.holding = none
          ∧ s.link.attachPending = true ∧ s.link.waiting = [])
      ∧ (let s := linkedWith .ready (.command ⟨.streamOff, .link⟩ false (some 0)) (some ⟨.streamOff, .link⟩) true;
        let l := { s.link with waiting := [⟨.closeArms, .console⟩] };
        l.shifter = .command ⟨.streamOff, .link⟩ false (some 0) ∧ HeadCommand.streamOff ≠ .sleep
          ∧ l.holding.isSome = true ∧ l.waiting.head? = some ⟨.closeArms, .console⟩)
      ∧ (∀ pending ∈ [false, true],
        let s := linkedWith .ready (.command ⟨.sleep, .link⟩ true (some 50000)) none pending;
        s.link.state = .ready ∧ s.link.shifter = .command ⟨.sleep, .link⟩ true (some 50000)
          ∧ s.link.attachPending = pending ∧ s.link.waiting = []) := by decide

/-- The quantified hypothesis of the last witness: no command awaits its answer. -/
theorem test_hyp_no_answer_awaited : ∀ c second n, (linked .ready).link.shifter ≠ .command c second (some n) := by
  intro c second n h
  cases h

/-- The arms codes 0 and 3, a code of 4, and frames one character short of their length. -/
theorem test_hyp_HeadFramesAreFormed :
    armsCode .opened = (0 : Octet).toNat ∧ armsCode .opening = (3 : Octet).toNat ∧ 3 < (4 : Octet).toNat
      ∧ (0x63 : Octet) ≠ crc8 [0xA0, 2, 0] ∧ (0xFF : Octet) ≠ crc8 [0xA5, 0, 0, 0, 0, 0]
      ∧ ((0xA1 : Octet) ≠ 0xA0 ∧ (0xA1 : Octet) ≠ 0xA5)
      ∧ (([2, 0] : List Octet).length + 1 < 4 ∧ ([0, 0, 0, 0, 0] : List Octet).length + 1 < 7)
      ∧ (linkedWith .ready (.command ⟨.sleep, .link⟩ true none) none false).link.shifter
          = .command ⟨.sleep, .link⟩ true none := by decide

theorem test_hyp_ReadingFrameByLinkState :
    (∀ st ∈ [LinkState.ready, .closing, .streaming],
      (linked st).power = .running ∧ (linked st).link.lock.isSome = true ∧ (linked st).link.discarding = false
        ∧ (linked st).seq.state ≠ .attach ∧ (linked st).seq.state ≠ .ending)
      ∧ ((linked .closing).link.state ≠ .streaming
        ∧ ((linked .closing).link.state = .closing → (linked .closing).link.streamRequested = false))
      ∧ (linked .streaming).link.state = .streaming
      ∧ ({ (linked .closing).link with streamRequested := true } : ExtLink).streamRequested = true
      ∧ (0x08 : Octet).getLsbD 3 = true ∧ (0x02 : Octet).getLsbD 3 = false
      ∧ ({ (linked .streaming).link with lastSequence := some 255 } : ExtLink).lastSequence = some 255
      ∧ (linked .streaming).link.lastSequence ≠ some 255
      ∧ (0x06 : Octet).getLsbD 2 = true ∧ (0x02 : Octet).getLsbD 2 = false
      ∧ (let u := { StrainUnit.cleared bench.strain.frame with source := some .extensometer };
        u.source = some .extensometer ∧ u.handedOff = false) := by decide

theorem test_hyp_LineEventsOfTheLink :
    (linked .ready).power = .running
      ∧ (linkedWith .ready (.command ⟨.sleep, .link⟩ false none) none false).link.shifter
          = .command ⟨.sleep, .link⟩ false none
      ∧ (linkedWith .ready (.command ⟨.sleep, .link⟩ false (some 50000)) none false).link.shifter
          = .command ⟨.sleep, .link⟩ false (some 50000)
      ∧ ((linkedWith .waking .sendingBreak none true).link.shifter = .sendingBreak
        ∧ (linkedWith .waking .sendingBreak none true).link.holding = none)
      ∧ ((linked .ready).link.lock.isSome = true ∧ (linked .ready).link.discarding = false) := by decide

/-- `bench` with its link in a wake attempt. -/
def waking (number : Nat) (window : Option Nat) (unknown : Bool) : State :=
  { bench with link := { bench.link with
    state := .waking, wake := some ⟨number, 0⟩, syncWindow := window, armsUnknown := unknown } }

theorem test_hyp_WakeAttemptsLockOrFail :
    (∀ s ∈ [waking 1 (some 0) false, waking 1 (some 0) true, waking 2 (some 0) false, waking 3 (some 0) false,
        waking 2 none false],
      s.power = .running ∧ s.seq.state ≠ .attach ∧ s.seq.state ≠ .ending ∧ s.link.state = .waking
        ∧ s.link.lock = none ∧ s.link.shifter = .empty)
      ∧ (waking 2 (some 0) false).link.wake = some ⟨2, 0⟩
      ∧ ((waking 1 (some 0) false).link.syncWindow.isSome = true ∧ (78 : Nat) ≤ 78 ∧ (82 : Nat) ≤ 82
        ∧ (waking 1 (some 0) false).link.attachPending = false ∧ (waking 1 (some 0) false).link.armsUnknown = false)
      ∧ (waking 1 (some 0) true).link.armsUnknown = true
      ∧ ((77 : Nat) < 78 ∧ 82 < (83 : Nat) ∧ (0x54 : Octet) ≠ 0x55)
      ∧ (2 < 3 ∧ 3 ≤ 3 ∧ (waking 2 none false).link.syncWindow = none)
      ∧ (let s := { waking 3 (some 19999) false with link := { (waking 3 (some 19999) false).link with attachPending := true } };
        s.link.attachPending = true ∧ s.link.holding = none ∧ s.link.waiting = [])
      ∧ (let s := { waking 1 (some 0) true with link := { (waking 1 (some 0) true).link with state := .lost } };
        s.link.state = .lost ∧ s.link.syncWindow.isSome = true ∧ s.link.lock = none ∧ s.link.shifter = .empty) := by decide

theorem test_hyp_LossesOfTheLink :
    (∀ st ∈ [LinkState.waking, .ready, .closing, .streaming, .opening],
      (linked st).power = .running ∧ (linked st).seq.state = .idle ∧ (linked st).link.state ≠ .asleep
        ∧ (linked st).link.state ≠ .lost)
      ∧ ({ (linked .opening).link with operationTimer := some 20000000 } : ExtLink).operationTimer.isSome = true
      ∧ ({ (linked .streaming).link with staleness := 8 } : ExtLink).staleness = 8
      ∧ ((linkedWith .ready (.command ⟨.sleep, .link⟩ true (some 0)) none false).link.shifter
            = .command ⟨.sleep, .link⟩ true (some 0)
        ∧ (linkedWith .ready (.command ⟨.sleep, .link⟩ true (some 0)) none false).link.attachPending = false)
      ∧ (let s := { linked .ready with link := { (linked .ready).link with sleepTimer := some 100000000 } };
        s.link.state = .ready ∧ s.link.sleepTimer.isSome = true ∧ s.link.shifter = .empty
          ∧ s.link.queued .sleep = false)
      ∧ (let s := { linked .lost with link := { (linked .lost).link with
          armsUnknown := true, recoveryTimer := some 1000000 } };
        s.link.state = .lost ∧ s.link.armsUnknown = true ∧ s.link.recoveryTimer.isSome = true)
      ∧ ((linkedWith .lost (.command ⟨.openArms, .link⟩ true (some 50000)) none false).link.state = .lost
        ∧ (linkedWith .asleep (.command ⟨.sleep, .link⟩ true (some 50000)) none false).link.holding = none)
      ∧ (let s := { inState .attach with
          link := (linkedWith .ready (.command ⟨.sleep, .link⟩ true (some 50000)) none true).link };
        s.power = .running ∧ s.seq.state = .attach ∧ s.link.state = .ready ∧ s.link.attachPending = true
          ∧ ({ s with seq := { s.seq with state := .ending } } : State).seq.state = .ending) := by decide

theorem test_hyp_AuthorityIsRequestedAndReleased :
    partyOf .cell = some .cell ∧ bench.takes .cell = true
      ∧ State.reset.inputs.latch = true ∧ bench.inputs.latch = false
      ∧ (let s := { bench with arbiter := ⟨some .cell, [.console]⟩ };
        s.arbiter.holder = some .cell ∧ s.seq.state.inTest = false ∧ s.arbiter.waiting.head? ≠ some .sequencer)
      ∧ (let s := { bench with arbiter := ⟨some .console, [.cell]⟩ };
        s.arbiter.holder ≠ some .cell ∧ .cell ∈ s.arbiter.waiting)
      ∧ (bench.arbiter.holder = none ∧ .cell ∉ bench.arbiter.waiting ∧ bench.seq.state.inTest = false)
      ∧ (inState .run).seq.state.inTest = true
      ∧ (let s := { armed with arbiter := ⟨some .cell, [.sequencer, .console]⟩ };
        s.arbiter.waiting = .sequencer :: [.console] ∧ s.seq.state = .armed ∧ 0 ≤ s.drive.config.vmax
          ∧ s.queue = { entry with state := .armed } :: [] ∧ s.programAt entry.slot = some body
          ∧ body.startMode = .grips ∧ s.seq.openSeen = true ∧ s.inputs.grips = true ∧ s.load.tare = none
          ∧ s.load.referenceFault = false
          ∧ ({ s.seq with openSeen := false } : Sequencer).openSeen = false
          ∧ s.arbiter.holder = some .cell ∧ s.seq.state.inTest = false) := by decide

/-- A move onto a limit and a move onto its own position, a clamped speed and an unreferenced one. -/
theorem test_hyp_MovesAreRecordedAndStarted :
    let s := { bench with arbiter := ⟨some .console, []⟩ }
    let u := { s with drive := { s.drive with referenced := false } }
    s.takes .console = true ∧ s.portHolds .console = true ∧ bench.portHolds .console = false
      ∧ s.meter.rest = false ∧ 1 ≤ s.drive.config.step ∧ s.drive.config.step ≤ 100
      ∧ 1000 ≤ s.drive.config.vmax ∧ s.drive.config.vmax ≤ 2000000 ∧ 1000 ≤ s.drive.config.jogLimit
      ∧ 1000 ≤ (word 1000).toInt ∧ (word 2000000).toInt ≤ 2000000
      ∧ s.drive.config.lower.toInt ≤ s.drive.config.upper.toInt ∧ s.drive.referenced = true
      ∧ (15000000 = max s.drive.config.lower.toInt (min s.drive.config.upper.toInt (word 15000001).toInt))
      ∧ (-100000000 ≤ (word (-100000000)).toInt ∧ (word 0).toInt ≤ 100000000 ∧ u.drive.referenced = false)
      ∧ min (min (word 2000000).toInt u.drive.config.vmax) u.drive.config.jogLimit = 200000
      ∧ (roundDiv (1000000000 * s.drive.config.step) 1000 ≤ 16777215 ∧ 16777215 < roundDiv (1000000000 * 17) 1000)
      ∧ ((word 999).toInt < 1000 ∧ 2000000 < (word 2000001).toInt ∧ 100000000 < (word 100000001).toInt)
      ∧ ((moving .moveTo 0).drive.move.isSome = true ∧ (moving .moveTo 0).drive.generator.isSome = true
        ∧ (moving .moveTo 0).portHolds .console = true) := by decide

theorem test_hyp_JogRunsUntilStopped :
    let s := { bench with arbiter := ⟨some .cell, []⟩ }
    s.takes .cell = true ∧ bench.portHolds .cell = false ∧ s.portHolds .cell = true
      ∧ ((2 : Octet) ≠ 0 ∧ (2 : Octet) ≠ 1) ∧ ((word 999).toInt < 1000 ∧ 2000000 < (word 2000001).toInt)
      ∧ 1000 ≤ (word 1000).toInt ∧ (word 2000000).toInt ≤ 2000000
      ∧ 1 ≤ s.drive.config.step ∧ s.drive.config.step ≤ 100 ∧ 1000 ≤ s.drive.config.vmax ∧ s.drive.config.vmax ≤ 2000000
      ∧ 1000 ≤ s.drive.config.jogLimit := by decide

theorem test_hyp_PositionAndConfigurationAreSet :
    let s := { bench with arbiter := ⟨some .console, []⟩ }
    s.takes .console = true ∧ bench.arbiter.holder ≠ some .console ∧ s.arbiter.holder = some .console
      ∧ (moving .moveTo 0).drive.generator.isSome = true ∧ (s.drive.generator = none ∧ s.drive.move = none)
      ∧ ((word (-1)).toInt < s.drive.config.lower.toInt ∧ s.drive.config.upper.toInt < (word 15000001).toInt)
      ∧ (s.drive.config.lower.toInt ≤ (word 0).toInt ∧ (word 15000000).toInt ≤ s.drive.config.upper.toInt)
      ∧ armed.seq.state ≠ .idle ∧ s.seq.state = .idle ∧ s.config.inFlight = none
      ∧ (let c : DriveConfig := ⟨(100 : Octet).toNat, 1000, 500000, word 1204300, word 1204301, 10⟩;
        1 ≤ c.step ∧ c.step ≤ 100 ∧ 1000 ≤ c.vmax ∧ c.vmax ≤ 2000000 ∧ 1000 ≤ c.jogLimit ∧ c.jogLimit ≤ 500000
          ∧ c.lower.toInt < c.upper.toInt ∧ 10 ≤ c.following ∧ c.following ≤ 100000
          ∧ c.lower.toInt ≤ s.drive.commanded.toInt ∧ s.drive.commanded.toInt ≤ c.upper.toInt)
      ∧ (¬ (1 ≤ ((0 : Octet).toNat : Int)) ∧ ¬ (((101 : Octet).toNat : Int) ≤ 100) ∧ ¬ (1000 ≤ (word 999).toInt)
        ∧ ¬ ((word 500001).toInt ≤ 500000) ∧ (word 5).toInt ≤ (word 5).toInt ∧ ¬ ((word 100001).toInt ≤ 100000))
      ∧ (s.drive.referenced = true ∧ s.drive.commanded.toInt < (word 1204301).toInt
        ∧ (word 1204299).toInt < s.drive.commanded.toInt) := by decide

/-- A pulse onto the soft limit, one past it, one onto the target. -/
theorem test_hyp_PeriodEndEmitsOnePulse :
    let s := moving (.jog .opening) 0
    let a (upper : Int) := { s with drive := { s.drive with config := { s.drive.config with upper := word upper } } }
    s.power = .running ∧ s.drive.generator = some ⟨10000, 0, .opening⟩ ∧ s.drive.source = .move
      ∧ ({ s.drive with generator := some ⟨10000, 0, .closing⟩ } : Drive).generator = some ⟨10000, 0, .closing⟩
      ∧ ((a 1204301).drive.config.lower.toInt ≤ 1204300 + 1 ∧ 1204300 + 1 ≤ (a 1204301).drive.config.upper.toInt)
      ∧ |(word 1204301 - s.drive.encoder).toInt| ≤ s.drive.config.following
      ∧ (∀ m ∈ s.drive.move, m.kind = .jog .opening)
      ∧ ((a 1204300).drive.referenced = true ∧ (a 1204300).drive.config.upper.toInt < 1204300 + 1)
      ∧ (let t := moving .moveTo (word 1204301); ∀ m ∈ t.drive.move, m.kind = .moveTo ∧ m.target = word 1204301
        ∧ t.drive.commanded ≠ word 1204301 ∧ t.meter.rest = false
        ∧ ({ t.meter with rest := true } : SpeedMeter).rest = true)
      ∧ (∀ m ∈ (moving .moveTo (word 1204302)).drive.move,
        m.target ≠ (moving .moveTo 0).drive.commanded ∧ m.target ≠ word 1204301)
      ∧ (∀ st ∈ [SeqState.run, .ending, .armed],
        let u := { inState st with drive := { (a 1204300).drive with move := none, source := .sequencer } };
        u.power = .running ∧ u.seq.state = st ∧ u.drive.move = none ∧ u.drive.source = .sequencer
          ∧ u.drive.referenced = true ∧ u.drive.generator.isSome = true) := by decide

theorem test_hyp_EncoderCountsAreMeasured :
    let s (m : Measurement) (counter : Int) := { bench with meter := { bench.meter with inFlight := m, counter := counter } }
    (s .none 0).power = .running ∧ (s .none 0).seq.state ≠ .ending ∧ (s .none 0).drive.move = none
      ∧ |((s .none 0).drive.commanded - ((s .none 0).drive.encoder + 1)).toInt| ≤ (s .none 0).drive.config.following
      ∧ (s .none 0).meter.inFlight = .none ∧ (s (.gateOpen 4 3) 32767).meter.inFlight = .gateOpen 4 3
      ∧ (s (.intervalTiming .closing) 5).meter.inFlight = .intervalTiming .closing ∧ Direction.closing ≠ .opening
      ∧ ((s .none 0).meter.method = .gated ∧ (s (.gateOpen 4 2) 0).meter.inFlight = .gateOpen 4 2 ∧ 2 + 1 < 4)
      ∧ (4 ≤ 3 + 1 ∧ (25000 : Int) = roundDiv ((s (.gateOpen 4 3) 1).meter.counter * 100000) 4
        ∧ (s .none 0).meter.config.restSpeed ≤ |(25000 : Int)|
        ∧ ¬ 5 * |(s .none 0).drive.velocity| + 200000 < 4 * |(25000 : Int)|)
      ∧ (|roundDiv ((s (.gateOpen 4 3) 0).meter.counter * 100000) 4| < (s .none 0).meter.config.restSpeed)
      ∧ (((1 : Nat) : Int) = max 1 (s (.intervalTiming .opening) 0).meter.counter
        ∧ 5 * |(0 : Int)| + 200000 < 4 * |1 * roundDiv 100000000 ((1 : Nat) : Int)| ∧ (0 : Nat) + 1 < 3)
      ∧ ((s .intervalWaiting 65535).meter.inFlight = .intervalWaiting ∧ 65535 ≤ (s .intervalWaiting 65535).meter.counter
        ∧ (s .intervalWaiting 65534).meter.counter < 65535)
      ∧ (true ≠ (s .none 0).drive.channels.encA ∧ false = (s .none 0).drive.channels.encB)
      ∧ (false = (s .none 0).drive.channels.encA ∧ true ≠ (s .none 0).drive.channels.encB)
      ∧ (let m : SpeedMeter := { bench.meter with lowRun := 1, inFlight := .gateOpen 4 3 };
        min (m.lowRun + 1) 2 = 2 ∧ true ≠ m.rest)
      ∧ (let u := { moving .moveTo 0 with
          meter := { bench.meter with rest := true }
          drive := { bench.drive with move := some ⟨1, .moveTo, .console, 0, 100000, false, .settling⟩ } };
        u.drive.move = some ⟨1, .moveTo, .console, 0, 100000, false, .settling⟩ ∧ u.meter.rest = true)
      ∧ (∀ m ∈ (moving .moveTo 0).drive.move, m.phase = .travelling) := by decide

theorem test_hyp_DriveFaultsAndSpeedConfig :
    let s := { bench with arbiter := ⟨some .cell, []⟩, meter := { bench.meter with overspeedCount := 3, inFlight := .gateWaiting } }
    s.power = .running ∧ s.seq.state = .idle ∧ s.drive.move = none ∧ s.arbiter.waiting = []
      ∧ s.arbiter.holder ≠ some .sequencer ∧ s.meter.overspeedCount = 3 ∧ bench.meter.overspeedCount < 3
      ∧ (let t := { s with drive := { s.drive with encoder := word 1224300 } };
        t.drive.config.following < |(t.drive.commanded - (t.drive.encoder + 1)).toInt|)
      ∧ s.meter.inFlight = .gateWaiting
      ∧ s.takes .console = true ∧ armed.seq.state ≠ .idle ∧ s.config.inFlight = none
      ∧ ((2 : Octet) ≠ 1 ∧ (2 : Octet) ≠ 4 ∧ (2 : Octet) ≠ 8)
      ∧ ((word 99).toInt < 100 ∧ 50000 < (word 50001).toInt ∧ 100 ≤ (word 100).toInt ∧ (word 50000).toInt ≤ 50000)
      ∧ (4 : Octet).toNat = s.meter.config.gate ∧ (8 : Octet).toNat ≠ s.meter.config.gate
      ∧ (let m : SpeedMeter := { bench.meter with overspeedCount := 2, inFlight := .gateOpen 4 3, counter := 5 };
        m.inFlight = .gateOpen 4 3 ∧ 4 ≤ 3 + 1 ∧ (125000 : Int) = roundDiv (m.counter * 100000) 4
          ∧ 5 * |(0 : Int)| + 200000 < 4 * |(125000 : Int)| ∧ m.config.restSpeed ≤ |(125000 : Int)| ∧ 4 ≤ |m.counter|
          ∧ 2 ≤ m.overspeedCount)
      ∧ (true ≠ bench.drive.channels.encA ∧ false = bench.drive.channels.encB)
      ∧ (let t := { moving (.jog .opening) 0 with drive := { (moving (.jog .opening) 0).drive with encoder := word 1184300 } };
        t.drive.config.following < |(t.drive.commanded + 1 - t.drive.encoder).toInt|
          ∧ t.drive.config.lower.toInt ≤ 1204301 ∧ 1204301 ≤ t.drive.config.upper.toInt
          ∧ ∀ m ∈ t.drive.move, m.kind = .jog .opening)
      ∧ (s.arbiter.holder = some .cell ∧ Party.port .cell = some .cell ∧ s.seq.state.inTest = false
        ∧ s.arbiter.waiting.head? ≠ some .sequencer)
      ∧ (bench.arbiter.holder = none ∧ bench.arbiter.waiting = [] ∧ bench.seq.state ≠ .ending)
      ∧ (armed.arbiter.holder = some .sequencer ∧ armed.drive.move = none ∧ armed.seq.state = .armed ∧ armed.arbiterLaw
        ∧ armed.queue = { entry with state := .armed } :: [])
      ∧ ((inState .run).seq.state.underTest = true ∧ (inState .run).meter.rest = false
        ∧ (inState .ending).seq.state = .ending ∧ (inState .ending).meter.rest = false) := by decide

theorem test_hyp_DriveFaultsAndSpeedConfig_sequencer_waits :
    let s := { armed with arbiter := ⟨some .cell, [.sequencer]⟩ }
    s.arbiter.holder = some .cell ∧ Party.port .cell = some .cell ∧ s.seq.state = .armed
      ∧ s.arbiter.waiting = .sequencer :: [] := by decide

theorem test_hyp_PinsAndGripsActByRule :
    let open_ (s : State) := filtered { s with inputs := { s.inputs with grips := false } }
    (open_ bench).power = .running
      ∧ (let i := { bench.inputs with frameStopFilter := some 999, gripsFilter := some 19999 };
        (∀ n ∈ i.frameStopFilter, n < 1000) ∧ ∀ n ∈ i.gripsFilter, n < 20000)
      ∧ ((open_ bench).inputs.gripsFilter = some 20000 ∧ (open_ bench).inputs.grips = false)
      ∧ (bench.queue = [] ∧ bench.seq.state ≠ .armed ∧ (inState .run).queue = { entry with state := .inTest } :: [])
      ∧ (loaded.queue = entry :: [] ∧ entry.state ≠ .inTest)
      ∧ (armed.seq.state = .armed ∧ armed.queue = { entry with state := .armed } :: []
        ∧ armed.programAt entry.slot = some body ∧ body.startMode = .grips ∧ armed.arbiter.holder = some .sequencer
        ∧ armed.seq.openSeen = true ∧ armed.load.tare = none ∧ armed.load.referenceFault = false)
      ∧ ({ armed.seq with openSeen := false } : Sequencer).openSeen = false
      ∧ (filtered bench).inputs.grips = true ∧ (inState .hold).seq.state = .hold
      ∧ (inState .attach).seq.state = .attach
      ∧ ((inState .run).seq.state = .run ∧ (inState .run).headProgram = some body
        ∧ (inState .run).arbiter.holder = some .sequencer ∧ body.gripOpen = .hold ∧ 0 ≤ (inState .run).drive.config.vmax)
      ∧ ({ body with gripOpen := .abort } : ProgramBody).gripOpen = .abort
      ∧ (inState .ending).seq.state = .ending := by decide

theorem test_hyp_FrameStopSetsAndClears :
    bench.power = .running ∧ (filtered bench).inputs.frameStopFilter = some 1000
      ∧ (bench.inputs.frameStop = false ∧ bench.inputs.latch = false)
      ∧ (let s := { bench with inputs := { bench.inputs with latch := true } };
        s.inputs.frameStop = false ∧ s.inputs.latch = true)
      ∧ State.reset.inputs.frameStop = true ∧ bench.takes .console = true
      ∧ (Party.port .cell = some .cell ∧ ({ bench with arbiter := ⟨some .cell, [.console]⟩ } : State).arbiter.holder = some .cell)
      ∧ (armed.seq.state = .armed ∧ armed.queue = { entry with state := .armed } :: [])
      ∧ ((inState .run).seq.state.underTest = true ∧ (inState .run).meter.rest = false)
      ∧ ((inState .ending).seq.state = .ending ∧ (inState .ending).meter.rest = false) := by decide

theorem test_hyp_ConfigurationSurvivesTheSupply :
    let s := { bench with config := { bench.config with inFlight := some ConfigItems.defaults } }
    bench.takes .console = true ∧ armed.seq.state ≠ .idle ∧ bench.seq.state = .idle
      ∧ s.config.inFlight = some ConfigItems.defaults ∧ bench.config.inFlight = none ∧ s.power = .running
      ∧ ({ bench with power := .loading } : State).power = .loading := by decide

theorem test_hyp_ControllerResetKeepsAndClears :
    bench.takes .console = true ∧ bench.power = .running ∧ bench.load.tare = none
      ∧ (taring 1 5 [0]).load.tare = some ⟨1, 5, 0, [0], 2⟩
      ∧ bench.link.state = .asleep ∧ ((linked .closing).link.state ≠ .ready ∧ (linked .closing).link.state ≠ .asleep)
      ∧ (Party.port .console = some .console
        ∧ ({ bench with arbiter := ⟨some .console, [.cell]⟩ } : State).arbiter.holder = some .console)
      ∧ bench.seq.state = .idle ∧ (armed.seq.state = .armed ∧ armed.queue = { entry with state := .armed } :: [])
      ∧ ((inState .run).seq.state.inTest = true ∧ (inState .run).seq.state ≠ .ending)
      ∧ ((inState .ending).seq.state = .ending ∧ (inState .ending).queue = { entry with state := .inTest } :: []
        ∧ (inState .ending).programs[entry.slot]? = some ⟨some body, 1⟩ ∧ bench.results.readers.mem .console = true)
      ∧ (let s := { inState .ending with seq := { (inState .ending).seq with outcome := some .complete } };
        s.programAt entry.slot = some body ∧ s.strain.parallel = some 75000 ∧ s.seq.outcome = some .complete) := by
  decide

/-- A test in RUN whose crosshead runs. -/
def running : State :=
  { inState .run with
    pending := [.hold .console]
    drive := { (inState .run).drive with generator := some ⟨10000, 0, .opening⟩, velocity := 100000 } }

/-- The laws hold of it, and a step of it goes on within the test. -/
theorem test_hyp_laws_kept :
    running.motionLaw ∧ running.limitsLaw ∧ running.testLaw ∧ running.idLaw ∧ running.inUseLaw ∧ running.openingLaw
      ∧ running.sampleLaw ∧ running.seq.state.inTest = true
      ∧ (after (.hold .console) { running with pending := [] }).seq.state.inTest = true :=
  ⟨by decide, by decide, by decide, by decide, by decide, by decide, by decide, by decide, by decide⟩

theorem test_hyp_laws_kept_step :
    step running = .next (after (.hold .console) { running with pending := [] }) := by rfl

end Sys2Proof.Tests
end

section
/-! PROOFS. Requests that reach their owning block, and the list operations of the collections. -/

namespace Sys2Proof.Machine

/-! The roles of the catalogue's letters (R185). -/

theorem rolesC_mem_of_ne {p : Role} (hp : p ≠ .console) : rolesC.mem p = false := by
  cases p
  case console => exact absurd rfl hp
  all_goals rfl

theorem rolesCL_mem_of_ne {p : Role} (hp : p ≠ .quality) : rolesCL.mem p = true := by
  cases p
  case quality => exact absurd rfl hp
  all_goals rfl

theorem rolesCQ_mem_of_ne {p : Role} (hp : p ≠ .cell) : rolesCQ.mem p = true := by
  cases p
  case cell => exact absurd rfl hp
  all_goals rfl

theorem rolesCLQ_mem (p : Role) : rolesCLQ.mem p = true := by
  cases p <;> rfl

/-- A taken request of an allowed role and an allowed body length reaches its owning block (R183). -/
theorem State.sizedRequest_of_takes {s : State} {p : Role} {k : RequestKind} {n : Nat} (own : State → State)
    (ht : s.takes p = true) (hr : k.row.roles.mem p = true) (hn : k.lengthAllowed n = true) :
    s.sizedRequest p k n own = own s := by
  rw [State.sizedRequest, State.request_of_takes k _ ht hr, if_pos hn]

/-- A taken request of a role not allowed is refused before its body length is judged (R183, checks 4 and 5). -/
theorem State.sizedRequest_of_wrong_role {s : State} {p : Role} {k : RequestKind} (n : Nat) (own : State → State)
    (ht : s.takes p = true) (hr : k.row.roles.mem p = false) :
    s.sizedRequest p k n own = s.answer p k .roleRefused [] :=
  State.request_of_wrong_role k _ ht hr

/-- Changing the element that stands at a place is setting it there. -/
theorem modify_eq_set_of_getElem? {α : Type} {l : List α} {i : Nat} {a : α} (f : α → α) (h : l[i]? = some a) :
    l.modify i f = l.set i (f a) := by
  simp [List.modify_eq_set_getElem?, h]

/-- A slot's in-use count after a change (R11). -/
theorem State.changeInUse_programs {s : State} {slot : Nat} {q : ProgramSlot} (f : Nat → Nat)
    (h : s.programs[slot]? = some q) :
    (s.changeInUse slot f).programs = s.programs.set slot { q with inUse := f q.inUse } :=
  modify_eq_set_of_getElem? _ h

/-- The table after a slot's body is replaced (R14, R15). -/
theorem State.setProgram_eq {s : State} {slot : Nat} {q : ProgramSlot} (b : Option ProgramBody)
    (h : s.programs[slot]? = some q) :
    s.setProgram slot b = { s with programs := s.programs.set slot { q with body := b } } := by
  rw [State.setProgram, modify_eq_set_of_getElem? _ h]

end Sys2Proof.Machine
end

section
/-! PROOFS. WITHDRAW (R5): the cases of the request, and what the removal of an entry changes. -/

namespace Sys2Proof.Machine

/-- The state that a WITHDRAW of the WAITING entry `e` leaves, before auto-arm examines the head (R5). -/
def State.withdrawn (s : State) (p : Role) (e : SpecimenEntry) : State :=
  let s := (s.removeEntry e).addNotice .console .queueChanged
  let s := if p = .console then s.addNotice .cell .queueChanged else s
  s.answer p .withdraw .ok []

section
variable {p : Role} {s : State} {id : List Octet}

theorem exec_withdraw_of_quality (ht : s.takes .quality = true) :
    exec (.withdraw .quality id) s = .next (s.answer .quality .withdraw .roleRefused []) :=
  congrArg Host.Outcome.next (State.sizedRequest_of_wrong_role _ _ ht rfl)

/-- A taken WITHDRAW from CONSOLE or CELL reaches the queue (R183, R185). -/
theorem withdraw_reaches_queue (hp : p ≠ .quality) (ht : s.takes p = true) (hl : id.length = 12)
    (own : State → State) : s.sizedRequest p .withdraw id.length own = own s :=
  State.sizedRequest_of_takes own ht (rolesCL_mem_of_ne hp) (by rw [hl]; rfl)

theorem exec_withdraw_of_missing (hp : p ≠ .quality) (ht : s.takes p = true) (hl : id.length = 12)
    (h : ∀ e ∈ s.queue, e.id ≠ id) :
    exec (.withdraw p id) s = .next (s.answer p .withdraw .notFound []) := by
  have missing : (s.queue.find? fun e => e.id == id) = none := by simpa [List.find?_eq_none] using h
  simp [exec, execWithdraw, withdraw_reaches_queue hp ht hl, missing, State.refuse]

/-- The entry with the ID is the first one with it. -/
theorem find_entry {before rest : List SpecimenEntry} {e : SpecimenEntry} (hid : e.id = id)
    (hb : ∀ x ∈ before, x.id ≠ id) : ((before ++ e :: rest).find? fun x => x.id == id) = some e := by
  rw [List.find?_eq_some_iff_append]
  exact ⟨by simp [hid], before, rest, rfl, by simpa using hb⟩

theorem exec_withdraw_of_not_waiting {e : SpecimenEntry} (hp : p ≠ .quality) (ht : s.takes p = true)
    (hl : id.length = 12) (he : (s.queue.find? fun x => x.id == id) = some e) (hst : e.state ≠ .waiting) :
    exec (.withdraw p id) s = .next (s.answer p .withdraw .wrongState []) := by
  simp [exec, execWithdraw, withdraw_reaches_queue hp ht hl, he, hst, State.refuse]

theorem exec_withdraw_of_waiting {e : SpecimenEntry} (hp : p ≠ .quality) (ht : s.takes p = true)
    (hl : id.length = 12) (he : (s.queue.find? fun x => x.id == id) = some e) (hst : e.state = .waiting) :
    exec (.withdraw p id) s = .next (s.withdrawn p e).examineHead := by
  simp [exec, execWithdraw, withdraw_reaches_queue hp ht hl, he, hst, State.withdrawn]

end

section
variable {s : State} {before rest : List SpecimenEntry} {e : SpecimenEntry}

/-- The entry leaves the queue, and the pause goes with the head it was set for (R5, R29). -/
theorem State.removeEntry_eq (hq : s.queue = before ++ e :: rest) (hb : ∀ x ∈ before, x.id ≠ e.id) :
    s.removeEntry e = { s with
      queue := before ++ rest, programs := (s.removeEntry e).programs
      seq := { s.seq with autoArmPause := s.seq.autoArmPause && !before.isEmpty } } := by
  have queue : (s.queue.eraseP fun x => x.id == e.id) = before ++ rest := by
    rw [hq, List.eraseP_append_right _ (by simpa using hb), List.eraseP_cons_of_pos (by simp)]
  have head : (!((s.queue.head?.map (·.id)) == some e.id)) = !before.isEmpty := by
    cases before with
    | nil => simp [hq]
    | cons x xs => simpa [hq] using hb x
  simp [State.removeEntry, State.changeInUse, queue, head]

/-- Beside the removal of the entry, a WITHDRAW changes the ports alone. -/
theorem State.withdrawn_eq (p : Role) (e : SpecimenEntry) :
    s.withdrawn p e = { s.removeEntry e with ports := (s.withdrawn p e).ports } := by
  unfold State.withdrawn
  split <;> rfl

theorem State.removeEntry_programs {q : ProgramSlot} (h : s.programs[e.slot]? = some q) :
    (s.removeEntry e).programs = s.programs.set e.slot { q with inUse := q.inUse - 1 } :=
  State.changeInUse_programs (s := { s with
    queue := _, seq := { s.seq with autoArmPause := _ } }) (· - 1) h

/-- The notices of a WITHDRAW: CONSOLE's, and CELL's when CONSOLE withdrew (R5). -/
theorem State.withdrawn_notices (p r : Role) :
    ((s.withdrawn p e).ports.get r).notices =
      if r = .console ∨ (r = .cell ∧ p = .console) then withNotice (s.ports.get r).notices .queueChanged
      else (s.ports.get r).notices := by
  by_cases hp : p = .console <;> cases r <;> simp [State.withdrawn, hp]

theorem State.withdrawn_pendingReply (p : Role) :
    ((s.withdrawn p e).ports.get p).pendingReply = some ⟨⟨0x11, .ok, []⟩, 500⟩ := by
  rw [State.withdrawn, State.answer_get_self]
  rfl

end

/-- Settles O15, by the cases of R5: the roles, then whether the entry with the ID stands in the queue and waits. -/
theorem withdrawRemovesWaitingEntry : Obligations.WithdrawRemovesWaitingEntry := by
  refine ⟨fun s id ht => exec_withdraw_of_quality ht, fun p s id hp ht hl => ⟨exec_withdraw_of_missing hp ht hl, ?_⟩⟩
  intro before rest e hq hid hb
  have he : (s.queue.find? fun x => x.id == id) = some e := hq ▸ find_entry hid hb
  refine ⟨exec_withdraw_of_not_waiting hp ht hl he, fun hst q hslot => ?_⟩
  refine ⟨s.withdrawn p e, exec_withdraw_of_waiting hp ht hl he hst, ?_, ?_, ?_, ?_, ?_, s.withdrawn_pendingReply p⟩
  · have removed := State.removeEntry_eq hq (hid ▸ hb)
    conv_lhs => rw [State.withdrawn_eq, removed]
    rw [State.withdrawn_eq]
  · rw [State.withdrawn_eq]
    exact State.removeEntry_programs hslot
  · rw [Port.hasNotice, State.withdrawn_notices, if_pos (Or.inl rfl)]
    exact withNotice_hasNotice _ _
  · simp [State.withdrawn_notices]
  · simp [State.withdrawn_notices]

end Sys2Proof.Machine
end

section
/-! PROOFS. The program table (R14 to R16): the checks of a slot, and the cases of its three requests. -/

namespace Sys2Proof.Machine

section
variable {s : State} {slot : Octet} {q : ProgramSlot}

theorem State.slotBlocked_of_gt (h : 15 < slot.toNat) : s.slotBlocked slot = some (badField 0) :=
  if_pos h

/-- Checks 2 and 3 of R14 on a slot of the table: a store in flight, then the in-use count. -/
theorem State.slotBlocked_of_slot (hs : slot.toNat ≤ 15) (hq : s.programs[slot.toNat]? = some q) :
    s.slotBlocked slot =
      if s.config.inFlight.isSome then some (.busy, []) else if q.inUse ≠ 0 then some (.inUse, []) else none := by
  rw [State.slotBlocked, if_neg (Nat.not_lt.mpr hs), State.inUseOf, hq]

theorem State.slotBlocked_of_store (hs : slot.toNat ≤ 15) (hq : s.programs[slot.toNat]? = some q)
    (hf : s.config.inFlight.isSome = true) : s.slotBlocked slot = some (.busy, []) := by
  rw [State.slotBlocked_of_slot hs hq, if_pos hf]

theorem State.slotBlocked_of_inUse (hs : slot.toNat ≤ 15) (hq : s.programs[slot.toNat]? = some q)
    (hf : s.config.inFlight = none) (hu : q.inUse ≠ 0) : s.slotBlocked slot = some (.inUse, []) := by
  simp [State.slotBlocked_of_slot hs hq, hf, hu]

theorem State.slotBlocked_of_unused (hs : slot.toNat ≤ 15) (hq : s.programs[slot.toNat]? = some q)
    (hf : s.config.inFlight = none) (hu : q.inUse = 0) : s.slotBlocked slot = none := by
  simp [State.slotBlocked_of_slot hs hq, hf, hu]

end

section
variable {p : Role} {s : State} {slot : Octet} {body : List Octet}

theorem exec_writeProgram_of_wrong_role (hp : p ≠ .console) (ht : s.takes p = true) :
    exec (.writeProgram p body) s = .next (s.answer p .writeProgram .roleRefused []) :=
  congrArg Host.Outcome.next (State.sizedRequest_of_wrong_role _ _ ht (rolesC_mem_of_ne hp))

theorem exec_clearProgram_of_wrong_role (hp : p ≠ .console) (ht : s.takes p = true) :
    exec (.clearProgram p slot) s = .next (s.answer p .clearProgram .roleRefused []) :=
  congrArg Host.Outcome.next (State.request_of_wrong_role _ _ ht (rolesC_mem_of_ne hp))

/-- What a taken CLEAR_PROGRAM of a blocked slot answers. -/
theorem exec_clearProgram_of_blocked {f : Status × List Octet} (ht : s.takes .console = true)
    (hf : s.slotBlocked slot = some f) :
    exec (.clearProgram .console slot) s = .next (s.answer .console .clearProgram f.1 f.2) := by
  rw [exec, execClearProgram, State.request_of_takes _ _ ht rfl, hf]
  rfl

theorem exec_clearProgram_of_open (ht : s.takes .console = true) (hf : s.slotBlocked slot = none) :
    exec (.clearProgram .console slot) s
      = .next ((s.setProgram slot.toNat none).answer .console .clearProgram .ok []) := by
  rw [exec, execClearProgram, State.request_of_takes _ _ ht rfl, hf]

section
variable (ht : s.takes .console = true) (shortest : 73 ≤ body.length) (longest : body.length ≤ 115)
include ht shortest longest

/-- A taken WRITE_PROGRAM of a length the catalogue allows reaches the program table (R183, R185). -/
theorem writeProgram_reaches_table (own : State → State) :
    s.sizedRequest .console .writeProgram (slot :: body).length own = own s := by
  refine State.sizedRequest_of_takes own ht rfl ?_
  simp [RequestKind.lengthAllowed, RequestKind.row]
  omega

theorem exec_writeProgram_of_blocked {f : Status × List Octet} (hf : s.slotBlocked slot = some f) :
    exec (.writeProgram .console (slot :: body)) s = .next (s.answer .console .writeProgram f.1 f.2) := by
  rw [exec, execWriteProgram, writeProgram_reaches_table ht shortest longest, List.getD_cons_zero, hf]
  rfl

theorem exec_writeProgram_of_failure {i : Nat} (hf : s.slotBlocked slot = none)
    (hi : programFailure s.load.tables body = some i) :
    exec (.writeProgram .console (slot :: body)) s
      = .next (s.answer .console .writeProgram .invalidField [BitVec.ofNat 8 i]) := by
  rw [exec, execWriteProgram, writeProgram_reaches_table ht shortest longest, List.getD_cons_zero, hf, List.drop_one,
    List.tail_cons, hi]
  rfl

theorem exec_writeProgram_of_passes (hf : s.slotBlocked slot = none)
    (hi : programFailure s.load.tables body = none) :
    exec (.writeProgram .console (slot :: body)) s
      = .next ((s.setProgram slot.toNat (some (programOfOctets body))).answer .console .writeProgram .ok []) := by
  rw [exec, execWriteProgram, writeProgram_reaches_table ht shortest longest, List.getD_cons_zero, hf, List.drop_one,
    List.tail_cons, hi]
  rfl

end

theorem exec_readProgram_of_gt (ht : s.takes p = true) (h : 15 < slot.toNat) :
    exec (.readProgram p slot) s = .next (s.answer p .readProgram .invalidField [0]) := by
  rw [exec, execReadProgram, State.request_of_takes .readProgram _ ht (rolesCLQ_mem p), if_pos h]
  rfl

theorem exec_readProgram_of_slot {q : ProgramSlot} (ht : s.takes p = true) (hs : slot.toNat ≤ 15)
    (hq : s.programs[slot.toNat]? = some q) :
    exec (.readProgram p slot) s = .next (s.answer p .readProgram .ok (slotOctets q)) := by
  rw [exec, execReadProgram, State.request_of_takes .readProgram _ ht (rolesCLQ_mem p),
    if_neg (Nat.not_lt.mpr hs), hq]

end

/-- Settles O16: each request goes by its role, then by the checks of its slot, a written body also by its own. -/
theorem programSlotsAreWrittenClearedRead : Obligations.ProgramSlotsAreWrittenClearedRead := by
  refine ⟨fun p s slot body hp ht =>
      ⟨exec_writeProgram_of_wrong_role hp ht, exec_clearProgram_of_wrong_role hp ht⟩,
    fun s slot body hs hb hb' => ⟨fun p ht => exec_readProgram_of_gt ht hs, fun ht => ?_⟩,
    fun s slot body q hs hq hb hb' => ⟨fun p ht => ?_, fun ht => ⟨fun hf => ?_, fun hf hu => ?_, fun hf hu => ?_⟩⟩⟩
  · have blocked := State.slotBlocked_of_gt (s := s) hs
    exact ⟨exec_clearProgram_of_blocked ht blocked, exec_writeProgram_of_blocked ht hb hb' blocked⟩
  · rw [exec_readProgram_of_slot ht hs hq]
    obtain ⟨_ | b, inUse⟩ := q <;> rfl
  · have blocked := State.slotBlocked_of_store hs hq hf
    exact ⟨exec_writeProgram_of_blocked ht hb hb' blocked, exec_clearProgram_of_blocked ht blocked⟩
  · have blocked := State.slotBlocked_of_inUse hs hq hf hu
    exact ⟨exec_writeProgram_of_blocked ht hb hb' blocked, exec_clearProgram_of_blocked ht blocked⟩
  · have unblocked := State.slotBlocked_of_unused hs hq hf hu
    refine ⟨?_, fun i failure => exec_writeProgram_of_failure ht hb hb' unblocked failure, fun passes => ?_⟩
    · rw [exec_clearProgram_of_open ht unblocked, State.setProgram_eq none hq, hu]
    · rw [exec_writeProgram_of_passes ht hb hb' unblocked passes, State.setProgram_eq _ hq, hu]

end Sys2Proof.Machine
end

section
/-! PROOFS. Sets of bits sent as numbers (11.8.4), and the octets of the items of a reply read back (R194). -/

namespace Sys2Proof.Machine

/-- The number whose bits are the flags given, from bit 0. -/
def flagBits : List Bool → Nat
  | [] => 0
  | b :: bs => Nat.bit b (flagBits bs)

theorem flagBits_testBit (bs : List Bool) (i : Nat) : (flagBits bs).testBit i = bs.getD i false := by
  induction bs generalizing i with
  | nil => simp [flagBits]
  | cons b bs ih =>
    cases i with
    | zero => simp [flagBits]
    | succ i => simpa [flagBits, Nat.testBit_bit_succ] using ih i

/-- A flag that counts `w` when it is set counts `w` times its bit. -/
theorem weight_eq (b : Bool) (w : Nat) : (if b then w else 0) = w * b.toNat := by
  cases b <;> simp

theorem presenceMask_eq (r : ResultRecord) :
    presenceMask r = flagBits [r.cause.isSome, r.note.isSome, r.modulus.isSome, r.reh.isSome, r.rel.isSome, r.ae.isSome,
      r.rp.isSome, r.fmRm.isSome, r.ag.isSome, r.elongation.isSome, r.source.isSome] := by
  simp only [presenceMask, weight_eq, flagBits, Nat.bit_val]
  omega

theorem flagsOctet_eq (f : RecordFlags) :
    flagsOctet f = flagBits [f.extLost, f.extAttachFailed, f.extRangeEnd, f.extAtBreak, f.lengthSubstituted,
      f.modulusSubstituted, f.yieldNotFound] := by
  simp only [flagsOctet, weight_eq, flagBits, Nat.bit_val]
  omega

/-- A two-octet word is its two octets, the most significant first. -/
theorem halfword_of_octets (w : BitVec 16) : w.extractLsb' 8 8 ++ w.extractLsb' 0 8 = w := by
  ext i hi
  simp only [BitVec.getElem_append, BitVec.getElem_extractLsb']
  split_ifs <;> (rw [← BitVec.getLsbD_eq_getElem]; congr 1; omega)

/-- The octet of a set of roles: bit 0 CONSOLE, bit 1 CELL, bit 2 QUALITY, and no other (R194). -/
theorem RoleSet.code_bits (x : RoleSet) :
    (BitVec.ofNat 8 x.code).getLsbD 0 = x.console ∧ (BitVec.ofNat 8 x.code).getLsbD 1 = x.cell
    ∧ (BitVec.ofNat 8 x.code).getLsbD 2 = x.quality ∧ BitVec.ofNat 8 x.code >>> 3 = 0 := by
  obtain ⟨console, cell, quality⟩ := x
  revert console cell quality
  decide

end Sys2Proof.Machine
end

section
/-! PROOFS. The result record on the wire (11.8.4): an item's place is found by passing over the items before it. -/

namespace Sys2Proof.Machine

section
variable (l : List Octet) (i : Nat)

/-! An item passed over takes its width off the place that is read. -/

theorem getD_pass_num1 (x : Nat) : (num1 x ++ l).getD (i + 1) 0 = l.getD i 0 := rfl
theorem getD_pass_num2 (x : Int) : (num2 x ++ l).getD (i + 2) 0 = l.getD i 0 := rfl
theorem getD_pass_num4 (x : Int) : (num4 x ++ l).getD (i + 4) 0 = l.getD i 0 := rfl
theorem getD_num1 (x : Nat) : (num1 x ++ l).getD 0 0 = BitVec.ofNat 8 x := rfl
theorem word4_pass_num1 (x : Nat) : word4 (num1 x ++ l) (i + 1) = word4 l i := rfl
theorem word4_pass_num2 (x : Int) : word4 (num2 x ++ l) (i + 2) = word4 l i := rfl
theorem word4_pass_num4 (x : Int) : word4 (num4 x ++ l) (i + 4) = word4 l i := rfl
theorem word4_num4 (x : Int) : word4 (num4 x ++ l) 0 = BitVec.ofInt 32 x :=
  word_of_octets _

/-- Octets `i` and `i + 1` as a word, the most significant first (R194). -/
def word2 (o : List Octet) (i : Nat) : BitVec 16 :=
  o.getD i 0 ++ o.getD (i + 1) 0

theorem word2_pass_num1 (x : Nat) : word2 (num1 x ++ l) (i + 1) = word2 l i := rfl
theorem word2_pass_num2 (x : Int) : word2 (num2 x ++ l) (i + 2) = word2 l i := rfl
theorem word2_pass_num4 (x : Int) : word2 (num4 x ++ l) (i + 4) = word2 l i := rfl
theorem word2_num2 (x : Int) : word2 (num2 x ++ l) 0 = BitVec.ofInt 16 x :=
  halfword_of_octets _

variable {l' : List Octet} (h : l'.length = 12)
include h

theorem getD_pass_id : (l' ++ l).getD (i + 12) 0 = l.getD i 0 := by
  rw [List.getD_append_right _ _ _ _ (by omega), h, Nat.add_sub_cancel]

theorem word4_pass_id : word4 (l' ++ l) (i + 12) = word4 l i := by
  simp only [word4, Nat.add_right_comm i 12, getD_pass_id _ _ h]

theorem word2_pass_id : word2 (l' ++ l) (i + 12) = word2 l i := by
  simp only [word2, Nat.add_right_comm i 12, getD_pass_id _ _ h]

end

theorem codeOrZero_eq {α : Type} (code : α → Nat) (x : Option α) :
    codeOrZero code x = num1 ((x.map code).getD 0) := by
  cases x <;> rfl

/-- The record's items in their order, an absent one as 0 (11.8.4). -/
theorem recordOctets_eq (r : ResultRecord) :
    recordOctets r = List.flatten
      [r.id, num1 r.slot, num1 r.outcome.code, num2 (presenceMask r),
        num1 ((r.cause.map Cause.code).getD 0), num1 ((r.note.map Cause.code).getD 0),
        num4 r.area, num4 r.gauge, num4 r.parallel,
        num4 ((r.modulus.map (·.e)).getD 0), num1 ((r.modulus.map (·.source.code)).getD 0),
        num4 (r.reh.getD 0), num4 (r.rel.getD 0), num4 (r.ae.getD 0), num4 (r.rp.getD 0),
        num4 ((r.fmRm.map (·.1)).getD 0), num4 ((r.fmRm.map (·.2)).getD 0), num4 (r.ag.getD 0),
        num4 (r.elongation.getD 0), num1 ((r.source.map StrainSource.code).getD 0),
        num1 r.rangeSwitches, num2 r.holds, num1 (flagsOctet r.flags), num4 r.duration,
        num1 r.required.code, num1 r.takenBy.code] := by
  -- `delta`, since Lean does not finish generating the definition's own equation
  delta recordOctets
  simp only [List.flatten_cons, List.flatten_nil, List.append_nil, List.append_assoc, numOrZero, codeOrZero_eq]

theorem recordOctets_length {r : ResultRecord} (hid : r.id.length = 12) : (recordOctets r).length = 78 := by
  simp [recordOctets_eq, hid, num1, num2, num4, be4]

theorem recordOctets_take {r : ResultRecord} (hid : r.id.length = 12) : (recordOctets r).take 12 = r.id := by
  rw [recordOctets_eq, List.flatten_cons, ← hid, List.take_left]

/-- The four-octet items of a record (11.8.4). -/
theorem recordOctets_word4 {r : ResultRecord} (hid : r.id.length = 12) :
    word4 (recordOctets r) 18 = BitVec.ofInt 32 r.area
    ∧ word4 (recordOctets r) 22 = BitVec.ofInt 32 r.gauge
    ∧ word4 (recordOctets r) 26 = BitVec.ofInt 32 r.parallel
    ∧ word4 (recordOctets r) 30 = BitVec.ofInt 32 ((r.modulus.map (·.e)).getD 0)
    ∧ word4 (recordOctets r) 35 = BitVec.ofInt 32 (r.reh.getD 0)
    ∧ word4 (recordOctets r) 39 = BitVec.ofInt 32 (r.rel.getD 0)
    ∧ word4 (recordOctets r) 43 = BitVec.ofInt 32 (r.ae.getD 0)
    ∧ word4 (recordOctets r) 47 = BitVec.ofInt 32 (r.rp.getD 0)
    ∧ word4 (recordOctets r) 51 = BitVec.ofInt 32 ((r.fmRm.map (·.1)).getD 0)
    ∧ word4 (recordOctets r) 55 = BitVec.ofInt 32 ((r.fmRm.map (·.2)).getD 0)
    ∧ word4 (recordOctets r) 59 = BitVec.ofInt 32 (r.ag.getD 0)
    ∧ word4 (recordOctets r) 63 = BitVec.ofInt 32 (r.elongation.getD 0)
    ∧ word4 (recordOctets r) 72 = BitVec.ofInt 32 r.duration := by
  simp only [recordOctets_eq, List.flatten_cons, word4_pass_id _ _ hid, word4_pass_num1,
    word4_pass_num2, word4_pass_num4, word4_num4, and_self]

/-- The two-octet items of a record (11.8.4). -/
theorem recordOctets_word2 {r : ResultRecord} (hid : r.id.length = 12) :
    word2 (recordOctets r) 14 = BitVec.ofInt 16 (presenceMask r)
    ∧ word2 (recordOctets r) 69 = BitVec.ofInt 16 r.holds := by
  simp only [recordOctets_eq, List.flatten_cons, word2_pass_id _ _ hid, word2_pass_num1,
    word2_pass_num2, word2_pass_num4, word2_num2, and_self]

/-- The one-octet items of a record (11.8.4). -/
theorem recordOctets_getD {r : ResultRecord} (hid : r.id.length = 12) :
    (recordOctets r).getD 12 0 = BitVec.ofNat 8 r.slot
    ∧ (recordOctets r).getD 13 0 = BitVec.ofNat 8 r.outcome.code
    ∧ (recordOctets r).getD 16 0 = BitVec.ofNat 8 ((r.cause.map Cause.code).getD 0)
    ∧ (recordOctets r).getD 17 0 = BitVec.ofNat 8 ((r.note.map Cause.code).getD 0)
    ∧ (recordOctets r).getD 34 0 = BitVec.ofNat 8 ((r.modulus.map fun m => m.source.code).getD 0)
    ∧ (recordOctets r).getD 67 0 = BitVec.ofNat 8 ((r.source.map StrainSource.code).getD 0)
    ∧ (recordOctets r).getD 68 0 = BitVec.ofNat 8 r.rangeSwitches
    ∧ (recordOctets r).getD 71 0 = BitVec.ofNat 8 (flagsOctet r.flags)
    ∧ (recordOctets r).getD 76 0 = BitVec.ofNat 8 r.required.code
    ∧ (recordOctets r).getD 77 0 = BitVec.ofNat 8 r.takenBy.code := by
  simp only [recordOctets_eq, List.flatten_cons, getD_pass_id _ _ hid, getD_pass_num1,
    getD_pass_num2, getD_pass_num4, getD_num1, and_self]

/-- The presence mask of a record, bit by bit (11.8.4). -/
theorem presenceMask_bits (r : ResultRecord) :
    ∀ x ∈ [(0, r.cause.isSome), (1, r.note.isSome), (2, r.modulus.isSome), (3, r.reh.isSome), (4, r.rel.isSome),
        (5, r.ae.isSome), (6, r.rp.isSome), (7, r.fmRm.isSome), (8, r.ag.isSome), (9, r.elongation.isSome),
        (10, r.source.isSome), (11, false), (12, false), (13, false), (14, false), (15, false)],
      (BitVec.ofNat 16 (presenceMask r)).getLsbD x.1 = x.2 := by
  simp only [presenceMask_eq, BitVec.getLsbD_ofNat, flagBits_testBit, List.forall_mem_cons]
  simp

/-- The flags octet of a record, bit by bit (11.8.4). -/
theorem flagsOctet_bits (f : RecordFlags) :
    ∀ x ∈ [(0, f.extLost), (1, f.extAttachFailed), (2, f.extRangeEnd), (3, f.extAtBreak), (4, f.lengthSubstituted),
        (5, f.modulusSubstituted), (6, f.yieldNotFound), (7, false)],
      (BitVec.ofNat 8 (flagsOctet f)).getLsbD x.1 = x.2 := by
  simp only [flagsOctet_eq, BitVec.getLsbD_ofNat, flagBits_testBit, List.forall_mem_cons]
  simp

end Sys2Proof.Machine
end

section
/-! PROOFS. The result store (R20 to R22): the cases of its three requests. -/

namespace Sys2Proof.Machine

/-! ## The taken-by set (R18, R22) -/

theorem RoleSet.add_mem (x : RoleSet) (p a : Role) :
    (x.add p).mem a = true ↔ a = p ∨ x.mem a = true := by
  cases p <;> cases a <;> simp [RoleSet.add, RoleSet.mem]

theorem forall_role_iff (P : Role → Prop) : (∀ a, P a) ↔ P .console ∧ P .cell ∧ P .quality :=
  ⟨fun h => ⟨h _, h _, h _⟩, fun ⟨console, cell, quality⟩ a => by cases a <;> assumption⟩

theorem RoleSet.contains_iff (x y : RoleSet) : x.contains y = true ↔ ∀ a, y.mem a = true → x.mem a = true := by
  simp [RoleSet.contains, forall_role_iff, RoleSet.mem, imp_iff_not_or, and_assoc]

/-- The set of a record that `p` takes holds every required role exactly when `p` was the last (R22). -/
theorem RoleSet.add_contains_iff (x y : RoleSet) (p : Role) :
    (x.add p).contains y = true ↔ ∀ a, y.mem a = true → a = p ∨ x.mem a = true := by
  simp only [RoleSet.contains_iff, RoleSet.add_mem]

/-! ## A take in the list of records (R22) -/

section
variable {id : List Octet} {p : Role} {older newer : List ResultRecord} {r : ResultRecord}

theorem takeRecord_eq_none {l : List ResultRecord} (h : ∀ r ∈ l, r.id ≠ id) : takeRecord id p l = none := by
  induction l with
  | nil => rfl
  | cons r rest ih =>
    obtain ⟨hr, hrest⟩ := List.forall_mem_cons.mp h
    simp [takeRecord, hr, ih hrest]

/-- A take passes over the records with another ID. -/
theorem takeRecord_append (h : ∀ x ∈ older, x.id ≠ id) (l : List ResultRecord) :
    takeRecord id p (older ++ l) = (takeRecord id p l).map fun (l', freed) => (older ++ l', freed) := by
  induction older with
  | nil => simp
  | cons x xs ih =>
    obtain ⟨hx, hxs⟩ := List.forall_mem_cons.mp h
    simp [takeRecord, hx, ih hxs, Function.comp_def]

theorem takeRecord_of_taken (h : ∀ x ∈ older, x.id ≠ id) (hid : r.id = id) (ht : r.takenBy.mem p = true) :
    takeRecord id p (older ++ r :: newer) = some (older ++ r :: newer, false) := by
  simp [takeRecord_append h, takeRecord, hid, ht]

theorem takeRecord_of_last (h : ∀ x ∈ older, x.id ≠ id) (hid : r.id = id) (ht : r.takenBy.mem p = false)
    (all : (r.takenBy.add p).contains r.required = true) :
    takeRecord id p (older ++ r :: newer) = some (older ++ newer, true) := by
  simp [takeRecord_append h, takeRecord, hid, ht, all]

theorem takeRecord_of_more (h : ∀ x ∈ older, x.id ≠ id) (hid : r.id = id) (ht : r.takenBy.mem p = false)
    (more : ¬ (r.takenBy.add p).contains r.required = true) :
    takeRecord id p (older ++ r :: newer)
      = some (older ++ { r with takenBy := r.takenBy.add p } :: newer, false) := by
  simp [takeRecord_append h, takeRecord, hid, ht, more]

end

/-! ## The requests -/

section
variable {p : Role} {s : State}

theorem exec_fetchResult_of_none (ht : s.takes p = true) (h : s.results.oldestFor p = none) :
    exec (.fetchResult p) s = .next (s.answer p .fetchResult .notFound []) := by
  rw [exec, execFetchResult, State.request_of_takes .fetchResult _ ht (rolesCLQ_mem p), h]
  rfl

theorem exec_fetchResult_of_some {r : ResultRecord} (ht : s.takes p = true) (h : s.results.oldestFor p = some r) :
    exec (.fetchResult p) s = .next (s.answer p .fetchResult .ok (recordOctets r)) := by
  rw [exec, execFetchResult, State.request_of_takes .fetchResult _ ht (rolesCLQ_mem p), h]

theorem ResultStore.oldestFor_eq_none {x : ResultStore} (h : ∀ r ∈ x.records, r.takenBy.mem p = true) :
    x.oldestFor p = none := by
  simpa [ResultStore.oldestFor] using h

/-- The oldest record a role has not taken stands behind records it has taken (R21). -/
theorem ResultStore.oldestFor_eq_some {x : ResultStore} {older newer : List ResultRecord} {r : ResultRecord}
    (hx : x.records = older ++ r :: newer) (ho : ∀ y ∈ older, y.takenBy.mem p = true)
    (hr : r.takenBy.mem p = false) : x.oldestFor p = some r := by
  rw [ResultStore.oldestFor, List.find?_eq_some_iff_append]
  exact ⟨by simp [hr], older, newer, hx, by simpa using ho⟩

theorem exec_takeResult_of_cell {id : List Octet} (ht : s.takes .cell = true) :
    exec (.takeResult .cell id) s = .next (s.answer .cell .takeResult .roleRefused []) :=
  congrArg Host.Outcome.next (State.sizedRequest_of_wrong_role _ _ ht rfl)

section
variable {id : List Octet} (hp : p ≠ .cell) (ht : s.takes p = true) (hl : id.length = 12)
include hp ht hl

/-- A taken TAKE_RESULT from CONSOLE or QUALITY reaches the result store (R183, R185). -/
theorem takeResult_reaches_store (own : State → State) :
    s.sizedRequest p .takeResult id.length own = own s :=
  State.sizedRequest_of_takes own ht (rolesCQ_mem_of_ne hp) (by rw [hl]; rfl)

theorem exec_takeResult_of_none (h : takeRecord id p s.results.records = none) :
    exec (.takeResult p id) s = .next (s.answer p .takeResult .notFound []) := by
  rw [exec, execTakeResult, takeResult_reaches_store hp ht hl, h]
  rfl

theorem exec_takeResult_of_kept {l : List ResultRecord} (h : takeRecord id p s.results.records = some (l, false)) :
    exec (.takeResult p id) s
      = .next ({ s with results := { s.results with records := l } }.answer p .takeResult .ok [0]) := by
  rw [exec, execTakeResult, takeResult_reaches_store hp ht hl, h]
  rfl

theorem exec_takeResult_of_freed {l : List ResultRecord} (h : takeRecord id p s.results.records = some (l, true)) :
    exec (.takeResult p id) s
      = .next ({ s with results := { s.results with records := l } }.answer p .takeResult .ok [1]).examineHead := by
  rw [exec, execTakeResult, takeResult_reaches_store hp ht hl, h]
  rfl

end

section
variable {o : Octet} (ht : s.takes .console = true)
include ht

theorem exec_setResultReaders_of_store (hf : s.config.inFlight.isSome = true) :
    exec (.setResultReaders .console o) s = .next (s.answer .console .setResultReaders .busy []) := by
  rw [exec, execSetResultReaders, State.request_of_takes _ _ ht rfl, if_pos hf]
  rfl

theorem exec_setResultReaders_of_refused (hf : s.config.inFlight = none) (ho : RoleSet.ofReaders o = none) :
    exec (.setResultReaders .console o) s = .next (s.answer .console .setResultReaders .invalidField [1]) := by
  rw [exec, execSetResultReaders, State.request_of_takes _ _ ht rfl, if_neg (by simp [hf]), ho]
  rfl

theorem exec_setResultReaders_of_accepted {set : RoleSet} (hf : s.config.inFlight = none)
    (ho : RoleSet.ofReaders o = some set) :
    exec (.setResultReaders .console o) s
      = .next ({ s with results := { s.results with readers := set } }.answer .console .setResultReaders .ok []) := by
  rw [exec, execSetResultReaders, State.request_of_takes _ _ ht rfl, if_neg (by simp [hf]), ho]

end

end

/-- The sets SET_RESULT_READERS accepts, bit 0 for CONSOLE, bit 1 for CELL and bit 2 for QUALITY (R20). -/
theorem RoleSet.ofReaders_eq_some {o : Octet} (h : o = 0x01 ∨ o = 0x04 ∨ o = 0x05) :
    RoleSet.ofReaders o = some { console := o.getLsbD 0, cell := o.getLsbD 1, quality := o.getLsbD 2 } := by
  rcases h with rfl | rfl | rfl <;> rfl

theorem RoleSet.ofReaders_eq_none {o : Octet} (h1 : o ≠ 0x01) (h4 : o ≠ 0x04) (h5 : o ≠ 0x05) :
    RoleSet.ofReaders o = none := by
  rw [RoleSet.ofReaders, if_neg h1, if_neg h4, if_neg h5]

/-- Settles O17: the oldest untaken record, a take by whether the role was the last, the readers, and the record's
items read back from the layout of 11.8.4. -/
theorem resultsAreFetchedAndTaken : Obligations.ResultsAreFetchedAndTaken := by
  refine ⟨fun p s ht => ⟨?_, ?_, ?_⟩, fun s id ht => exec_takeResult_of_cell ht, fun p s id hp ht hl => ⟨?_, ?_⟩,
    fun s o ht => ⟨?_, fun hf => ⟨?_, ?_⟩⟩, ?_⟩
  · exact fun h => exec_fetchResult_of_none ht (ResultStore.oldestFor_eq_none h)
  · exact fun older newer r hs ho hr => exec_fetchResult_of_some ht (ResultStore.oldestFor_eq_some hs ho hr)
  · rintro newer r rfl hs hr
    exact exec_fetchResult_of_some ht (ResultStore.oldestFor_eq_some (older := []) hs (by simp) hr)
  · exact fun h => exec_takeResult_of_none hp ht hl (takeRecord_eq_none h)
  · intro older newer r hs hid ho
    refine ⟨fun taken => ?_, fun untaken => ⟨fun all => ?_, fun ⟨a, required, other, missing⟩ => ?_⟩⟩
    · have kept : takeRecord id p s.results.records = some (s.results.records, false) := by
        rw [hs, takeRecord_of_taken ho hid taken]
      exact exec_takeResult_of_kept hp ht hl kept
    · exact exec_takeResult_of_freed hp ht hl
        (hs ▸ takeRecord_of_last ho hid untaken ((RoleSet.add_contains_iff ..).mpr all))
    · have more : ¬ (r.takenBy.add p).contains r.required = true := fun all =>
        ((RoleSet.add_contains_iff ..).mp all a required).elim other (by simp [missing])
      exact exec_takeResult_of_kept hp ht hl (hs ▸ takeRecord_of_more ho hid untaken more)
  · exact exec_setResultReaders_of_store ht
  · exact fun h1 h4 h5 => exec_setResultReaders_of_refused ht hf (RoleSet.ofReaders_eq_none h1 h4 h5)
  · exact fun ho => exec_setResultReaders_of_accepted ht hf (RoleSet.ofReaders_eq_some ho)
  · intro r o mask hid ho hmask
    rw [ho] at hmask ⊢
    obtain ⟨area, gauge, parallel, modulus, reh, rel, ae, rp, fm, rm, ag, elongation, duration⟩ :=
      recordOctets_word4 hid
    obtain ⟨slot, outcome, cause, note, modulusSource, source, rangeSwitches, flags, required, takenBy⟩ :=
      recordOctets_getD hid
    obtain ⟨presence, holds⟩ := recordOctets_word2 hid
    replace hmask : mask = BitVec.ofNat 16 (presenceMask r) := hmask.trans (presence.trans (BitVec.ofInt_natCast ..))
    refine ⟨recordOctets_length hid, recordOctets_take hid, slot, ?_, hmask ▸ presenceMask_bits r, ?_, ?_, area, gauge,
      parallel, ?_, ?_, reh, rel, ae, rp, ?_, ?_, ag, elongation, ?_, rangeSwitches,
      holds.trans (BitVec.ofInt_natCast ..), flags ▸ flagsOctet_bits r.flags, duration.trans (BitVec.ofInt_natCast ..),
      ?_⟩
    · rw [outcome]; cases r.outcome <;> rfl
    · rw [cause]; cases r.cause <;> rfl
    · rw [note]; cases r.note <;> rfl
    · intro m hm
      rw [modulus, modulusSource, hm]
      exact ⟨rfl, by cases h : m.source <;> simp [h, ModulusSource.code]⟩
    · intro hm
      rw [modulus, modulusSource, hm]
      exact ⟨rfl, rfl⟩
    · intro m m' hm
      rw [fm, rm, hm]
      exact ⟨rfl, rfl⟩
    · intro hm
      rw [fm, rm, hm]
      exact ⟨rfl, rfl⟩
    · rw [source]; cases r.source with
      | none => rfl
      | some x => cases x <;> rfl
    · simp only [List.forall_mem_cons, required, takenBy]
      exact ⟨r.required.code_bits, r.takenBy.code_bits, by simp⟩

end Sys2Proof.Machine
end

section
/-! PROOFS. ARM (R27): each check of the arming with what it finds, and the cases of the request. -/

namespace Sys2Proof.Machine

section
variable {s : State}

/-! Checks 2 to 8 of R27, each where the checks before it pass. -/

theorem State.armFailure_of_empty (hq : s.queue = []) : s.armFailure = some .notFound := by
  simp [State.armFailure, hq]

variable (hq : s.queue ≠ [])
include hq

theorem State.armFailure_of_calibration (hc : s.load.calibrationValid = false) :
    s.armFailure = some .calibrationInvalid := by
  simp [State.armFailure, hq, hc]

variable (hc : s.load.calibrationValid = true)
include hc

theorem State.armFailure_of_unreferenced (hr : s.drive.referenced = false) : s.armFailure = some .unreferenced := by
  simp [State.armFailure, hq, hc, hr]

variable (hr : s.drive.referenced = true)
include hr

theorem State.armFailure_of_latch (hl : s.inputs.latch = true) : s.armFailure = some .frameStopped := by
  simp [State.armFailure, hq, hc, hr, hl]

variable (hl : s.inputs.latch = false)
include hl

theorem State.armFailure_of_referenceFault (hf : s.load.referenceFault = true) :
    s.armFailure = some .wrongState := by
  simp [State.armFailure, hq, hc, hr, hl, hf]

variable (hf : s.load.referenceFault = false)
include hf

theorem State.armFailure_of_tare (ht : s.load.tare.isSome = true) : s.armFailure = some .busy := by
  simp [State.armFailure, hq, hc, hr, hl, hf, ht]

/-- The last check: with no tare in flight, only a place in the result store is still needed. -/
theorem State.armFailure_of_places (ht : s.load.tare = none) :
    s.armFailure = if s.results.free = 0 then some .full else none := by
  simp [State.armFailure, hq, hc, hr, hl, hf, ht]

end

/-- No place is free exactly when records and the reserved place fill the 12 (R17). -/
theorem ResultStore.free_eq_zero_iff (x : ResultStore) :
    x.free = 0 ↔ 12 ≤ x.records.length + (if x.reserved then 1 else 0) := by
  simp only [ResultStore.free, Config.resultPlaces]
  omega

section
variable {p : Role} {s : State}

theorem exec_arm_of_wrong_role (hp : p ≠ .console) (ht : s.takes p = true) :
    exec (.arm p) s = .next (s.answer p .arm .roleRefused []) :=
  congrArg Host.Outcome.next (State.request_of_wrong_role _ _ ht (rolesC_mem_of_ne hp))

variable (ht : s.takes .console = true)
include ht

/-- Check 1 of R27. -/
theorem exec_arm_of_not_idle (hst : s.seq.state ≠ .idle) :
    exec (.arm .console) s = .next (s.answer .console .arm .wrongState []) := by
  rw [exec, execArm, State.request_of_takes _ _ ht rfl, if_pos hst, State.refuse]

variable (hst : s.seq.state = .idle)
include hst

theorem exec_arm_of_failure {st : Status} (hf : s.armFailure = some st) :
    exec (.arm .console) s = .next (s.answer .console .arm st []) := by
  rw [exec, execArm, State.request_of_takes _ _ ht rfl, if_neg (not_not.mpr hst), hf]
  rfl

theorem exec_arm_of_passes (hf : s.armFailure = none) :
    exec (.arm .console) s = .next (s.armHead.answer .console .arm .ok []) := by
  rw [exec, execArm, State.request_of_takes _ _ ht rfl, if_neg (not_not.mpr hst), hf]

end

/-- In IDLE the head waits and its program is VALID, so R27 checks neither (R7, R11). -/
theorem State.head_of_idle {s : State} {e : SpecimenEntry} (heads : s.headLaw) (slots : s.inUseLaw)
    (hst : s.seq.state = .idle) (he : e ∈ s.queue.head?) :
    e.state = .waiting ∧ (s.programAt e.slot).isSome = true := by
  obtain ⟨head, -⟩ := heads
  obtain ⟨-, valid⟩ := slots
  rw [if_pos hst] at head
  exact ⟨head e he, valid e (List.mem_of_head? he)⟩

/-- Settles O19: the roles, the state, then checks 2 to 8 of R27 in their order. -/
theorem armAnsweredByFirstFailingCheck : Obligations.ArmAnsweredByFirstFailingCheck := by
  refine ⟨fun s p => exec_arm_of_wrong_role, fun s heads slots hst e he => State.head_of_idle heads slots hst he,
    fun s ht => ⟨exec_arm_of_not_idle ht, fun hst => ?_⟩⟩
  have refused {st : Status} := exec_arm_of_failure (st := st) ht hst
  refine ⟨fun hq => refused (State.armFailure_of_empty hq), fun hq => ?_⟩
  refine ⟨fun hc => refused (State.armFailure_of_calibration hq hc), fun hc => ?_⟩
  refine ⟨fun hr => refused (State.armFailure_of_unreferenced hq hc hr), fun hr => ?_⟩
  refine ⟨fun hl => refused (State.armFailure_of_latch hq hc hr hl), fun hl => ?_⟩
  refine ⟨fun hf => refused (State.armFailure_of_referenceFault hq hc hr hl hf), fun hf => ?_⟩
  refine ⟨fun tare => refused (State.armFailure_of_tare hq hc hr hl hf tare), fun tare => ?_⟩
  have places := State.armFailure_of_places hq hc hr hl hf tare
  refine ⟨fun full => refused ?_, fun place => exec_arm_of_passes ht hst ?_⟩
  · rw [places, if_pos ((ResultStore.free_eq_zero_iff _).mpr full)]
  · rw [places, if_neg (mt (ResultStore.free_eq_zero_iff _).mp (Nat.not_le.mpr place))]

end Sys2Proof.Machine
end

section
/-! PROOFS. HOLD and RESUME (R42, R43): the write of velocity 0, and the cases of the two requests. -/

namespace Sys2Proof.Machine

/-- A write of velocity 0 stops the generator at once (R149). -/
theorem State.writeVelocity_zero {s : State} (source : VelocitySource) (hv : 0 ≤ s.drive.config.vmax) :
    s.writeVelocity source 0 = { s with
      drive := { s.drive with generator := none, buffer := none, velocity := 0, source := source } } := by
  have unclamped : clampInt (-s.drive.config.vmax) s.drive.config.vmax 0 = 0 := by
    rw [clampInt, if_neg (by omega), if_neg (by omega)]
  rw [State.writeVelocity, unclamped]
  rfl

/-- What the sequencer's write of velocity 0 does while SEQUENCER holds the authority (R25, R149). -/
theorem State.seqWrite_zero {s : State} (hh : s.arbiter.holder = some .sequencer) (hv : 0 ≤ s.drive.config.vmax) :
    s.seqWrite 0 = { s with
      drive := { s.drive with generator := none, buffer := none, velocity := 0, source := .sequencer } } := by
  rw [State.seqWrite, if_pos hh, State.writeVelocity_zero _ hv]

theorem State.enterHold_eq {s : State} (hh : s.arbiter.holder = some .sequencer) (hv : 0 ≤ s.drive.config.vmax) :
    s.enterHold = { s with
      seq := { s.seq with state := .hold, holds := min (s.seq.holds + 1) 65535 }
      drive := { s.drive with generator := none, buffer := none, velocity := 0, source := .sequencer } } :=
  State.seqWrite_zero hh hv

section
variable {p : Role} {s : State}

theorem exec_hold_of_wrong_role (hp : p ≠ .console) (ht : s.takes p = true) :
    exec (.hold p) s = .next (s.answer p .hold .roleRefused []) :=
  congrArg Host.Outcome.next (State.request_of_wrong_role _ _ ht (rolesC_mem_of_ne hp))

theorem exec_resume_of_wrong_role (hp : p ≠ .console) (ht : s.takes p = true) :
    exec (.resume p) s = .next (s.answer p .resume .roleRefused []) :=
  congrArg Host.Outcome.next (State.request_of_wrong_role _ _ ht (rolesC_mem_of_ne hp))

variable (ht : s.takes .console = true)
include ht

theorem exec_hold_of_not_run (hst : s.seq.state ≠ .run) :
    exec (.hold .console) s = .next (s.answer .console .hold .wrongState []) := by
  rw [exec, execHold, State.request_of_takes _ _ ht rfl, if_pos hst, State.refuse]

theorem exec_hold_of_run (hst : s.seq.state = .run) :
    exec (.hold .console) s = .next (s.enterHold.answer .console .hold .ok []) := by
  rw [exec, execHold, State.request_of_takes _ _ ht rfl, if_neg (not_not.mpr hst)]

theorem exec_resume_of_refused (h : s.seq.state ≠ .hold ∨ s.inputs.grips = false) :
    exec (.resume .console) s = .next (s.answer .console .resume .wrongState []) := by
  rw [exec, execResume, State.request_of_takes _ _ ht rfl, if_pos (by simpa using h), State.refuse]

theorem exec_resume_of_hold (hst : s.seq.state = .hold) (hg : s.inputs.grips = true) :
    exec (.resume .console) s = .next
      ({ s with
        seq := { s.seq with state := .run }
        rate := { s.rate with initPending := true } }.answer .console .resume .ok []) := by
  rw [exec, execResume, State.request_of_takes _ _ ht rfl, if_neg (by simp [hst, hg])]

end

/-- Settles O25: each request goes by its role, then by the sequencer's state, RESUME also by the grips. -/
theorem holdAndResume : Obligations.HoldAndResume := by
  refine ⟨fun s p hp ht => ⟨exec_hold_of_wrong_role hp ht, exec_resume_of_wrong_role hp ht⟩,
    fun s ht => ⟨exec_hold_of_not_run ht, fun hst hh hv => ?_, exec_resume_of_refused ht, exec_resume_of_hold ht⟩⟩
  rw [exec_hold_of_run ht hst, State.enterHold_eq hh hv]

end Sys2Proof.Machine
end

section
/-! PROOFS. The rate controller (R52 to R60): the clamp by minimum and maximum, the controller after one computation,
its command, and the write in RUN. -/

namespace Sys2Proof.Machine

theorem clampInt_eq_max_min {lo hi : Int} (h : lo ≤ hi) (x : Int) : clampInt lo hi x = max lo (min hi x) := by
  unfold clampInt
  split_ifs <;> omega

namespace RateController

variable {r : RateController} {epsilon sigma : Int}

/-! The measured value of each mode (R56). -/

theorem measured_of_strainRate (h : r.mode = some .strainRate) : r.measured epsilon sigma = some epsilon := by
  rw [measured, h]

theorem measured_of_stressRate (h : r.mode = some .stressRate) : r.measured epsilon sigma = some sigma := by
  rw [measured, h]

theorem measured_of_crossheadSpeed (h : r.mode = some .crossheadSpeed) : r.measured epsilon sigma = none := by
  rw [measured, h]

theorem advance_of_measured {m : Int} (h : r.measured epsilon sigma = some m) :
    r.advance = { r with target := r.target + r.rate * 5 } := by
  unfold measured at h
  unfold advance
  split at h
  next hm => rw [hm]
  next hm => rw [hm]
  next => contradiction

theorem advance_of_unmeasured (h : r.measured epsilon sigma = none) : r.advance = r := by
  unfold measured at h
  unfold advance
  split at h
  next => contradiction
  next => contradiction
  next => rfl

theorem clampLead_of_measured {m : Int} (h : r.measured epsilon sigma = some m) (hl : 0 ≤ r.lead) :
    r.clampLead epsilon sigma = { r with
      target := m * 10000 + max (-(r.lead * 10000)) (min (r.lead * 10000) (r.target - m * 10000)) } := by
  rw [clampLead, h, ← clampInt_eq_max_min (by omega)]
  rfl

theorem clampLead_of_unmeasured (h : r.measured epsilon sigma = none) : r.clampLead epsilon sigma = r := by
  rw [clampLead, h]

/-- A target that stands at the measured value lies within every lead (R54, R56). -/
theorem clampLead_of_target_measured {m : Int} (h : r.measured epsilon sigma = some m) (hl : 0 ≤ r.lead)
    (ht : r.target = m * 10000) : r.clampLead epsilon sigma = r := by
  have within_lead : max (-(r.lead * 10000)) (min (r.lead * 10000) (r.target - m * 10000)) = 0 := by omega
  rw [clampLead_of_measured h hl, within_lead, Int.add_zero, ← ht]

/-- The lead clamp leaves an initialised target as it is, so a pending initialisation is the whole computation (R54). -/
theorem clampLead_initialise {g : Segment} (hl : 0 ≤ g.lead) :
    (initialise g epsilon sigma).clampLead epsilon sigma = initialise g epsilon sigma := by
  cases hg : g.mode with
  | strainRate =>
    exact clampLead_of_target_measured (measured_of_strainRate (congrArg some hg)) hl (by rw [initialise, hg])
  | stressRate =>
    exact clampLead_of_target_measured (measured_of_stressRate (congrArg some hg)) hl (by rw [initialise, hg])
  | crossheadSpeed => exact clampLead_of_unmeasured (measured_of_crossheadSpeed (congrArg some hg))

/-- With a measured value the target advances and is clamped around that value (R55, R56). -/
theorem clampLead_advance_of_measured {m : Int} (h : r.measured epsilon sigma = some m) (hl : 0 ≤ r.lead) :
    r.advance.clampLead epsilon sigma = { r with
      target := m * 10000 + max (-(r.lead * 10000)) (min (r.lead * 10000) (r.target + r.rate * 5 - m * 10000)) } := by
  rw [advance_of_measured h]
  exact clampLead_of_measured h hl

/-- Without a measured value nothing moves (R55, R56). -/
theorem clampLead_advance_of_unmeasured (h : r.measured epsilon sigma = none) :
    r.advance.clampLead epsilon sigma = r := by
  rw [advance_of_unmeasured h, clampLead_of_unmeasured h]

/-- The advance and the lead clamp change the target alone (R55, R56). -/
theorem clampLead_advance_frame (hl : 0 ≤ r.lead) :
    r.advance.clampLead epsilon sigma =
      { r with target := (r.advance.clampLead epsilon sigma).target } := by
  cases h : r.measured epsilon sigma with
  | none => rw [clampLead_advance_of_unmeasured h]
  | some m => rw [clampLead_advance_of_measured h hl]

/-- The controller after one computation (R52). -/
theorem compute_fst (g : Segment) (epsilon sigma parallel vmax : Int) :
    (r.compute g epsilon sigma parallel vmax).1 =
      (if r.initPending then initialise g epsilon sigma else r.advance).clampLead epsilon sigma :=
  rfl

theorem compute_fst_of_pending {g : Segment} (parallel vmax : Int) (hp : r.initPending = true) (hl : 0 ≤ g.lead) :
    (r.compute g epsilon sigma parallel vmax).1 = initialise g epsilon sigma := by
  rw [compute_fst, if_pos hp, clampLead_initialise hl]

theorem compute_fst_of_not_pending (g : Segment) (parallel vmax : Int) (hp : r.initPending = false) :
    (r.compute g epsilon sigma parallel vmax).1 = r.advance.clampLead epsilon sigma := by
  rw [compute_fst, hp, if_neg Bool.false_ne_true]

/-- The output is the command of the controller after the computation, limited to 0 to vmax (R60). -/
theorem compute_snd (g : Segment) (parallel : Int) {vmax : Int} (hv : 0 ≤ vmax) :
    (r.compute g epsilon sigma parallel vmax).2 =
      max 0 (min vmax ((r.compute g epsilon sigma parallel vmax).1.command epsilon sigma parallel)) :=
  clampInt_eq_max_min hv _

/-- A value that meets the rule of every mode is the command of the mode loaded (R57, R58, R59). -/
theorem command_unique {parallel command : Int} (hm : r.mode.isSome = true)
    (strain : r.mode = some .strainRate → command = roundDiv (r.rate * parallel) 1000
      + roundDiv ((r.target - epsilon * 10000) * r.gain) 10000)
    (stress : r.mode = some .stressRate → command = roundDiv ((r.target - sigma * 10000) * r.gain) 10000)
    (speed : r.mode = some .crossheadSpeed → command = r.rate) :
    command = r.command epsilon sigma parallel := by
  obtain ⟨mode, h⟩ := Option.isSome_iff_exists.mp hm
  rw [RateController.command, h]
  cases mode with
  | strainRate => exact strain h
  | stressRate => exact stress h
  | crossheadSpeed => exact speed h

end RateController

/-- Step 4 of R38 in RUN, with the active segment and the sample's values at hand (R52, R60). -/
theorem State.commandStep_of_run {s : State} {g : Segment} {epsilon sigma parallel : Int}
    (hst : s.seq.state = .run) (hg : s.activeSegment = some g) (he : s.strain.epsilon = some epsilon)
    (hs : s.strain.sigma = some sigma) (hp : s.strain.parallel = some parallel) :
    s.commandStep =
      { s with rate := (s.rate.compute g epsilon sigma parallel s.drive.config.vmax).1 }.seqWrite
        (s.rate.compute g epsilon sigma parallel s.drive.config.vmax).2 := by
  rw [State.commandStep, if_pos hst, hg, he, hs, hp]

/-- Settles O36: the controller goes by the pending initialisation, then by the measured value of its mode; the output
by the command of the mode; the write in RUN by the holder. -/
theorem rateSampleFollowsItsRules : Obligations.RateSampleFollowsItsRules := by
  intro r c g epsilon sigma parallel vmax output hc hv hr hg
  have controller : (r.compute g epsilon sigma parallel vmax).1 = c := congrArg Prod.fst hc
  have written : (r.compute g epsilon sigma parallel vmax).2 = output := congrArg Prod.snd hc
  refine ⟨fun pending => ?_, fun pending => ?_, fun command strain stress speed hm => ?_,
    fun s hst rate seg hvm he hs hp => ?_⟩
  · rw [← controller, RateController.compute_fst_of_pending parallel vmax pending hg]
    rfl
  · obtain rfl : r.advance.clampLead epsilon sigma = c := by
      rw [← controller, RateController.compute_fst_of_not_pending g parallel vmax pending]
    have around {m : Int} (h : r.measured epsilon sigma = some m) :=
      congrArg RateController.target (RateController.clampLead_advance_of_measured h hr)
    exact ⟨RateController.clampLead_advance_frame hr,
      fun h => around (RateController.measured_of_strainRate h),
      fun h => around (RateController.measured_of_stressRate h),
      fun h => congrArg RateController.target
        (RateController.clampLead_advance_of_unmeasured (RateController.measured_of_crossheadSpeed h))⟩
  · rw [← written, RateController.compute_snd g parallel hv, controller,
      RateController.command_unique hm strain stress speed]
  · rw [State.commandStep_of_run hst seg he hs hp, rate, hvm, controller, written, State.seqWrite]

end Sys2Proof.Machine
end

section
/-! PROOFS. SET_RANGE and TARE (R115 to R119): the load unit after a range is set and after a walk begins, and the
cases of the two requests. -/

namespace Sys2Proof.Machine

/-! The active range (R115). -/

@[simp] theorem LoadUnit.setRange_activeRange_self (l : LoadUnit) : l.setRange l.activeRange = l :=
  if_pos rfl

theorem LoadUnit.setRange_of_ne {l : LoadUnit} {k : Fin 4} (h : k ≠ l.activeRange) :
    l.setRange k = { l with activeRange := k, settling := true } :=
  if_neg h

/-- Settling is set by a change of the range, and otherwise stays as it stood (R115). -/
theorem LoadUnit.setRange_eq (l : LoadUnit) (k : Fin 4) :
    l.setRange k = { l with activeRange := k, settling := l.settling || l.activeRange != k } := by
  by_cases h : k = l.activeRange
  · subst h
    simp
  · rw [LoadUnit.setRange_of_ne h, bne_iff_ne.mpr (Ne.symm h), Bool.or_true]

/-- The walk begins on range 0 and keeps the range active before it as the range to return to (R119). -/
theorem LoadUnit.beginTare_eq (l : LoadUnit) :
    l.beginTare = { l with
      activeRange := 0
      settling := l.settling || l.activeRange != 0
      tare := some ⟨0, 0, 0, [], l.activeRange⟩ } := by
  rw [LoadUnit.beginTare, LoadUnit.setRange_eq]

/-- A range that passes its check is the range of its number. -/
theorem rangeOfNat_of_val_eq {n : Nat} {k : Fin 4} (h : k.val = n) : rangeOfNat n = k := by
  subst h
  exact Fin.ext (Nat.mod_eq_of_lt k.isLt)

section
variable {p : Role} {s : State} {o : Octet}

theorem exec_setRange_of_wrong_role (hp : p ≠ .console) (ht : s.takes p = true) :
    exec (.setRange p o) s = .next (s.answer p .setRange .roleRefused []) :=
  congrArg Host.Outcome.next (State.request_of_wrong_role _ _ ht (rolesC_mem_of_ne hp))

theorem exec_tare_of_wrong_role (hp : p ≠ .console) (ht : s.takes p = true) :
    exec (.tare p) s = .next (s.answer p .tare .roleRefused []) :=
  congrArg Host.Outcome.next (State.request_of_wrong_role _ _ ht (rolesC_mem_of_ne hp))

variable (ht : s.takes .console = true)
include ht

/-! The checks of R116, each where the checks before it pass. -/

theorem exec_setRange_of_gt (ho : 3 < o.toNat) :
    exec (.setRange .console o) s = .next (s.answer .console .setRange .invalidField [1]) := by
  rw [exec, execSetRange, State.request_of_takes _ _ ht rfl, if_pos ho]
  rfl

theorem exec_setRange_of_not_idle (ho : o.toNat ≤ 3) (hst : s.seq.state ≠ .idle) :
    exec (.setRange .console o) s = .next (s.answer .console .setRange .wrongState []) := by
  rw [exec, execSetRange, State.request_of_takes _ _ ht rfl, if_neg (Nat.not_lt.mpr ho), if_pos hst, State.refuse]

theorem exec_setRange_of_tare (ho : o.toNat ≤ 3) (hst : s.seq.state = .idle) (hl : s.load.tare.isSome = true) :
    exec (.setRange .console o) s = .next (s.answer .console .setRange .busy []) := by
  rw [exec, execSetRange, State.request_of_takes _ _ ht rfl, if_neg (Nat.not_lt.mpr ho), if_neg (not_not.mpr hst),
    if_pos hl, State.refuse]

/-- A SET_RANGE that passes its checks makes range `k` active (R116). -/
theorem exec_setRange_of_passes {k : Fin 4} (hk : k.val = o.toNat) (hst : s.seq.state = .idle)
    (hl : s.load.tare = none) :
    exec (.setRange .console o) s =
      .next ({ s with load := s.load.setRange k }.answer .console .setRange .ok []) := by
  have inRange : ¬ 3 < o.toNat := by omega
  rw [exec, execSetRange, State.request_of_takes _ _ ht rfl, if_neg inRange, if_neg (not_not.mpr hst),
    if_neg (by simp [hl]), rangeOfNat_of_val_eq hk]

/-! The checks of R118. -/

theorem exec_tare_of_wrong_state (hi : s.seq.state ≠ .idle) (ha : s.seq.state ≠ .armed) :
    exec (.tare .console) s = .next (s.answer .console .tare .wrongState []) := by
  rw [exec, execTare, State.request_of_takes _ _ ht rfl, if_pos ⟨hi, ha⟩, State.refuse]

variable (hst : s.seq.state = .idle ∨ s.seq.state = .armed)
include hst

theorem exec_tare_of_tare (hl : s.load.tare.isSome = true) :
    exec (.tare .console) s = .next (s.answer .console .tare .busy []) := by
  rw [exec, execTare, State.request_of_takes _ _ ht rfl, if_neg (fun ⟨hi, ha⟩ => hst.elim hi ha),
    if_pos hl, State.refuse]

/-- A TARE that passes its checks begins the walk (R118, R119). -/
theorem exec_tare_of_passes (hl : s.load.tare = none) :
    exec (.tare .console) s = .next ({ s with load := s.load.beginTare }.answer .console .tare .accepted []) := by
  rw [exec, execTare, State.request_of_takes _ _ ht rfl, if_neg (fun ⟨hi, ha⟩ => hst.elim hi ha),
    if_neg (by simp [hl])]

end

/-- Settles O30: each request goes by its role, then by its checks in their order; a SET_RANGE that passes, by whether
the range is the active one, and a TARE that passes begins its walk. -/
theorem rangeIsSetAndTareBegins : Obligations.RangeIsSetAndTareBegins := by
  refine ⟨fun s p o hp ht => ⟨exec_setRange_of_wrong_role hp ht, exec_tare_of_wrong_role hp ht⟩,
    fun s o ht => ⟨exec_setRange_of_gt ht, fun ho => ⟨exec_setRange_of_not_idle ht ho, fun hst =>
      ⟨exec_setRange_of_tare ht ho hst, fun hl => ⟨fun same => ?_, fun k hk other => ?_⟩⟩⟩⟩,
    fun s ht => ⟨exec_tare_of_wrong_state ht, fun hst => ⟨exec_tare_of_tare ht hst, fun hl => ?_⟩⟩⟩
  · rw [exec_setRange_of_passes ht same.symm hst hl, LoadUnit.setRange_activeRange_self]
  · rw [exec_setRange_of_passes ht hk hst hl, LoadUnit.setRange_of_ne other]
  · rw [exec_tare_of_passes ht hst hl, LoadUnit.beginTare_eq]

end Sys2Proof.Machine
end

section
/-! PROOFS. GET_NOTICES (R187): the port after its taking, and a notice set after the addition of a notice. -/

namespace Sys2Proof.Machine

/-- A set to which a notice was added is not empty: it holds that notice (R186). -/
theorem withNotice_ne_zero (w : BitVec 32) (n : Notice) : withNotice w n ≠ 0 := by
  intro empty
  have present := withNotice_hasNotice w n
  simp [empty] at present

/-- The attention line is active after a notice is added (R186). -/
theorem State.addNotice_attention (s : State) (p : Role) (n : Notice) :
    ((s.addNotice p n).ports.get p).attention = true := by
  rw [Port.attention, State.addNotice_notices, if_pos rfl, bne_iff_ne]
  exact withNotice_ne_zero _ n

/-- `s` after GET_NOTICES from `p` is taken: the reply gives the set as it stood, which is then emptied (R187). -/
def State.noticesTaken (s : State) (p : Role) : State :=
  (s.answer p .getNotices .ok (be4 (s.ports.get p).notices)).onPort p fun q => { q with notices := 0 }

section
variable (s : State) (p : Role)

theorem exec_getNotices_of_takes (ht : s.takes p = true) : exec (.getNotices p) s = .next (s.noticesTaken p) := by
  rw [exec, execGetNotices, State.request_of_takes .getNotices _ ht (rolesCLQ_mem p), State.noticesTaken]

/-- The taking of the notices touches the ports alone. -/
theorem State.noticesTaken_eq : s.noticesTaken p = { s with ports := (s.noticesTaken p).ports } := rfl

theorem State.noticesTaken_get_self :
    (s.noticesTaken p).ports.get p =
      { inputBuffer := []
        pendingReply := some ⟨⟨0x02, .ok, be4 (s.ports.get p).notices⟩, 500⟩
        notices := 0, clockingOut := none } := by
  rw [State.noticesTaken, State.onPort_get, if_pos rfl, State.answer_get_self]
  rfl

theorem State.noticesTaken_get_of_ne {q : Role} (h : q ≠ p) :
    (s.noticesTaken p).ports.get q = s.ports.get q := by
  rw [State.noticesTaken, State.onPort_get, if_neg h, State.answer_get_of_ne _ _ _ _ h]

end

/-- Settles O9: the state after the taking is `noticesTaken`, whose port `p` has the empty set, so that a notice added
to it stands alone. -/
theorem getNoticesEmptiesTheSet : Obligations.GetNoticesEmptiesTheSet := by
  intro p s ht
  have taken := s.noticesTaken_get_self p
  refine ⟨s.noticesTaken p, exec_getNotices_of_takes s p ht, s.noticesTaken_eq p, taken, ?_,
    fun q h => s.noticesTaken_get_of_ne p h, fun n => ⟨?_, State.addNotice_attention _ p n⟩⟩
  · simp [taken, Port.attention]
  · rw [State.addNotice_notices, if_pos rfl, taken]

end Sys2Proof.Machine
end

section
/-! PROOFS. What a step can do to the items that the laws of the device look at: the elementary changes of which every
command is made up. -/

namespace Sys2Proof.Machine

/-- The items that the laws look at are in `t` what they are in `s`. -/
structure Aside (s t : State) : Prop where
  queue : t.queue = s.queue
  programs : t.programs = s.programs
  records : t.results.records = s.results.records
  reserved : t.results.reserved = s.results.reserved
  arbiter : t.arbiter = s.arbiter
  generator : t.drive.generator.isSome = s.drive.generator.isSome
  velocity : t.drive.velocity = s.drive.velocity
  commanded : t.drive.commanded = s.drive.commanded
  referenced : t.drive.referenced = s.drive.referenced
  driveConfig : t.drive.config = s.drive.config
  tare : t.load.tare = s.load.tare
  range : t.load.activeRange = s.load.activeRange
  force : t.load.last.force = s.load.last.force
  source : t.strain.source = s.strain.source
  p0 : t.strain.p0 = s.strain.p0
  fPre : t.strain.fPre = s.strain.fPre
  state : t.seq.state = s.seq.state
  openSeen : t.seq.openSeen = s.seq.openSeen
  maximum : t.eval.maximum = s.eval.maximum
  frameStop : t.inputs.frameStop = s.inputs.frameStop
  latch : t.inputs.latch = s.inputs.latch
  grips : t.inputs.grips = s.inputs.grips
  image : t.config.image.items = s.config.image.items
  inFlight : t.config.inFlight = s.config.inFlight

/-- Where the blocks are the same, so is all that the laws look at. -/
theorem Aside.of_blocks {s t : State} (h : t.queue = s.queue ∧ t.programs = s.programs ∧ t.results = s.results
    ∧ t.arbiter = s.arbiter ∧ t.drive = s.drive ∧ t.load = s.load ∧ t.strain = s.strain ∧ t.seq = s.seq
    ∧ t.eval = s.eval ∧ t.inputs = s.inputs ∧ t.config = s.config) : Aside s t := by
  obtain ⟨queue, programs, results, arbiter, drive, load, strain, seq, eval, inputs, config⟩ := h
  constructor <;> simp only [queue, programs, results, arbiter, drive, load, strain, seq, eval, inputs, config]

theorem Aside.ports (s : State) (x : PerRole Port) : Aside s { s with ports := x } := .of_blocks (by simp)
theorem Aside.link (s : State) (l : ExtLink) : Aside s { s with link := l } := .of_blocks (by simp)
theorem Aside.meter (s : State) (m : SpeedMeter) : Aside s { s with meter := m } := .of_blocks (by simp)
theorem Aside.rate (s : State) (r : RateController) : Aside s { s with rate := r } := .of_blocks (by simp)
theorem Aside.pending (s : State) (x : List Instr) : Aside s { s with pending := x } := .of_blocks (by simp)

/-- `s` with its head ARMED, a place reserved and the sequencer in ARMED: an arming before SEQUENCER asks for the
authority (R28). -/
def State.headArmed (s : State) (b : ProgramBody) : State :=
  let s := s.setHeadState .armed
  { s with
    results := { s.results with reserved := true }
    load := s.load.setRange b.initialRange
    seq := { s.seq with
      state := .armed, openSeen := !s.inputs.grips, segment := 1, holds := 0, rangeSwitches := 0
      duration := 0, yieldEndSeen := false, releaseSeen := false, outcome := none, cause := none
      note := none, extLost := false, extAttachFailed := false, extRangeEnd := false } }

/-- `s` with its test over and recorded: a completion without what the arbiter makes of it (R49). -/
def State.testFiled (s : State) (r : ResultRecord) : State :=
  let s := (s.fileRecord r).removeHead
  { s with seq := { s.seq with state := .idle, openSeen := false, endingTimer := none } }.clearTest

/-- `s` with every block reset, before auto-arm examines the head (R190). -/
def State.blocksReset (s : State) : State :=
  let s := s.resetTest.resetMotion.resetLink.clearTest
  { s with
    seq := Sequencer.cleared s.seq.autoArm
    load := s.load.abandonTare
    meter := s.meter.reset }

/-- The elementary changes: to what the laws look at, every command makes these and no other. -/
inductive Change : State → State → Prop where
  | aside {s t : State} (h : Aside s t) : Change s t
  -- The drive and the arbiter.
  | stop (s : State) : Change s s.stopGenerator
  | dropHolder (s : State) (cause : MoveEndCause) : Change s (s.dropHolder cause)
  | leave (s : State) (f : Party → Bool) :
    Change s { s with arbiter := { s.arbiter with waiting := s.arbiter.waiting.filter f } }
  | request (s : State) (q : Party) (latch : s.inputs.latch = false) (holder : s.arbiter.holder ≠ some q)
    (waiting : q ∉ s.arbiter.waiting) :
    Change s { s with arbiter := { s.arbiter with waiting := s.arbiter.waiting ++ [q] } }
  | take (s : State) (q : Party) (latch : s.inputs.latch = false) (free : s.arbiter.holder = none)
    (waiting : q ∉ s.arbiter.waiting) (test : s.seq.state.inTest = false) :
    Change s { s with arbiter := { s.arbiter with holder := some q } }
  | grant (s : State) (q : Party) (rest : List Party) (waiting : s.arbiter.waiting = q :: rest)
    (free : s.arbiter.holder = none) (test : s.seq.state.inTest = false) :
    Change s { s with arbiter := ⟨some q, rest⟩ }
  | write (s : State) (v : Int) (opens : s.configItems.opens → 0 ≤ v) : Change s (s.seqWrite v)
  | move (s : State) (q : Party) (v : Int) (holder : s.arbiter.holder = some q) (port : q ≠ .sequencer) :
    Change s (s.writeVelocity .move v)
  | pulse (s : State) (dir : Direction) (limits : s.drive.limitStops dir = false) : Change s (s.pulse dir)
  | takeUp (s : State) : Change s { s with drive := s.drive.takeUp }
  | position (s : State) (x : Word32) (limits : s.drive.config.contains x.toInt = true) :
    Change s { s with drive := { s.drive with encoder := x, commanded := x, referenced := true } }
  | driveConfig (s : State) (c : DriveConfig) (fields : lowestFailing (driveConfigChecks c) = none)
    (limits : lowestFailing (s.drive.limitChecks c) = none) :
    Change s { s with drive := { s.drive with config := c } }
  -- The frame inputs.
  | latchSet (s : State) :
    Change s { s with
      inputs := { s.inputs with frameStop := true, frameStopFilter := none, latch := true }
      arbiter := ⟨none, []⟩
      drive := { s.drive with generator := none, buffer := none, velocity := 0 } }
  | inputs (s : State) (i : FrameInputs) (grips : i.grips = s.inputs.grips)
    (level : i.frameStop = true → i.latch = true) (latch : i.latch = true → s.inputs.latch = true) :
    Change s { s with inputs := i }
  -- The queue, the programs and the results.
  | enqueue (s : State) (e : SpecimenEntry) (room : s.queue.length < Config.queueSize)
    (id : s.idStands e.id = false) (slot : (s.programAt e.slot).isSome = true) (state : e.state = .waiting) :
    Change s (s.append e)
  | withdraw (s : State) (e : SpecimenEntry) (entry : s.queue.find? (fun x => x.id == e.id) = some e)
    (state : e.state = .waiting) : Change s (s.removeEntry e)
  | capture (s : State) (x : Word32) : Change s (s.captureGrip x)
  | program (s : State) (slot : Nat) (b : Option ProgramBody) (unused : s.inUseOf slot = 0)
    (opens : ∀ x ∈ b, 0 ≤ x.approach) : Change s (s.setProgram slot b)
  | records (s : State) (p : Role) (id : List Octet) (l : List ResultRecord) (freed : Bool)
    (taken : takeRecord id p s.results.records = some (l, freed)) :
    Change s { s with results := { s.results with records := l } }
  -- The load unit outside a test and in the walk, and its step-up in a test.
  | load (s : State) (l : LoadUnit) (test : s.seq.state.inTest = false ∨ s.load.tare.isSome = true) :
    Change s { s with load := l }
  | widen (s : State) (k : Fin 4) (wider : k ≤ s.load.activeRange) : Change s { s with load := s.load.setRange k }
  -- The sequencer's course.
  | arm (s : State) (b : ProgramBody) (state : s.seq.state = .idle) (checks : s.armFailure = none)
    (program : s.headProgram = some b) : Change s (s.headArmed b)
  | disarm (s : State) (state : s.seq.state = .armed) : Change s s.undoArming
  | openSeen (s : State) (grips : s.inputs.grips = false) :
    Change s { s with seq := { s.seq with openSeen := true } }
  | start (s : State) (ready : s.gripsStartReady = true) : Change s s.startTest
  | reach (s : State) (x : Word32) (f : Int) (st : SeqState) (source : Option StrainSource)
    (preload : s.seq.state = .preload)
    (tracked : ∃ m ∈ s.eval.maximum, ∀ g ∈ s.load.last.force, g ≤ m.force)
    (next : (st = .run ∧ source = some .crosshead) ∨ (st = .attach ∧ source = s.strain.source)) :
    Change s { s with
      strain := { s.strain with p0 := some x, fPre := some f, source := source }
      seq := { s.seq with state := st } }
  | enterRun (s : State) (source : StrainSource) (attach : s.seq.state = .attach) : Change s (s.enterRun source)
  | hold (s : State) (st : SeqState)
    (turn : (s.seq.state = .run ∧ st = .hold) ∨ (s.seq.state = .hold ∧ st = .run)) :
    Change s { s with seq := { s.seq with state := st } }
  | handOff (s : State) (source : s.strain.source = some .extensometer) :
    Change s { s with strain := { s.strain with source := some .crosshead } }
  | track (s : State) (x : TestSample) : Change s { s with eval := s.eval.track x }
  | ending (s : State) (test : s.seq.state.underTest = true) :
    Change s { s with seq := { s.seq with state := .ending } }
  | complete (s : State) (e : SpecimenEntry) (r : ResultRecord) (state : s.seq.state = .ending)
    (head : s.queue.head? = some e) (id : r.id = e.id) : Change s (s.testFiled r)
  -- The configuration store, the supply and the reset.
  | store (s : State) : Change s { s with config := { s.config with inFlight := some s.configItems } }
  | stored (s : State) (i : ConfigImage) (items : s.config.inFlight = some i.items) :
    Change s { s with config := { image := i, inFlight := none } }
  | blank (s : State) (power : Power) : Change s (s.blank power)
  | started (s : State) (items : ConfigItems) (notices : BitVec 32)
    (loaded : items = s.config.image.items ∨ items = ConfigItems.defaults) : Change s (s.started items notices)
  | reset (s : State) : Change s s.blocksReset

/-- What comes before the elementary changes of a command: a sample is delivered, the grips open or close, or START
starts the test. -/
inductive FirstChange : State → State → Prop where
  | none (s : State) : FirstChange s s
  | grips (s : State) (b : Bool) :
    FirstChange s { s with inputs := { s.inputs with grips := b, gripsFilter := Option.none } }
  | delivery (s : State) (l : LoadUnit) (tare : l.tare = s.load.tare)
    (range : l.activeRange = s.load.activeRange) : FirstChange s { s with load := l }
  | start (s : State) (state : s.seq.state = .armed) (tare : s.load.tare = Option.none)
    (holder : s.arbiter.holder = some .sequencer) : FirstChange s s.startTest

/-- A sequence of elementary changes. -/
abbrev Changes : State → State → Prop := Relation.ReflTransGen Change

end Sys2Proof.Machine
end

section
/-! PROOFS. The shared operations as sequences of elementary changes. -/

namespace Sys2Proof.Machine

theorem Aside.changes {s t : State} (h : Aside s t) : Changes s t := .single (.aside h)

theorem Change.changes {s t : State} (h : Change s t) : Changes s t := .single h

/-- A last part that the laws do not see. -/
theorem Changes.aside {s t u : State} (h : Changes s t) (a : Aside t u) : Changes s u := h.tail (.aside a)

/-- Blocks that are the same at the end of a sequence. -/
theorem Changes.of_blocks {s t u : State} (h : Changes s t) (b : u.queue = t.queue ∧ u.programs = t.programs
    ∧ u.results = t.results ∧ u.arbiter = t.arbiter ∧ u.drive = t.drive ∧ u.load = t.load ∧ u.strain = t.strain
    ∧ u.seq = t.seq ∧ u.eval = t.eval ∧ u.inputs = t.inputs ∧ u.config = t.config) : Changes s u :=
  h.aside (.of_blocks b)

/-! ## The drive and the arbiter -/

section
variable (s : State)

theorem State.endMove_aside (cause : Option MoveEndCause) : Aside s (s.endMove cause) := by
  unfold State.endMove
  split
  · exact .of_blocks (by simp)
  · constructor <;> simp

theorem State.completeSettledMove_aside : Aside s s.completeSettledMove := by
  unfold State.completeSettledMove
  split
  · split
    · exact s.endMove_aside _
    · exact .of_blocks (by simp)
  · exact .of_blocks (by simp)

theorem State.recordMove_aside (p : Role) (kind : MoveKind) (target : Word32) (speed : Int) (clamped : Bool) :
    Aside s (s.recordMove p kind target speed clamped) := by
  have ended := s.endMove_aside (some .replaced)
  constructor <;> simp [State.recordMove, ended.generator, ended.velocity, ended.commanded, ended.referenced,
    ended.driveConfig]

theorem State.settleMove_changes : Changes s s.settleMove := by
  refine .trans (Change.changes (.stop s)) ?_
  refine .head (.aside ?_) (State.completeSettledMove_aside _).changes
  constructor <;> rfl

/-- A write of velocity 0 by the sequencer. -/
theorem State.seqWrite_zero_changes : Changes s (s.seqWrite 0) := .single (.write s 0 fun _ => le_rfl)

end

/-! ## The end of a test (R46 to R49) -/

section
variable (s : State)

theorem State.addNote_aside (c : Cause) : Aside s (s.addNote c) := by
  unfold State.addNote
  split
  · constructor <;> rfl
  · exact .of_blocks (by simp)

theorem State.enterEnding_changes (outcome : TestOutcome) (cause : Option Cause)
    (test : s.seq.state.underTest = true) : Changes s (s.enterEnding outcome cause) := by
  refine .head (.ending s test) (.trans (Aside.changes ?_) (State.seqWrite_zero_changes _))
  constructor <;> simp

theorem State.reportFault_changes (c : Cause) : Changes s (s.reportFault c) := by
  unfold State.reportFault
  split
  next h => exact s.enterEnding_changes _ _ h
  next =>
    split
    · exact (s.addNote_aside c).changes
    · exact .refl

theorem State.pauseAutoArm_aside : Aside s s.pauseAutoArm := by
  unfold State.pauseAutoArm
  split
  · constructor <;> rfl
  · exact .of_blocks (by simp)

theorem State.authorityLost_changes (reason : Cause) : Changes s (s.authorityLost reason) := by
  unfold State.authorityLost
  split
  next h =>
    have disarmed := Change.disarm s h
    split
    · exact .single disarmed
    · exact .head disarmed (State.pauseAutoArm_aside _).changes
  next => exact s.reportFault_changes reason

end

/-! ## The start of a test and the grants (R33, R143) -/

section
variable (s : State)

theorem State.testGripsStart_changes : Changes s s.testGripsStart := by
  unfold State.testGripsStart
  split
  next h => exact .single (.start s h)
  next => exact .refl

/-- What a grant to SEQUENCER brings once it holds. -/
theorem State.grantSequencer_changes :
    Changes { s with arbiter := { s.arbiter with holder := some .sequencer } } s.grantSequencer := by
  refine .trans ?_ (State.testGripsStart_changes _)
  split
  · exact State.seqWrite_zero_changes _
  · exact .refl

theorem State.grantFront_changes (free : s.arbiter.holder = none) (test : s.seq.state.inTest = false) :
    Changes s s.grantFront := by
  unfold State.grantFront
  split
  next => exact .refl
  next rest h => exact (Changes.of_blocks (.single (.grant s .console rest h free test)) (by simp))
  next rest h => exact (Changes.of_blocks (.single (.grant s .cell rest h free test)) (by simp))
  next rest h =>
    exact .head (.grant s .sequencer rest h free test)
      (State.grantSequencer_changes { s with arbiter := { s.arbiter with waiting := rest } })

/-- Grants are held back in a test without a holder (R143). -/
theorem State.grantHeldBack_of_free (free : s.arbiter.holder = none) : s.grantHeldBack = s.seq.state.inTest := by
  simp [State.grantHeldBack, free]

theorem State.grantIfFree_changes : Changes s s.grantIfFree := by
  unfold State.grantIfFree
  split
  next h =>
    obtain ⟨free, open_⟩ := h
    exact s.grantFront_changes free (by simpa [s.grantHeldBack_of_free free] using open_)
  next => exact .refl

theorem State.sequencerRequests_changes : Changes s s.sequencerRequests := by
  unfold State.sequencerRequests
  split
  next => exact .refl
  next latch =>
    rw [Bool.not_eq_true] at latch
    split
    next => exact .refl
    next absent =>
      simp only [not_or, List.contains_iff_mem] at absent
      obtain ⟨holder, waiting⟩ := absent
      split
      next h =>
        obtain ⟨free, open_⟩ := h
        exact .head (.take s .sequencer latch free waiting (by simpa [s.grantHeldBack_of_free free] using open_))
          s.grantSequencer_changes
      next => exact .single (.request s .sequencer latch holder waiting)

theorem State.sequencerReleases_changes : Changes s s.sequencerReleases := by
  unfold State.sequencerReleases
  split
  · exact .head (.dropHolder s _) (State.grantIfFree_changes _)
  · exact .single (.leave s _)

theorem State.revokeHolder_changes (move : MoveEndCause) (reason : Cause) :
    Changes s (s.revokeHolder move reason) := by
  unfold State.revokeHolder
  split
  next => exact .refl
  next q _ =>
    refine .head (.dropHolder s move) ?_
    dsimp only
    split
    · exact (Aside.of_blocks (by simp)).changes
    · exact State.authorityLost_changes _ _

end

/-! ## Arming and completion (R28, R29, R49) -/

section
variable (s : State)

theorem State.armHead_changes (state : s.seq.state = .idle) (checks : s.armFailure = none) :
    Changes s s.armHead := by
  unfold State.armHead
  split
  next => exact .refl
  next b h =>
    have armed : Changes s (s.headArmed b).sequencerRequests :=
      .head (.arm s b state checks h) (State.sequencerRequests_changes _)
    exact armed.of_blocks (by simp [State.headArmed])

theorem State.examineHead_changes : Changes s s.examineHead := by
  unfold State.examineHead
  split
  next h =>
    simp only [State.autoArmReady, Bool.and_eq_true, beq_iff_eq, Option.isNone_iff_eq_none] at h
    obtain ⟨⟨⟨state, -⟩, -⟩, checks⟩ := h
    exact s.armHead_changes state checks
  next => exact .refl

/-- Outside ARMED a grant to SEQUENCER makes it the holder and does nothing else. -/
theorem State.grantSequencer_of_not_armed (h : s.seq.state ≠ .armed) :
    s.grantSequencer = { s with arbiter := { s.arbiter with holder := some .sequencer } } := by
  simp [State.grantSequencer, State.testGripsStart, State.gripsStartReady, h]

/-- The arbiter after a grant of the front of the list (R143). -/
def Arbiter.granted (a : Arbiter) : Arbiter :=
  match a.waiting with
  | [] => a
  | q :: rest => ⟨some q, rest⟩

/-- Outside ARMED a grant of the front changes the arbiter alone, beside the notices. -/
theorem State.grantFront_frame_of_not_armed (h : s.seq.state ≠ .armed) :
    s.grantFront.queue = s.queue ∧ s.grantFront.drive = s.drive ∧ s.grantFront.strain = s.strain
      ∧ s.grantFront.seq = s.seq ∧ s.grantFront.arbiter = s.arbiter.granted := by
  match hw : s.arbiter.waiting with
  | [] => simp [State.grantFront, Arbiter.granted, hw]
  | .console :: rest => simp [State.grantFront, Arbiter.granted, hw]
  | .cell :: rest => simp [State.grantFront, Arbiter.granted, hw]
  | .sequencer :: rest =>
    have grant := State.grantSequencer_of_not_armed { s with arbiter := { s.arbiter with waiting := rest } } h
    simp [State.grantFront, Arbiter.granted, hw, grant]

/-- What the drop of a holder does to the drive. -/
theorem State.dropHolder_drive (cause : MoveEndCause) :
    (s.dropHolder cause).drive.generator = none ∧ (s.dropHolder cause).drive.velocity = 0
      ∧ (s.dropHolder cause).drive.commanded = s.drive.commanded
      ∧ (s.dropHolder cause).drive.referenced = s.drive.referenced
      ∧ (s.dropHolder cause).drive.config = s.drive.config := by
  have ended := s.stopGenerator.endMove_aside (some cause)
  simp [State.dropHolder, ended.commanded, ended.referenced, ended.driveConfig, ended.velocity]
  simpa [State.stopGenerator] using ended.generator

@[simp] theorem State.dropHolder_arbiter (cause : MoveEndCause) :
    (s.dropHolder cause).arbiter = { s.arbiter with holder := none } := by
  simp [State.dropHolder]

/-- The drive after the drop of a holder comes from the drive before it. -/
theorem State.dropHolder_drive_congr {s u : State} (h : u.drive = s.drive) (cause : MoveEndCause) :
    (u.dropHolder cause).drive = (s.dropHolder cause).drive := by
  simp only [State.dropHolder, State.endMove, State.stopGenerator, h]
  split <;> simp

/-- The arbiter after the release at a completion (R49, step 4). -/
def Arbiter.released (a : Arbiter) : Arbiter :=
  if a.holder = some .sequencer then { a with holder := none }.granted
  else if a.holder = none then a.granted else a

/-- Outside ARMED the release at a completion changes the drive and the arbiter alone, beside the notices. -/
theorem State.releaseAtCompletion_frame_of_not_armed (h : s.seq.state ≠ .armed) :
    s.releaseAtCompletion.queue = s.queue ∧ s.releaseAtCompletion.strain = s.strain
      ∧ s.releaseAtCompletion.seq = s.seq ∧ s.releaseAtCompletion.arbiter = s.arbiter.released
      ∧ s.releaseAtCompletion.drive =
        if s.arbiter.holder = some .sequencer then (s.dropHolder .released).drive else s.drive := by
  by_cases held : s.arbiter.holder = some .sequencer
  · have granted := (s.dropHolder .released).grantFront_frame_of_not_armed (by simpa using h)
    simp [State.releaseAtCompletion, Arbiter.released, held, granted]
  · by_cases free : s.arbiter.holder = none
    · simp [State.releaseAtCompletion, Arbiter.released, free, s.grantFront_frame_of_not_armed h]
    · simp [State.releaseAtCompletion, Arbiter.released, held, free]

/-- The release at a completion, taken in IDLE. -/
theorem State.releaseAtCompletion_changes (test : s.seq.state.inTest = false) :
    Changes s s.releaseAtCompletion := by
  have release (t : State) (ht : t.seq.state.inTest = false) :
      Changes t (if t.arbiter.holder = none then t.grantFront else t) := by
    split
    next free => exact t.grantFront_changes free ht
    next => exact .refl
  unfold State.releaseAtCompletion
  split
  next => exact .head (.dropHolder s _) (release _ (by simpa using test))
  next => exact release s test

/-- To what the laws look at, the release at a completion comes as well after the test is over as before. -/
theorem State.releaseAtCompletion_testFiled_aside (r : ResultRecord) (state : s.seq.state = .ending) :
    let before := (s.fileRecord r).removeHead
    let released := before.releaseAtCompletion
    Aside (s.testFiled r).releaseAtCompletion
      { released with seq := { released.seq with state := .idle, openSeen := false, endingTimer := none }
        }.clearTest.noticeTestEnd := by
  intro before released
  have ending : before.seq.state = .ending := by
    simp only [before, State.removeHead]
    split <;> simp [state]
  obtain ⟨queue, strain, seq, arbiter, drive⟩ := before.releaseAtCompletion_frame_of_not_armed (by simp [ending])
  obtain ⟨queue', strain', seq', arbiter', drive'⟩ :=
    (s.testFiled r).releaseAtCompletion_frame_of_not_armed (by simp [State.testFiled, State.clearTest])
  have drives : (s.testFiled r).drive = before.drive := rfl
  have arbiters : (s.testFiled r).arbiter = before.arbiter := rfl
  rw [drives, arbiters, State.dropHolder_drive_congr drives, ← drive] at drive'
  constructor <;>
    simp [released, State.noticeTestEnd, State.clearTest, queue, strain, seq, arbiter, queue', strain', seq',
      arbiter', drive'] <;> rfl

/-- The completion of a test: to what the laws look at, the record is filed and the test over before the arbiter
grants on. -/
theorem State.completeTest_changes (state : s.seq.state = .ending) : Changes s s.completeTest := by
  unfold State.completeTest
  split
  next e outcome head _ =>
    let r := s.assembleRecord e outcome s.seq.cause s.seq.note
    have filed : Changes s (s.testFiled r).releaseAtCompletion :=
      .head (.complete s e r state head rfl) (State.releaseAtCompletion_changes _ rfl)
    exact (filed.aside (s.releaseAtCompletion_testFiled_aside r state)).trans (State.examineHead_changes _)
  next => exact .refl

theorem State.testEnding_changes : Changes s s.testEnding := by
  unfold State.testEnding
  split
  next h =>
    simp only [State.endingSettled, Bool.and_eq_true, beq_iff_eq] at h
    exact s.completeTest_changes h.1.1
  next => exact .refl

end

end Sys2Proof.Machine
end

section
/-! PROOFS. The events of the link, the drive, the speed meter, the frame inputs and the reset as sequences of
elementary changes. -/

namespace Sys2Proof.Machine

variable (s : State)

theorem State.addNoticeAll_aside (n : Notice) : Aside s (s.addNoticeAll n) := .of_blocks (by simp)

/-! ## The link reaches the sequencer (R37, R48) -/

theorem State.takeZero_aside : Aside s s.takeZero := by
  unfold State.takeZero
  split
  · constructor <;> rfl
  · exact .of_blocks (by simp)

theorem State.testAttach_changes : Changes s s.testAttach := by
  unfold State.testAttach
  split
  next attach =>
    split
    · exact .head (.aside s.takeZero_aside) (.single (.enterRun _ _ (by simpa using attach)))
    · split
      · refine .head (.aside ?_) (.single (.enterRun _ _ attach))
        constructor <;> rfl
      · exact .refl
  next => exact .refl

theorem State.linkChanged_changes : Changes s s.linkChanged :=
  s.testAttach_changes.trans (State.testEnding_changes _)

/-- A change of the link and of the notices alone. -/
theorem State.link_then_changes {t u : State} (h : t.queue = s.queue ∧ t.programs = s.programs
    ∧ t.results = s.results ∧ t.arbiter = s.arbiter ∧ t.drive = s.drive ∧ t.load = s.load ∧ t.strain = s.strain
    ∧ t.seq = s.seq ∧ t.eval = s.eval ∧ t.inputs = s.inputs ∧ t.config = s.config) (r : Changes t u) :
    Changes s u := .head (.aside (.of_blocks h)) r

theorem State.arriveReady_changes : Changes s s.arriveReady := by
  unfold State.arriveReady
  dsimp only
  split
  · refine s.link_then_changes (t := s.enterReady) (by simp) ?_
    exact (State.linkChanged_changes _).of_blocks (by simp)
  · exact (Aside.of_blocks (by simp)).changes

theorem State.arriveAsleep_changes : Changes s s.arriveAsleep := by
  unfold State.arriveAsleep
  dsimp only
  split
  · refine s.link_then_changes (t := s.enterAsleep) (by simp) ?_
    exact (State.linkChanged_changes _).of_blocks (by simp)
  · exact (Aside.of_blocks (by simp)).changes

/-! ## The events of the link -/

theorem State.armsConfirmedOpen_changes : Changes s s.armsConfirmedOpen :=
  .head (.aside (.link s _)) (State.arriveReady_changes _)

theorem State.armsOpened_changes : Changes s s.armsOpened :=
  .head (.aside (.link s _)) (State.arriveReady_changes _)

theorem State.statusActs_changes (found : LinkState) (slept : Bool) (arms : ArmsState) (fault : Octet) :
    Changes s (s.statusActs found slept arms fault) := by
  have lost : Changes s s.enterLost := (Aside.of_blocks (by simp)).changes
  unfold State.statusActs
  split
  case h_1 => exact .refl
  case h_2 => split; exacts [s.arriveAsleep_changes, .refl]
  case h_3 => split; exacts [s.armsConfirmedOpen_changes, .refl]
  case h_4 => split; exacts [s.armsConfirmedOpen_changes, .refl]
  case h_5 =>
    split
    · exact lost
    · split; exacts [(Aside.of_blocks (by simp)).changes, .refl]
  case h_6 => split; exacts [lost, .refl]
  case h_7 =>
    split
    · exact s.armsOpened_changes
    · split; exacts [lost, .refl]

theorem State.takeStatus_changes (arms : ArmsState) (fault : Octet) : Changes s (s.takeStatus arms fault) := by
  unfold State.takeStatus
  dsimp only
  refine s.link_then_changes ?_ (State.statusActs_changes _ _ _ _ _)
  simp

theorem State.takeReading_aside (r : Reading) : Aside s (s.takeReading r) := by
  have accept : Aside s (s.acceptReading r) := by
    constructor <;> simp [State.acceptReading, StrainUnit.renew] <;> split <;> rfl
  unfold State.takeReading
  split
  · exact .of_blocks (by simp)
  split
  · exact .of_blocks (by simp)
  split
  · exact .of_blocks (by simp)
  split
  · constructor <;> simp [State.enterStreaming, accept.source, accept.p0, accept.fPre]
  · exact accept

theorem State.sleepMissed_changes : Changes s s.sleepMissed := by
  unfold State.sleepMissed
  refine s.link_then_changes (t := s.enterLost) (by simp) ?_
  exact (State.linkChanged_changes _).of_blocks (by simp)

theorem State.commandMissed_changes (c : QueuedCommand) : Changes s (s.commandMissed c) := by
  unfold State.commandMissed
  split
  · exact (Aside.of_blocks (by simp)).changes
  · exact (Aside.link s _).changes
  · split
    · exact s.sleepMissed_changes
    · exact (Aside.of_blocks (by simp)).changes
  · exact (Aside.of_blocks (by simp)).changes

theorem State.lockTaken_changes (count : Nat) : Changes s (s.lockTaken count) := by
  unfold State.lockTaken
  dsimp only
  split
  · split
    · exact (Aside.link s _).changes
    · exact .head (.aside (.link s _)) (State.arriveReady_changes _)
  · exact (Aside.link s _).changes
  · exact (Aside.link s _).changes

/-! ## The events of the drive -/

theorem State.driveFault_changes (kind : DriveFaultKind) : Changes s (s.driveFault kind) := by
  let noted : State := { s.stopGenerator with drive := { s.stopGenerator.drive with
    lastFault := some ⟨kind, s.stopGenerator.drive.commanded, s.stopGenerator.drive.encoder⟩ } }
  have note : Changes s noted := by
    refine .head (.stop s) (Aside.changes ?_)
    constructor <;> rfl
  have fault : Changes s { noted with drive := match kind with
      | .followingError => noted.drive.takeUp
      | .overspeed => noted.drive } := by
    cases kind
    · exact note.tail (.takeUp noted)
    · exact note
  unfold State.driveFault
  exact (fault.aside (State.endMove_aside _ _)).trans <| (State.revokeHolder_changes _ _ _).trans <|
    (State.grantIfFree_changes _).trans (State.testEnding_changes _)

theorem State.judgeFollowing_changes : Changes s s.judgeFollowing := by
  unfold State.judgeFollowing
  split
  · exact s.driveFault_changes _
  · exact .refl

theorem State.limitStop_changes : Changes s s.limitStop := by
  have stopped : Changes s (s.stopGenerator.endMove (some .limit)) :=
    .head (.stop s) (State.endMove_aside _ _).changes
  unfold State.limitStop
  dsimp only
  split
  · exact stopped.trans ((State.reportFault_changes _ _).trans (State.testEnding_changes _))
  · exact stopped

theorem State.nextPeriod_aside (g : Period) (running : s.drive.generator.isSome = true) :
    Aside s (s.nextPeriod g) := by
  constructor <;> simp [State.nextPeriod, running]

theorem State.periodEnd_changes : Changes s s.periodEnd := by
  unfold State.periodEnd
  split
  next => exact .refl
  next g running =>
    split
    · exact s.settleMove_changes
    split
    · exact s.limitStop_changes
    next within =>
      refine .head (.pulse s g.direction (by simpa using within)) ?_
      dsimp only
      split
      · exact State.driveFault_changes _ _
      split
      · exact State.settleMove_changes _
      · exact (State.nextPeriod_aside _ g (by simp [State.pulse, running])).changes

/-! ## The events of the speed meter -/

theorem State.reportOverspeed_changes : Changes s s.reportOverspeed := by
  unfold State.reportOverspeed
  split
  · exact .head (.aside (.meter s _)) (State.driveFault_changes _ _)
  · exact .refl

theorem State.restChanged_changes (before : Bool) : Changes s (s.restChanged before) := by
  unfold State.restChanged
  split
  · exact .refl
  · exact .head (.aside s.completeSettledMove_aside) (State.testEnding_changes _)

theorem State.completeMeasurement_changes (l : LastMeasurement) (v : Int) (method : MeterMethod)
    (next : Measurement) : Changes s (s.completeMeasurement l v method next) :=
  .head (.aside (.meter s _)) ((State.restChanged_changes _ _).trans (State.reportOverspeed_changes _))

theorem State.gateBoundary_changes : Changes s s.gateBoundary := by
  unfold State.gateBoundary
  dsimp only
  split
  · split
    · split
      · exact s.completeMeasurement_changes _ _ _ _
      · exact s.completeMeasurement_changes _ _ _ _
    · exact (Aside.meter s _).changes
  · exact (Aside.meter s _).changes
  · split; exacts [(Aside.meter s _).changes, .refl]
  · exact .refl

theorem State.completeInterval_changes (dir : Direction) : Changes s (s.completeInterval dir) := by
  unfold State.completeInterval
  dsimp only
  split
  · exact s.completeMeasurement_changes _ _ _ _
  · exact s.completeMeasurement_changes _ _ _ _

theorem State.meterCount_changes (dir : Direction) : Changes s (s.meterCount dir) := by
  unfold State.meterCount
  split
  · exact (Aside.meter s _).changes
  · exact (Aside.meter s _).changes
  · split; exacts [s.completeInterval_changes dir, (Aside.meter s _).changes]
  · exact .refl

theorem State.encoderEvent_changes (dir : Direction) : Changes s (s.encoderEvent dir) := by
  have counted : Aside s (s.countEncoder dir) := by constructor <;> rfl
  exact .head (.aside counted) ((State.meterCount_changes _ dir).trans (State.judgeFollowing_changes _))

theorem State.sampleChannels_changes (now : Channels) : Changes s (s.sampleChannels now) := by
  have sampled : Aside s { s with drive := { s.drive with channels := now } } := by constructor <;> rfl
  unfold State.sampleChannels
  dsimp only
  split
  · exact .head (.aside sampled) (State.encoderEvent_changes _ _)
  · exact sampled.changes

theorem State.intervalTimeout_changes : Changes s s.intervalTimeout := by
  unfold State.intervalTimeout
  split
  · exact .refl
  · split
    · exact s.completeMeasurement_changes _ _ _ _
    · exact s.completeMeasurement_changes _ _ _ _
    · exact .refl

/-! ## The frame inputs -/

/-- An aborted test enters ENDING, and the wait is tested (R45, R48). -/
theorem State.abort_changes (cause : Cause) (test : s.seq.state.underTest = true) :
    Changes s (s.enterEnding .aborted (some cause)).testEnding :=
  (s.enterEnding_changes _ _ test).trans (State.testEnding_changes _)

theorem State.enterHold_changes (run : s.seq.state = .run) : Changes s s.enterHold := by
  refine .head (.hold s .hold (.inl ⟨run, rfl⟩)) (.trans (Aside.changes ?_) (State.seqWrite_zero_changes _))
  constructor <;> rfl

theorem State.gripsOpened_changes (grips : s.inputs.grips = false) : Changes s s.gripsOpened := by
  unfold State.gripsOpened
  split
  case h_1 => exact .refl
  case h_2 => exact .single (.openSeen s grips)
  case h_3 state => exact s.abort_changes _ (by simp [state, SeqState.underTest])
  case h_4 state => exact s.abort_changes _ (by simp [state, SeqState.underTest])
  case h_5 state =>
    split
    · split
      · exact s.enterHold_changes state
      · exact s.abort_changes _ (by simp [state, SeqState.underTest])
    · exact .refl
  case h_6 => exact .refl
  case h_7 => exact (s.addNote_aside _).changes

theorem State.denyWaiting_arbiter : s.denyWaiting.arbiter = { s.arbiter with waiting := [] } := by
  unfold State.denyWaiting
  dsimp only
  split <;> split <;> simp

/-- The latch set on an accepted stop (R173). -/
theorem State.setLatch_changes :
    Changes s { s with inputs := { s.inputs with frameStop := true, frameStopFilter := none } }.setLatch := by
  let stopped : State := { s with inputs := { s.inputs with frameStop := true, frameStopFilter := none, latch := true } }
  have dropped := stopped.dropHolder_drive .frameStop
  have set : Aside { s with
      inputs := stopped.inputs
      arbiter := ⟨none, []⟩
      drive := { s.drive with generator := none, buffer := none, velocity := 0 } }
      ((stopped.dropHolder .frameStop).noticeRevoked s.arbiter.holder).denyWaiting := by
    constructor <;> simp [State.denyWaiting_arbiter, dropped] <;> rfl
  refine .head (.latchSet s) (.head (.aside set) (.trans (State.authorityLost_changes _ .frameStop) ?_))
  exact .head (.aside (State.addNoticeAll_aside _ _)) (State.testEnding_changes _)

/-! ## Controller reset (R190) -/

theorem State.controllerReset_changes : Changes s s.controllerReset := by
  refine .trans (.single (.reset s)) (.head (.aside (.of_blocks ?_)) (State.examineHead_changes _))
  simp [State.blocksReset]

end Sys2Proof.Machine
end

section
/-! PROOFS. A conversion slot as a sequence of elementary changes: its delivery, the load unit's reports, the sample
in the test, and the events at its end. -/

namespace Sys2Proof.Machine

variable (s : State)

/-! ## The load unit's part (R104, R110 to R121) -/

theorem State.failTare_changes : Changes s s.failTare := by
  unfold State.failTare
  split
  next => exact .refl
  next w tare => exact Changes.of_blocks (.single (.load s (s.load.endTare w) (.inr (by simp [tare])))) (by simp)

theorem State.advanceTare_changes : Changes s s.advanceTare := by
  unfold State.advanceTare
  split
  next => exact .refl
  next w tare =>
    have walked (l : LoadUnit) : Changes s { s with load := l } := .single (.load s l (.inr (by simp [tare])))
    split
    · exact .refl
    · split
      · exact walked _
      · exact walked _
      · exact walked _
      · exact (walked (s.load.commitTare w)).of_blocks (by simp)

theorem State.checkReference_changes (r : Int) : Changes s (s.checkReference r) := by
  have fault (b : Bool) : Aside s { s with load := { s.load with referenceFault := b } } := by constructor <;> rfl
  unfold State.checkReference
  split
  next => exact .refl
  next =>
    dsimp only
    split
    · refine .head (.aside (fault true)) (.trans ?_ (State.failTare_changes _))
      split
      · exact State.reportFault_changes _ _
      · exact .refl
    · exact (fault false).changes

theorem widerRange_le (k : Fin 4) : widerRange k ≤ k := by
  match k with
  | 0 | 1 | 2 | 3 => decide

theorem State.overrangeActs_changes : Changes s s.overrangeActs := by
  unfold State.overrangeActs
  split
  · split
    · exact s.reportFault_changes _
    · refine .head (.widen s _ (widerRange_le _)) (Aside.changes ?_)
      constructor <;> rfl
  · exact .refl

theorem State.tareSlot_changes (w : TareWalk) (r : Int) (tare : s.load.tare.isSome = true) :
    Changes { s with load := s.load.deliverHeld } (s.tareSlot w r) := by
  unfold State.tareSlot
  dsimp only
  split
  · exact State.failTare_changes _
  · exact .head (.load _ _ (.inr (by simpa [LoadUnit.deliverHeld] using tare))) (State.advanceTare_changes _)

/-- The load unit's part of a slot: a delivery that leaves the tare and the range, and then elementary changes. -/
theorem State.loadSlot_changes (r : Int) :
    ∃ l : LoadUnit, l.tare = s.load.tare ∧ l.activeRange = s.load.activeRange
      ∧ Changes { s with load := l } (s.loadSlot r) := by
  unfold State.loadSlot
  dsimp only
  split
  · exact ⟨s.load.beginSlot.deliverHeld, rfl, rfl, State.checkReference_changes _ r⟩
  · exact ⟨s.load.beginSlot.deliverHeld, rfl, rfl, .refl⟩
  · split
    next w tare =>
      exact ⟨s.load.beginSlot.deliverHeld, rfl, rfl,
        State.tareSlot_changes { s with load := s.load.beginSlot } w r (by simp [tare])⟩
    next =>
      refine ⟨s.load.beginSlot.deliverConverted r, rfl, rfl, ?_⟩
      split
      · exact State.overrangeActs_changes _
      · exact .refl

/-! ## The evaluator's maximum (R83) -/

@[simp] theorem Evaluator.modulusStep_maximum (e : Evaluator) (b : ProgramBody) (x : StressStrain) :
    (e.modulusStep b x).maximum = e.maximum := by
  unfold Evaluator.modulusStep
  dsimp only
  split
  · split
    · split
      · simp only [Evaluator.settleSecant]; split <;> split <;> rfl
      · split <;> rfl
    · split <;> rfl
  · rfl

@[simp] theorem Evaluator.substitute_maximum (e : Evaluator) (b : ProgramBody) :
    (e.substitute b).maximum = e.maximum := by
  unfold Evaluator.substitute
  split <;> rfl

@[simp] theorem Evaluator.updatePeak_maximum (e : Evaluator) (x : StressStrain) :
    (e.updatePeak x).maximum = e.maximum := by
  unfold Evaluator.updatePeak
  split
  · rfl
  · split <;> rfl

@[simp] theorem Evaluator.yieldStep_maximum (e : Evaluator) (b : ProgramBody) (x : StressStrain) :
    (e.yieldStep b x).maximum = e.maximum := by
  have search : (e.searchStep b x).maximum = e.maximum := by
    unfold Evaluator.searchStep
    split
    · simp [Evaluator.raiseYieldEnd]
    · split
      · simp [Evaluator.openPlateau]
      · split <;> simp [Evaluator.raiseYieldEnd]
  have plateau : (e.plateauStep b x).maximum = e.maximum := by
    unfold Evaluator.plateauStep
    split
    · split <;> rfl
    · rfl
  unfold Evaluator.yieldStep
  split
  · exact search
  · split
    · exact plateau
    · rfl

/-- After a sample the maximum is the tracker's. -/
@[simp] theorem Evaluator.sample_maximum (e : Evaluator) (b : ProgramBody) (source : Option StrainSource)
    (x : TestSample) : (e.sample b source x).1.maximum = (e.track x).maximum := by
  unfold Evaluator.sample
  dsimp only
  split
  · rfl
  · split
    · rfl
    · split <;> simp [Evaluator.pushRing]

/-- The tracker's maximum is not less than the sample's force. -/
theorem Evaluator.track_covers (e : Evaluator) (x : TestSample) : ∃ m ∈ (e.track x).maximum, x.force ≤ m.force := by
  unfold Evaluator.track
  split
  next => exact ⟨x, rfl, le_rfl⟩
  next m h =>
    split
    next => exact ⟨x, rfl, le_rfl⟩
    next below => exact ⟨m, h, by omega⟩

/-- The tracker's maximum comes from the maximum before it. -/
theorem Evaluator.track_maximum_congr {e f : Evaluator} (h : e.maximum = f.maximum) (x : TestSample) :
    (e.track x).maximum = (f.track x).maximum := by
  simp only [Evaluator.track, h]
  split
  · rfl
  · split <;> simp [h]

/-! ## The sample in the test (R36 to R41) -/

/-- The sample of force `f` as the evaluator takes it from the strain and stress unit. -/
def State.sampleOf (f : Int) : TestSample :=
  let u := s.strain.compute f s.drive.encoder
  ⟨f, u.sigma.getD 0, u.epsilon.getD 0⟩

@[simp] theorem StrainUnit.compute_origins (u : StrainUnit) (force : Int) (p : Word32) :
    (u.compute force p).source = u.source ∧ (u.compute force p).p0 = u.p0 ∧ (u.compute force p).fPre = u.fPre := by
  unfold StrainUnit.compute
  split
  · exact ⟨rfl, rfl, rfl⟩
  · exact ⟨rfl, rfl, rfl⟩

/-- What the laws see of a computed sample. -/
theorem State.measure_aside (b : ProgramBody) (f : Int) :
    Aside { s with eval := s.eval.track (s.sampleOf f) } (s.measure b f).1 := by
  have maximum : (s.measure b f).1.eval.maximum = (s.eval.track (s.sampleOf f)).maximum :=
    Evaluator.sample_maximum _ _ _ _
  constructor
  case maximum => exact maximum
  all_goals simp [State.measure]

theorem State.measure_changes (b : ProgramBody) (f : Int) : Changes s (s.measure b f).1 :=
  .head (.track s _) (s.measure_aside b f).changes

theorem State.handOff_changes (source : s.strain.source = some .extensometer) : Changes s s.handOff := by
  have released (t : State) : Aside t { t with seq := { t.seq with releaseSeen := true } } := by
    constructor <;> rfl
  unfold State.handOff StrainUnit.handOff
  split
  · refine .head (.handOff s source) (Aside.changes ?_)
    constructor <;> rfl
  · exact (released s).changes

theorem State.extensometerStep_changes (b : ProgramBody) (f : Int) : Changes s (s.extensometerStep b f) := by
  unfold State.extensometerStep
  split
  next source =>
    have off := s.handOff_changes source
    split
    · refine off.aside ?_
      constructor <;> rfl
    split
    · refine off.aside ?_
      constructor <;> simp
    split
    · exact off.of_blocks (by simp)
    · exact .refl
  next => exact .refl

theorem State.endEventStep_aside : Aside s s.endEventStep := by
  unfold State.endEventStep
  split
  · split
    · constructor <;> rfl
    · exact .of_blocks (by simp)
  · exact .of_blocks (by simp)

theorem clampInt_nonneg (hi x : Int) (h : 0 ≤ hi) : 0 ≤ clampInt 0 hi x := by
  rw [clampInt_eq_max_min h]
  exact le_max_left _ _

theorem State.commandStep_changes : Changes s s.commandStep := by
  unfold State.commandStep
  split
  · split
    · exact .head (.aside (.rate s _)) (.single (.write _ _ fun opens => clampInt_nonneg _ _ opens.1))
    · exact .refl
  · exact s.seqWrite_zero_changes

theorem State.judge_changes (b : ProgramBody) (f : Int) (fractured : Bool) (test : s.seq.state.underTest = true) :
    Changes s (s.judge b f fractured) := by
  unfold State.judge
  split
  · exact s.enterEnding_changes _ _ test
  · exact (s.extensometerStep_changes b f).trans
      (.head (.aside (State.endEventStep_aside _)) (State.commandStep_changes _))

theorem State.runSample_changes (b : ProgramBody) (f : Int) (test : s.seq.state.underTest = true) :
    Changes (s.measure b f).1 (s.runSample b f) :=
  State.judge_changes _ b f _ test

theorem State.attachSample_changes (b : ProgramBody) (f : Int) (test : s.seq.state.underTest = true) :
    Changes (s.measure b f).1 (s.attachSample b f) := by
  unfold State.attachSample
  dsimp only
  split
  · exact State.enterEnding_changes _ _ _ test
  · exact State.seqWrite_zero_changes _

/-- The approach speed opens where the configuration does: the head's program is one of the configuration's. -/
theorem State.approach_opens (b : ProgramBody) (program : s.headProgram = some b) (opens : s.configItems.opens) :
    0 ≤ min b.approach s.drive.config.vmax := by
  obtain ⟨vmax, programs⟩ := opens
  simp only [State.headProgram, State.programAt, Option.bind_eq_some_iff] at program
  obtain ⟨e, -, p, slot, body⟩ := program
  have approach : 0 ≤ b.approach := by
    refine programs b ?_
    simp only [State.configItems, List.mem_filterMap, List.mem_map, id]
    exact ⟨some b, ⟨p, List.mem_of_getElem? slot, body⟩, rfl⟩
  have : 0 ≤ s.drive.config.vmax := vmax
  omega

theorem State.approachSample_changes (b : ProgramBody) (program : s.headProgram = some b)
    (test : s.seq.state.underTest = true) : Changes s (s.approachSample b) := by
  unfold State.approachSample
  split
  · exact s.enterEnding_changes _ _ test
  · exact .single (.write s _ (s.approach_opens b program))

/-- A tracked sample of the latest force covers it. -/
theorem State.tracked_covers (x : TestSample) (force : s.load.last.force = some x.force) :
    ∃ m ∈ (s.eval.track x).maximum, ∀ g ∈ s.load.last.force, g ≤ m.force := by
  obtain ⟨m, hm, le⟩ := s.eval.track_covers x
  refine ⟨m, hm, fun g hg => ?_⟩
  rw [force, Option.mem_some_iff] at hg
  omega

theorem State.requestAttach_aside (owner : CommandOwner) : Aside s (s.requestAttach owner) := .of_blocks (by simp)

/-- What follows the change of state on the entry to ATTACH (R37). -/
theorem State.enterAttach_changes : Changes { s with seq := { s.seq with state := .attach } } s.enterAttach :=
  .trans (State.seqWrite_zero_changes _) (.head (.aside (State.requestAttach_aside _ _)) (State.testAttach_changes _))

theorem State.reachPreload_changes (b : ProgramBody) (f : Int) (preload : s.seq.state = .preload)
    (force : s.load.last.force = some f) : Changes s (s.reachPreload b f) := by
  let origins : State := { s with strain := s.strain.setOrigins f s.drive.encoder, eval := s.eval.begin b }
  have begun (x : TestSample) : ((s.eval.begin b).track x).maximum = (s.eval.track x).maximum :=
    Evaluator.track_maximum_congr (e := s.eval.begin b) (f := s.eval) rfl x
  unfold State.reachPreload
  dsimp only
  split
  · let run := origins.enterRun .crosshead
    have reach : Changes s (run.measure b f).1 := by
      refine .head (.track s (run.sampleOf f)) (.head (.reach _ s.drive.encoder f .run (some .crosshead) preload
        (s.tracked_covers (run.sampleOf f) force) (.inl ⟨rfl, rfl⟩)) (.single (.aside ?_)))
      have measured := run.measure_aside b f
      constructor
      case maximum => exact measured.maximum.trans (begun _)
      all_goals simp [State.measure, run, origins, State.enterRun, StrainUnit.setOrigins]
    exact reach.trans (run.runSample_changes b f rfl)
  · let attach : State := { (origins.measure b f).1 with seq := { (origins.measure b f).1.seq with state := .attach } }
    have reach : Changes s attach := by
      refine .head (.track s (origins.sampleOf f)) (.head (.reach _ s.drive.encoder f .attach s.strain.source preload
        (s.tracked_covers (origins.sampleOf f) force) (.inr ⟨rfl, rfl⟩)) (.single (.aside ?_)))
      have measured := origins.measure_aside b f
      constructor
      case maximum => exact measured.maximum.trans (begun _)
      all_goals simp [attach, State.measure, origins, StrainUnit.setOrigins]
    exact reach.trans (State.enterAttach_changes _)

theorem State.preloadSample_changes (b : ProgramBody) (f : Int) (preload : s.seq.state = .preload)
    (force : s.load.last.force = some f) (program : s.headProgram = some b) : Changes s (s.preloadSample b f) := by
  unfold State.preloadSample
  split
  · exact s.reachPreload_changes b f preload force
  · exact s.approachSample_changes b program (by simp [preload, SeqState.underTest])

/-- The state in which the sample of the test has been measured: from ATTACH to HOLD, and in ENDING once preload was
reached. -/
def State.measured : State :=
  match s.load.last.force, s.headProgram with
  | some f, some b =>
    if s.seq.state ∈ [SeqState.attach, .run, .hold] ∨ (s.seq.state = .ending ∧ s.strain.p0.isSome = true) then
      (s.measure b f).1
    else s
  | _, _ => s

theorem State.measured_changes : Changes s s.measured := by
  unfold State.measured
  split
  · split
    · exact s.measure_changes _ _
    · exact .refl
  · exact .refl

theorem State.absentSample_changes (b : ProgramBody) (program : s.headProgram = some b) :
    Changes s (s.absentSample b) := by
  unfold State.absentSample
  split
  case h_1 preload => exact s.approachSample_changes b program (by simp [preload, SeqState.underTest])
  case h_2 | h_3 | h_4 => exact s.seqWrite_zero_changes
  case h_5 | h_6 | h_7 => exact .refl

/-- The sample in the test: it is measured, and elementary changes follow. -/
theorem State.sampleTest_changes : Changes s.measured s.sampleTest := by
  unfold State.sampleTest
  split
  next armed =>
    have : s.measured = s := by
      unfold State.measured; split <;> simp [armed]
    rw [this]
    exact s.seqWrite_zero_changes
  next f b preload force program =>
    have : s.measured = s := by simp [State.measured, force, program, preload]
    rw [this]
    exact s.preloadSample_changes b f preload force program
  next f b attach force program =>
    have : s.measured = (s.measure b f).1 := by simp [State.measured, force, program, attach]
    rw [this]
    exact s.attachSample_changes b f (by simp [attach, SeqState.underTest])
  next f b run force program =>
    have : s.measured = (s.measure b f).1 := by simp [State.measured, force, program, run]
    rw [this]
    exact s.runSample_changes b f (by simp [run, SeqState.underTest])
  next f b hold force program =>
    have : s.measured = (s.measure b f).1 := by simp [State.measured, force, program, hold]
    rw [this]
    exact s.runSample_changes b f (by simp [hold, SeqState.underTest])
  next f b ending force program =>
    have : s.measured = if s.strain.p0.isSome then (s.measure b f).1 else s := by
      simp [State.measured, force, program, ending]
    rw [this]
    exact State.seqWrite_zero_changes _
  next b force program _ =>
    have : s.measured = s := by simp [State.measured, force]
    rw [this]
    exact s.absentSample_changes b program
  next attach run hold ending =>
    have : s.measured = s := by
      unfold State.measured
      split
      next f b force program =>
        have elsewhere : ¬ (s.seq.state ∈ [SeqState.attach, .run, .hold] ∨ s.seq.state = .ending ∧ s.strain.p0.isSome) := by
          simp only [List.mem_cons, List.not_mem_nil, or_false]
          rintro ((h | h | h) | ⟨h, -⟩)
          exacts [attach f b h force program, run f b h force program, hold f b h force program,
            ending f b h force program]
        rw [if_neg elsewhere]
      next => rfl
    rw [this]

/-! ## The whole slot -/

theorem State.countDuration_aside : Aside s s.countDuration := by
  unfold State.countDuration
  split
  · constructor <;> rfl
  · exact .of_blocks (by simp)

theorem State.afterLoadEvent_changes (before : LoadUnit) : Changes s (s.afterLoadEvent before) := by
  unfold State.afterLoadEvent
  split
  · exact s.examineHead_changes.trans (State.testGripsStart_changes _)
  · exact .refl

/-- The counts of a delivery, and then the delivery (R133). -/
theorem State.counted_delivered_aside (l : LoadUnit) :
    Aside { s with load := l } { s.countDuration.countStaleness with load := l } := by
  have counted := s.countDuration_aside
  constructor <;> simp [counted.state, counted.openSeen]

end Sys2Proof.Machine
end

section
/-! PROOFS. Every command, and every step, as at most one first change and elementary changes after it. -/

namespace Sys2Proof.Machine

/-- What a step makes: at most one first change that leaves the load unit, and elementary changes; or a conversion slot,
with its delivery, the load unit's reports, the measuring of the sample, and elementary changes. -/
inductive StepChanges (s t : State) : Prop where
  | plain (u : State) (first : FirstChange s u) (load : u.load = s.load) (changes : Changes u t)
  | slot (l : LoadUnit) (v : State) (tare : l.tare = s.load.tare) (range : l.activeRange = s.load.activeRange)
    (loaded : Changes { s with load := l } v) (after : Changes v.measured t)

theorem Changes.step {s t : State} (h : Changes s t) : StepChanges s t := .plain s (.none s) rfl h

/-- A step makes at most one first change, and elementary changes after it. -/
theorem StepChanges.first {s t : State} (h : StepChanges s t) : ∃ u, FirstChange s u ∧ Changes u t := by
  cases h with
  | plain u first load changes => exact ⟨u, first, changes⟩
  | slot l v tare range loaded after =>
    exact ⟨_, .delivery s l tare range, loaded.trans (v.measured_changes.trans after)⟩

section
variable (s : State)

/-! ## Replies -/

theorem State.answerKind_aside (p : Role) (k : Octet) (st : Status) (body : List Octet) :
    Aside s (s.answerKind p k st body) := .of_blocks (by simp)

theorem State.answerKind_changes (p : Role) (k : Octet) (st : Status) (body : List Octet) :
    Changes s (s.answerKind p k st body) := (s.answerKind_aside p k st body).changes

/-- A reply at the end of a sequence. -/
theorem Changes.answered {s t : State} (h : Changes s t) (p : Role) (k : RequestKind) (st : Status)
    (body : List Octet) : Changes s (t.answer p k st body) := h.aside (t.answerKind_aside p k.code st body)

theorem State.endTransaction_aside (p : Role) : Aside s (s.endTransaction p) := .of_blocks (by simp)

theorem State.whenTaken_stepChanges (p : Role) (act : State → State) (h : StepChanges s (act s)) :
    StepChanges s (s.whenTaken p act) := by
  unfold State.whenTaken
  split
  · exact Changes.step .refl
  split
  · exact h
  · exact (s.endTransaction_aside p).changes.step

theorem State.request_stepChanges (p : Role) (k : RequestKind) (own : State → State) (h : StepChanges s (own s)) :
    StepChanges s (s.request p k own) := by
  refine s.whenTaken_stepChanges p _ ?_
  split
  · exact h
  · exact (s.answerKind_changes _ _ _ _).step

theorem State.request_changes (p : Role) (k : RequestKind) (own : State → State) (h : Changes s (own s)) :
    StepChanges s (s.request p k own) := s.request_stepChanges p k own h.step

theorem State.sizedRequest_changes (p : Role) (k : RequestKind) (n : Nat) (own : State → State)
    (h : Changes s (own s)) : StepChanges s (s.sizedRequest p k n own) := by
  refine s.request_changes p k _ ?_
  split
  · exact h
  · exact s.answerKind_changes _ _ _ _

theorem State.whenRunning_stepChanges (act : State → State) (h : StepChanges s (act s)) :
    StepChanges s (s.whenRunning act) := by
  unfold State.whenRunning
  split
  · exact h
  · exact Changes.step .refl

theorem State.whenRunning_changes (act : State → State) (h : Changes s (act s)) :
    StepChanges s (s.whenRunning act) := s.whenRunning_stepChanges act h.step

end

/-! ## The requests of the ports and of the store -/

section
variable {s t : State} (p : Role)

theorem execGetNotices_changes (h : execGetNotices p s = .next t) : StepChanges s t := by
  obtain rfl := Host.Outcome.next.inj h
  exact s.request_changes _ _ _ (Aside.of_blocks (by simp)).changes

theorem State.forgetRequest_changes (s : State) : Changes s (s.forgetRequest p) :=
  .single (.leave s fun q => partyOf p != some q)

theorem State.revokePort_changes (s : State) : Changes s (s.revokePort p) := by
  unfold State.revokePort
  split
  · refine .head (.dropHolder s .released) (.trans (Aside.changes ?_) (State.grantIfFree_changes _))
    exact .of_blocks (by simp)
  · exact .refl

theorem execLinkReset_changes (h : execLinkReset p s = .next t) : StepChanges s t := by
  obtain rfl := Host.Outcome.next.inj h
  refine s.request_changes _ _ _ (.trans (b := s.onPort p fun q => { q with notices := 0 }) ?_ ?_)
  · exact (Aside.of_blocks (by simp)).changes
  · exact Changes.answered ((State.forgetRequest_changes p _).trans (State.revokePort_changes p _)) p _ _ _

theorem execResetController_changes (h : execResetController p s = .next t) : StepChanges s t := by
  obtain rfl := Host.Outcome.next.inj h
  exact s.request_changes _ _ _ ((s.answerKind_changes _ _ _ _).trans (State.controllerReset_changes _))

theorem execStoreConfig_changes (h : execStoreConfig p s = .next t) : StepChanges s t := by
  obtain rfl := Host.Outcome.next.inj h
  refine s.request_changes _ _ _ ?_
  dsimp only
  split
  · exact s.answerKind_changes _ _ _ _
  split
  · exact s.answerKind_changes _ _ _ _
  · exact Changes.answered (.single (.store s)) p _ _ _

theorem execMalformedRequest_changes (octets : List Octet) (h : execMalformedRequest p octets s = .next t) :
    StepChanges s t := by
  obtain rfl := Host.Outcome.next.inj h
  refine s.whenTaken_stepChanges _ _ (Changes.step ?_)
  dsimp only
  split
  · exact (s.endTransaction_aside p).changes
  split
  · exact s.answerKind_changes _ _ _ _
  · exact .refl

theorem execTransactionBegin_changes (h : execTransactionBegin p s = .next t) : StepChanges s t := by
  obtain rfl := Host.Outcome.next.inj h
  refine Changes.step ?_
  split
  · exact .refl
  · exact (Aside.ports s _).changes

theorem execTransactionWithoutRequest_changes (h : execTransactionWithoutRequest p s = .next t) :
    StepChanges s t := by
  obtain rfl := Host.Outcome.next.inj h
  refine Changes.step ?_
  split
  · exact .refl
  · exact (s.endTransaction_aside p).changes

/-! ## The requests of the queue, the programs and the results -/

/-- What an ENQUEUE that passes its checks has shown of the queue, the ID and the slot. -/
theorem State.enqueueCheck_ok {id : List Octet} {slot shape : Octet} {width thickness diameter parallel gauge : Int}
    {sh : Shape} (h : s.enqueueCheck id slot shape width thickness diameter parallel gauge = .ok sh) :
    s.queue.length < Config.queueSize ∧ s.idStands id = false ∧ (s.programAt slot.toNat).isSome = true := by
  unfold State.enqueueCheck at h
  split at h
  · cases h
  next room =>
    split at h
    · cases h
    split at h
    · cases h
    next new =>
      split at h
      · cases h
      split at h
      · cases h
      next b valid => exact ⟨not_le.mp room, by simpa using new, by simp [valid]⟩

theorem execEnqueue_changes (id : List Octet) (slot shape : Octet)
    (width thickness diameter parallel gauge : Word32)
    (h : execEnqueue p id slot shape width thickness diameter parallel gauge s = .next t) : StepChanges s t := by
  obtain rfl := Host.Outcome.next.inj h
  refine s.sizedRequest_changes _ _ _ _ ?_
  dsimp only
  split
  next => exact s.answerKind_changes _ _ _ _
  next sh passed =>
    obtain ⟨room, new, valid⟩ := State.enqueueCheck_ok passed
    exact (Changes.answered (.single (.enqueue s _ room new valid rfl)) p _ _ _).trans (State.examineHead_changes _)

theorem execWithdraw_changes (id : List Octet) (h : execWithdraw p id s = .next t) : StepChanges s t := by
  obtain rfl := Host.Outcome.next.inj h
  refine s.sizedRequest_changes _ _ _ _ ?_
  dsimp only
  split
  next => exact s.answerKind_changes _ _ _ _
  next e found =>
    split
    next => exact s.answerKind_changes _ _ _ _
    next state =>
      obtain rfl : e.id = id := by simpa using List.find?_some found
      refine .head (.withdraw s e found (by simpa using state)) (.trans ?_ (State.examineHead_changes _))
      refine Changes.answered (Aside.changes (.of_blocks ?_)) p _ _ _
      split <;> simp

/-- What a slot that is not blocked lets in: the slot is not in use. -/
theorem State.slotBlocked_eq_none {slot : Octet} (h : s.slotBlocked slot = none) : s.inUseOf slot.toNat = 0 := by
  unfold State.slotBlocked at h
  split at h
  · cases h
  split at h
  · cases h
  split at h
  · cases h
  next unused => simpa using unused

/-- Checks without a failing index all pass. -/
theorem lowestFailing_eq_none_iff (checks : List (Nat × Bool)) :
    lowestFailing checks = none ↔ ∀ c ∈ checks, c.2 = true := by
  induction checks with
  | nil => simp [lowestFailing]
  | cons c rest ih =>
    obtain ⟨i, passes⟩ := c
    cases passes <;> simp [lowestFailing, ih]

/-- A program body that passes its checks has no closing approach speed (R12, index 5). -/
theorem programOfOctets_approach_nonneg {tables : PerRange (Option RangeTable)} {b : List Octet}
    (passed : programFailure tables b = none) : 0 ≤ (programOfOctets b).approach := by
  have general : lowestFailing (generalChecks tables b) = none := by
    unfold programFailure at passed
    dsimp only at passed
    split at passed
    · cases passed
    · assumption
  have speed := (lowestFailing_eq_none_iff _).mp general (5, within 1000 1000000 (field4 b 4))
    (by simp [generalChecks])
  simp only [within, Bool.and_eq_true, decide_eq_true_eq] at speed
  exact le_trans (by decide) speed.1

theorem execWriteProgram_changes (body : List Octet) (h : execWriteProgram p body s = .next t) : StepChanges s t := by
  obtain rfl := Host.Outcome.next.inj h
  refine s.sizedRequest_changes _ _ _ _ ?_
  split
  next => exact s.answerKind_changes _ _ _ _
  next free =>
    split
    next => exact s.answerKind_changes _ _ _ _
    next passed =>
      refine Changes.answered (.single (.program s _ _ (State.slotBlocked_eq_none free) ?_)) p _ _ _
      simpa using programOfOctets_approach_nonneg passed

theorem execClearProgram_changes (slot : Octet) (h : execClearProgram p slot s = .next t) : StepChanges s t := by
  obtain rfl := Host.Outcome.next.inj h
  refine s.request_changes _ _ _ ?_
  split
  next => exact s.answerKind_changes _ _ _ _
  next free =>
    exact Changes.answered (.single (.program s _ none (State.slotBlocked_eq_none free) (by simp))) p _ _ _

theorem execReadProgram_changes (slot : Octet) (h : execReadProgram p slot s = .next t) : StepChanges s t := by
  obtain rfl := Host.Outcome.next.inj h
  refine s.request_changes _ _ _ ?_
  split
  · exact s.answerKind_changes _ _ _ _
  · split <;> exact s.answerKind_changes _ _ _ _

theorem execFetchResult_changes (h : execFetchResult p s = .next t) : StepChanges s t := by
  obtain rfl := Host.Outcome.next.inj h
  refine s.request_changes _ _ _ ?_
  split <;> exact s.answerKind_changes _ _ _ _

theorem execTakeResult_changes (id : List Octet) (h : execTakeResult p id s = .next t) : StepChanges s t := by
  obtain rfl := Host.Outcome.next.inj h
  refine s.sizedRequest_changes _ _ _ _ ?_
  dsimp only
  split
  next => exact s.answerKind_changes _ _ _ _
  next records freed taken =>
    have took := Changes.answered (.single (.records s p id records freed taken)) p .takeResult .ok (flag1 freed)
    split
    · exact took.trans (State.examineHead_changes _)
    · exact took

theorem execSetResultReaders_changes (readers : Octet) (h : execSetResultReaders p readers s = .next t) :
    StepChanges s t := by
  obtain rfl := Host.Outcome.next.inj h
  refine s.request_changes _ _ _ ?_
  dsimp only
  split
  · exact s.answerKind_changes _ _ _ _
  split
  · exact s.answerKind_changes _ _ _ _
  · refine Changes.answered (Aside.changes ?_) p _ _ _
    constructor <;> rfl

/-! ## The requests of the sequencer -/

theorem execSetAutoArm_changes (setting : Octet) (h : execSetAutoArm p setting s = .next t) : StepChanges s t := by
  obtain rfl := Host.Outcome.next.inj h
  refine s.request_changes _ _ _ ?_
  dsimp only
  split
  · exact s.answerKind_changes _ _ _ _
  split
  · exact s.answerKind_changes _ _ _ _
  · refine .trans (Changes.answered (Aside.changes ?_) p _ _ _) (State.examineHead_changes _)
    constructor <;> rfl

theorem execArm_changes (h : execArm p s = .next t) : StepChanges s t := by
  obtain rfl := Host.Outcome.next.inj h
  refine s.request_changes _ _ _ ?_
  split
  next => exact s.answerKind_changes _ _ _ _
  next idle =>
    split
    next => exact s.answerKind_changes _ _ _ _
    next passed => exact (s.armHead_changes (by simpa using idle) passed).answered p _ _ _

theorem execDisarm_changes (h : execDisarm p s = .next t) : StepChanges s t := by
  obtain rfl := Host.Outcome.next.inj h
  refine s.request_changes _ _ _ ?_
  split
  next => exact s.answerKind_changes _ _ _ _
  next armed =>
    refine Changes.answered (.head (.disarm s (by simpa using armed)) ?_) p _ _ _
    exact (State.sequencerReleases_changes _).aside (State.pauseAutoArm_aside _)

theorem execStart_changes (h : execStart p s = .next t) : StepChanges s t := by
  obtain rfl := Host.Outcome.next.inj h
  refine s.request_stepChanges _ _ _ ?_
  split
  next => exact (s.answerKind_changes _ _ _ _).step
  next armed =>
    split
    next => exact (s.answerKind_changes _ _ _ _).step
    next tare =>
      split
      next => exact (s.answerKind_changes _ _ _ _).step
      next ready =>
        simp only [not_or, not_not] at ready armed
        exact .plain _ (.start s armed (by simpa using tare) ready.1) (by simp) (State.answerKind_changes _ _ _ _ _)

theorem execHold_changes (h : execHold p s = .next t) : StepChanges s t := by
  obtain rfl := Host.Outcome.next.inj h
  refine s.request_changes _ _ _ ?_
  split
  next => exact s.answerKind_changes _ _ _ _
  next run => exact (s.enterHold_changes (by simpa using run)).answered p _ _ _

theorem execResume_changes (h : execResume p s = .next t) : StepChanges s t := by
  obtain rfl := Host.Outcome.next.inj h
  refine s.request_changes _ _ _ ?_
  dsimp only
  split
  next => exact s.answerKind_changes _ _ _ _
  next hold =>
    simp only [not_or, not_not] at hold
    exact Changes.answered (.head (.hold s .run (.inr ⟨hold.1, rfl⟩)) (.single (.aside (.rate _ _)))) p _ _ _

theorem execAbort_changes (h : execAbort p s = .next t) : StepChanges s t := by
  obtain rfl := Host.Outcome.next.inj h
  refine s.request_changes _ _ _ ?_
  split
  next => exact s.answerKind_changes _ _ _ _
  next test => exact (s.abort_changes _ (by simpa using test)).answered p _ _ _

/-! ## The requests of the load unit, the strain and stress unit and the link -/

/-- Where the calibration may be written the sequencer is IDLE. -/
theorem State.calibrationBlocked_eq_none (h : s.calibrationBlocked = none) : s.seq.state = .idle := by
  unfold State.calibrationBlocked at h
  split at h
  · cases h
  next idle => simpa using idle

theorem execWriteCalibration_changes (body : List Octet) (h : execWriteCalibration p body s = .next t) :
    StepChanges s t := by
  obtain rfl := Host.Outcome.next.inj h
  refine s.sizedRequest_changes _ _ _ _ ?_
  dsimp only
  split
  next => exact s.answerKind_changes _ _ _ _
  next free =>
    have idle : s.seq.state.inTest = false := by rw [State.calibrationBlocked_eq_none free]; rfl
    split
    · exact s.answerKind_changes _ _ _ _
    · exact (Changes.answered (.single (.load s _ (.inl idle))) p _ _ _).trans (State.examineHead_changes _)

theorem execWriteReference_changes (expected tolerance : Word32)
    (h : execWriteReference p expected tolerance s = .next t) : StepChanges s t := by
  obtain rfl := Host.Outcome.next.inj h
  refine s.request_changes _ _ _ ?_
  dsimp only
  split
  next => exact s.answerKind_changes _ _ _ _
  next free =>
    have idle : s.seq.state.inTest = false := by rw [State.calibrationBlocked_eq_none free]; rfl
    split
    · exact s.answerKind_changes _ _ _ _
    split
    · exact s.answerKind_changes _ _ _ _
    · exact (Changes.answered (.single (.load s _ (.inl idle))) p _ _ _).trans (State.examineHead_changes _)

theorem execSetRange_changes (range : Octet) (h : execSetRange p range s = .next t) : StepChanges s t := by
  obtain rfl := Host.Outcome.next.inj h
  refine s.request_changes _ _ _ ?_
  split
  · exact s.answerKind_changes _ _ _ _
  split
  next => exact s.answerKind_changes _ _ _ _
  next idle =>
    split
    · exact s.answerKind_changes _ _ _ _
    · simp only [not_not] at idle
      exact Changes.answered (.single (.load s _ (.inl (by rw [idle]; rfl)))) p _ _ _

theorem execTare_changes (h : execTare p s = .next t) : StepChanges s t := by
  obtain rfl := Host.Outcome.next.inj h
  refine s.request_changes _ _ _ ?_
  split
  next => exact s.answerKind_changes _ _ _ _
  next state =>
    split
    · exact s.answerKind_changes _ _ _ _
    · have outside : s.seq.state.inTest = false := by
        rcases not_and_or.mp state with idle | armed
        · rw [not_not.mp idle]; rfl
        · rw [not_not.mp armed]; rfl
      exact Changes.answered (.single (.load s _ (.inl outside))) p _ _ _

theorem execWriteFrameConstants_changes (compliance datum : Word32)
    (h : execWriteFrameConstants p compliance datum s = .next t) : StepChanges s t := by
  obtain rfl := Host.Outcome.next.inj h
  refine s.request_changes _ _ _ ?_
  dsimp only
  split
  · exact s.answerKind_changes _ _ _ _
  split
  · exact s.answerKind_changes _ _ _ _
  split
  · exact s.answerKind_changes _ _ _ _
  · refine Changes.answered (Aside.changes ?_) p _ _ _
    constructor <;> rfl

theorem execExtAttach_changes (h : execExtAttach p s = .next t) : StepChanges s t := by
  obtain rfl := Host.Outcome.next.inj h
  refine s.request_changes _ _ _ ?_
  split
  · exact s.answerKind_changes _ _ _ _
  split
  · exact s.answerKind_changes _ _ _ _
  · exact Changes.answered (Aside.changes (.of_blocks (by simp))) p _ _ _

theorem execExtDetach_changes (h : execExtDetach p s = .next t) : StepChanges s t := by
  obtain rfl := Host.Outcome.next.inj h
  refine s.request_changes _ _ _ ?_
  split
  · exact s.answerKind_changes _ _ _ _
  split
  · exact s.answerKind_changes _ _ _ _
  · exact Changes.answered (Aside.changes (.of_blocks (by simp))) p _ _ _

/-! ## The requests of the arbiter and the drive -/

theorem execRequestAuthority_changes (h : execRequestAuthority p s = .next t) : StepChanges s t := by
  obtain rfl := Host.Outcome.next.inj h
  refine s.request_changes _ _ _ ?_
  dsimp only
  split
  next => exact s.answerKind_changes _ _ _ _
  next q _ =>
    split
    next => exact s.answerKind_changes _ _ _ _
    next latch =>
      rw [Bool.not_eq_true] at latch
      split
      next => exact s.answerKind_changes _ _ _ _
      next holder =>
        split
        next => exact s.answerKind_changes _ _ _ _
        next waiting =>
          split
          next free =>
            obtain ⟨free, back⟩ := free
            exact Changes.answered (.single (.take s q latch free waiting
              (by simpa [s.grantHeldBack_of_free free] using back))) p _ _ _
          next => exact Changes.answered (.single (.request s q latch holder waiting)) p _ _ _

theorem execReleaseAuthority_changes (h : execReleaseAuthority p s = .next t) : StepChanges s t := by
  obtain rfl := Host.Outcome.next.inj h
  refine s.request_changes _ _ _ ?_
  split
  · exact s.answerKind_changes _ _ _ _
  split
  · exact Changes.answered (.head (.dropHolder s _) (State.grantIfFree_changes _)) p _ _ _
  split
  · exact Changes.answered (.single (.leave s _)) p _ _ _
  · exact s.answerKind_changes _ _ _ _

/-- A port that holds is the holder, and not SEQUENCER. -/
theorem State.holder_of_portHolds (h : s.portHolds p = true) : ∃ q, s.arbiter.holder = some q ∧ q ≠ .sequencer := by
  cases p <;> simp_all [State.portHolds, partyOf]

/-- A move recorded for the holding port, with its velocity written. -/
theorem State.recordMove_write_changes (kind : MoveKind) (target : Word32) (speed : Int) (clamped : Bool) (v : Int)
    (holds : s.portHolds p = true) :
    Changes s ((s.recordMove p kind target speed clamped).writeVelocity .move v) := by
  obtain ⟨q, holder, port⟩ := State.holder_of_portHolds p holds
  exact (s.recordMove_aside p kind target speed clamped).changes.tail (.move _ q v (by simpa using holder) port)

theorem State.takeMove_changes (k : RequestKind) (kind : MoveKind) (raw speed : Int) (holds : s.portHolds p = true) :
    Changes s (s.takeMove p k kind raw speed) := by
  unfold State.takeMove
  dsimp only
  refine Changes.answered ?_ p _ _ _
  split
  · exact (s.recordMove_aside p kind _ _ _).changes.trans (State.settleMove_changes _)
  · exact State.recordMove_write_changes p kind _ _ _ _ holds

theorem execMoveTo_changes (target speed : Word32) (h : execMoveTo p target speed s = .next t) : StepChanges s t := by
  obtain rfl := Host.Outcome.next.inj h
  refine s.request_changes _ _ _ ?_
  split
  next => exact s.answerKind_changes _ _ _ _
  next holds =>
    split
    · exact s.answerKind_changes _ _ _ _
    split
    · exact s.answerKind_changes _ _ _ _
    · exact State.takeMove_changes p _ _ _ _ (by simpa using holds)

theorem execMoveBy_changes (distance speed : Word32) (h : execMoveBy p distance speed s = .next t) :
    StepChanges s t := by
  obtain rfl := Host.Outcome.next.inj h
  refine s.request_changes _ _ _ ?_
  split
  next => exact s.answerKind_changes _ _ _ _
  next holds =>
    split
    · exact s.answerKind_changes _ _ _ _
    · exact State.takeMove_changes p _ _ _ _ (by simpa using holds)

theorem State.takeJog_changes (direction : Direction) (speed : Int) (holds : s.portHolds p = true) :
    Changes s (s.takeJog p direction speed) := by
  have counted : Aside s { s with freeCount := s.freeCount + 1 } := .of_blocks (by simp)
  unfold State.takeJog
  exact Changes.answered (.head (.aside counted) (State.recordMove_write_changes p _ _ _ _ _ holds)) p _ _ _

theorem execJog_changes (direction : Octet) (speed : Word32) (h : execJog p direction speed s = .next t) :
    StepChanges s t := by
  obtain rfl := Host.Outcome.next.inj h
  refine s.request_changes _ _ _ ?_
  split
  next => exact s.answerKind_changes _ _ _ _
  next holds =>
    split
    · exact State.takeJog_changes p _ _ (by simpa using holds)
    · exact s.answerKind_changes _ _ _ _
    · exact s.answerKind_changes _ _ _ _

theorem execStopMove_changes (h : execStopMove p s = .next t) : StepChanges s t := by
  obtain rfl := Host.Outcome.next.inj h
  refine s.request_changes _ _ _ ?_
  split
  · exact s.answerKind_changes _ _ _ _
  · exact Changes.answered (.head (.stop s) (State.endMove_aside _ _).changes) p _ _ _

theorem execSetPosition_changes (position : Word32) (h : execSetPosition p position s = .next t) :
    StepChanges s t := by
  obtain rfl := Host.Outcome.next.inj h
  refine s.request_changes _ _ _ ?_
  dsimp only
  split
  · exact s.answerKind_changes _ _ _ _
  split
  · exact s.answerKind_changes _ _ _ _
  split
  next => exact s.answerKind_changes _ _ _ _
  next limits =>
    exact (Changes.answered (.single (.position s position (by simpa using limits))) p _ _ _).trans
      (State.examineHead_changes _)

theorem execWriteDriveConfig_changes (stepLength : Octet) (vmax jogLimit lower upper following : Word32)
    (h : execWriteDriveConfig p stepLength vmax jogLimit lower upper following s = .next t) : StepChanges s t := by
  obtain rfl := Host.Outcome.next.inj h
  refine s.request_changes _ _ _ ?_
  dsimp only
  split
  · exact s.answerKind_changes _ _ _ _
  split
  · exact s.answerKind_changes _ _ _ _
  split
  · exact s.answerKind_changes _ _ _ _
  split
  next => exact s.answerKind_changes _ _ _ _
  next => exact s.answerKind_changes _ _ _ _
  next fields limits => exact Changes.answered (.single (.driveConfig s _ fields limits)) p _ _ _

theorem execWriteSpeedConfig_changes (gate : Octet) (restSpeed : Word32)
    (h : execWriteSpeedConfig p gate restSpeed s = .next t) : StepChanges s t := by
  obtain rfl := Host.Outcome.next.inj h
  refine s.request_changes _ _ _ ?_
  dsimp only
  split
  · exact s.answerKind_changes _ _ _ _
  split
  · exact s.answerKind_changes _ _ _ _
  split
  · exact s.answerKind_changes _ _ _ _
  · exact Changes.answered (Aside.meter s _).changes p _ _ _

theorem execClearFrameStop_changes (h : execClearFrameStop p s = .next t) : StepChanges s t := by
  obtain rfl := Host.Outcome.next.inj h
  refine s.request_changes _ _ _ ?_
  dsimp only
  split
  next => exact s.answerKind_changes _ _ _ _
  next level =>
    split
    · refine .trans (Changes.answered (.head (.inputs s { s.inputs with latch := false } rfl ?_ ?_)
        (State.addNoticeAll_aside _ _).changes) p _ _ _) (State.examineHead_changes _)
      · exact fun active => absurd active level
      · simp
    · exact s.answerKind_changes _ _ _ _

end

end Sys2Proof.Machine
end

section
/-! PROOFS. The events, and every step as at most one first change and elementary changes after it. -/

namespace Sys2Proof.Machine

section
variable {s t : State}

/-! ## The supply and the configuration store -/

theorem execConfigImageLoadDone_changes (h : execConfigImageLoadDone s = .next t) : StepChanges s t := by
  obtain rfl := Host.Outcome.next.inj h
  refine Changes.step ?_
  split
  · split
    · exact .single (.started s _ _ (.inl rfl))
    · exact .single (.started s _ _ (.inr rfl))
  · exact .refl

theorem execConfigStoreCompletion_changes (readsBack : Bool) (h : execConfigStoreCompletion readsBack s = .next t) :
    StepChanges s t := by
  obtain rfl := Host.Outcome.next.inj h
  refine s.whenRunning_changes _ ?_
  split
  next => exact .refl
  next items inFlight =>
    split
    · exact Changes.of_blocks (.single (.stored s (.written items) inFlight)) (by simp)
    · exact Changes.of_blocks (.single (.stored s (.broken items) inFlight)) (by simp)

/-! ## The load unit, the sequencer and the frame inputs -/

theorem State.conversionSlot_changes (s : State) (r : Int) : StepChanges s (s.conversionSlot r) := by
  obtain ⟨l, tare, range, loaded⟩ := s.countDuration.countStaleness.loadSlot_changes r
  exact .slot l _ (by simpa using tare) (by simpa using range) (.head (.aside (s.counted_delivered_aside l)) loaded) <|
    (State.sampleTest_changes _).trans <| (State.linkChanged_changes _).trans (State.afterLoadEvent_changes _ _)

theorem execConversionSlot_changes (reading : Word24) (h : execConversionSlot reading s = .next t) :
    StepChanges s t := by
  obtain rfl := Host.Outcome.next.inj h
  have slot := s.conversionSlot_changes reading.toInt
  exact s.whenRunning_stepChanges _ slot

theorem execTareRangeComplete_changes (h : execTareRangeComplete s = .next t) : StepChanges s t := by
  obtain rfl := Host.Outcome.next.inj h
  refine s.whenRunning_changes _ ?_
  split
  · split
    · exact .refl
    · exact s.advanceTare_changes
  · exact .refl

theorem execTareCommit_changes (h : execTareCommit s = .next t) : StepChanges s t := by
  obtain rfl := Host.Outcome.next.inj h
  refine s.whenRunning_changes _ ?_
  split
  · split
    · exact s.advanceTare_changes.trans (State.afterLoadEvent_changes _ _)
    · exact .refl
  · exact .refl

theorem execEndingTimerExpiry_changes (h : execEndingTimerExpiry s = .next t) : StepChanges s t := by
  obtain rfl := Host.Outcome.next.inj h
  refine s.whenRunning_changes _ ?_
  split
  next ending =>
    have noted := s.addNote_aside .endingTimeout
    exact .head (.aside noted) (State.completeTest_changes _ (noted.state.trans ending))
  next => exact .refl

theorem execInputPinChange_changes (pin : InputPin) (level : Bool) (h : execInputPinChange pin level s = .next t) :
    StepChanges s t := by
  obtain rfl := Host.Outcome.next.inj h
  refine s.whenRunning_changes _ (Aside.changes ?_)
  dsimp only
  split
  · constructor <;> rfl
  · constructor <;> rfl

theorem execFrameStopAcceptedActive_changes (h : execFrameStopAcceptedActive s = .next t) : StepChanges s t := by
  obtain rfl := Host.Outcome.next.inj h
  refine s.whenRunning_changes _ ?_
  dsimp only
  split
  · split
    next latch =>
      exact .single (.inputs s { s.inputs with frameStop := true, frameStopFilter := none } rfl (fun _ => latch) id)
    next => exact s.setLatch_changes
  · exact .refl

theorem execFrameStopAcceptedInactive_changes (h : execFrameStopAcceptedInactive s = .next t) : StepChanges s t := by
  obtain rfl := Host.Outcome.next.inj h
  refine s.whenRunning_changes _ ?_
  dsimp only
  split
  · exact .single (.inputs s { s.inputs with frameStop := false, frameStopFilter := none } rfl (by simp) id)
  · exact .refl

theorem execGripsClosingEdge_changes (h : execGripsClosingEdge s = .next t) : StepChanges s t := by
  obtain rfl := Host.Outcome.next.inj h
  refine s.whenRunning_stepChanges _ ?_
  dsimp only
  split
  · exact .plain _ (.grips s true) rfl (.head (.capture _ _) (State.testGripsStart_changes _))
  · exact Changes.step .refl

theorem execGripsOpeningEdge_changes (h : execGripsOpeningEdge s = .next t) : StepChanges s t := by
  obtain rfl := Host.Outcome.next.inj h
  refine s.whenRunning_stepChanges _ ?_
  dsimp only
  split
  · exact .plain _ (.grips s false) rfl (State.gripsOpened_changes _ rfl)
  · exact Changes.step .refl

/-! ## The link -/

theorem execStatusFrame_changes (arms : ArmsState) (fault : Octet) (h : execStatusFrame arms fault s = .next t) :
    StepChanges s t := by
  obtain rfl := Host.Outcome.next.inj h
  refine s.whenRunning_changes _ ?_
  split
  · exact (s.takeStatus_changes _ _).trans (State.linkChanged_changes _)
  · exact .refl

theorem execReadingFrame_changes (sequence : Octet) (elongation : Word24) (status : Octet)
    (h : execReadingFrame sequence elongation status s = .next t) : StepChanges s t := by
  obtain rfl := Host.Outcome.next.inj h
  refine s.whenRunning_changes _ ?_
  split
  · exact (s.takeReading_aside _).changes.trans (State.linkChanged_changes _)
  · exact .refl

theorem execFrameDiscarded_changes (reason : DiscardReason) (h : execFrameDiscarded reason s = .next t) :
    StepChanges s t := by
  obtain rfl := Host.Outcome.next.inj h
  refine s.whenRunning_changes _ ?_
  dsimp only
  split
  · exact (Aside.link s _).changes
  · exact .refl

theorem execCommandSent_changes (h : execCommandSent s = .next t) : StepChanges s t := by
  obtain rfl := Host.Outcome.next.inj h
  refine s.whenRunning_changes _ ?_
  dsimp only
  split
  · exact (Aside.link s _).changes
  · exact .refl

theorem execAnswerTimeout_changes (h : execAnswerTimeout s = .next t) : StepChanges s t := by
  obtain rfl := Host.Outcome.next.inj h
  refine s.whenRunning_changes _ ?_
  dsimp only
  split
  · exact (Aside.link s _).changes
  · exact (s.commandMissed_changes _).trans (State.linkChanged_changes _)
  · exact .refl

theorem execBreakEnd_changes (h : execBreakEnd s = .next t) : StepChanges s t := by
  obtain rfl := Host.Outcome.next.inj h
  refine s.whenRunning_changes _ ?_
  dsimp only
  split
  · exact (Aside.of_blocks (by simp)).changes
  · exact .refl

theorem State.attemptFails_aside (s : State) : Aside s s.attemptFails := .of_blocks (by simp)

theorem execSyncCharacter_changes (count : Nat) (character : Octet)
    (h : execSyncCharacter count character s = .next t) : StepChanges s t := by
  obtain rfl := Host.Outcome.next.inj h
  refine s.whenRunning_changes _ ?_
  split
  · refine Relation.ReflTransGen.trans ?_ (State.linkChanged_changes _)
    split
    · exact s.lockTaken_changes _
    · exact s.attemptFails_aside.changes
  · exact .refl

theorem execSyncWindowTimeout_changes (h : execSyncWindowTimeout s = .next t) : StepChanges s t := by
  obtain rfl := Host.Outcome.next.inj h
  refine s.whenRunning_changes _ ?_
  split
  · exact .head (.aside s.attemptFails_aside) (State.linkChanged_changes _)
  · exact .refl

theorem execWakeRetry_changes (h : execWakeRetry s = .next t) : StepChanges s t := by
  obtain rfl := Host.Outcome.next.inj h
  refine s.whenRunning_changes _ ?_
  dsimp only
  split
  · split
    · exact (Aside.link s _).changes
    · exact .refl
  · exact .refl

theorem State.enterLost_aside (s : State) : Aside s s.enterLost := .of_blocks (by simp)

theorem execOperationTimeout_changes (h : execOperationTimeout s = .next t) : StepChanges s t := by
  obtain rfl := Host.Outcome.next.inj h
  refine s.whenRunning_changes _ ?_
  split
  · exact .head (.aside s.enterLost_aside) (State.linkChanged_changes _)
  · exact .refl

theorem execStalenessLost_changes (h : execStalenessLost s = .next t) : StepChanges s t := by
  obtain rfl := Host.Outcome.next.inj h
  refine s.whenRunning_changes _ ?_
  split
  · exact .head (.aside s.enterLost_aside) (State.linkChanged_changes _)
  · exact .refl

theorem execSleepTimeout_changes (h : execSleepTimeout s = .next t) : StepChanges s t := by
  obtain rfl := Host.Outcome.next.inj h
  refine s.whenRunning_changes _ ?_
  split
  · exact (Aside.link s _).changes
  · exact .refl

theorem execRecoveryTimeout_changes (h : execRecoveryTimeout s = .next t) : StepChanges s t := by
  obtain rfl := Host.Outcome.next.inj h
  refine s.whenRunning_changes _ ?_
  split
  · exact (Aside.link s _).changes
  · exact .refl

end

/-! ## Every command and every step -/

/-- A request that only reads is answered, and nothing else. -/
theorem State.read_changes (s : State) (p : Role) (k : RequestKind) (st : Status) (body : State → List Octet) :
    StepChanges s (s.request p k fun s => s.answer p k st (body s)) :=
  s.request_changes p k _ (s.answerKind_changes _ _ _ _)

/-- Every command makes at most one first change, and elementary changes after it. -/
theorem exec_changes (c : Instr) {s t : State} (h : exec c s = .next t) : StepChanges s t := by
  cases c with
  | nop p => obtain rfl := Host.Outcome.next.inj h; exact s.read_changes p _ _ fun _ => _
  | getNotices p => exact execGetNotices_changes p h
  | linkReset p => exact execLinkReset_changes p h
  | readLive p => obtain rfl := Host.Outcome.next.inj h; exact s.read_changes p _ _ liveOctets
  | resetController p => exact execResetController_changes p h
  | storeConfig p => exact execStoreConfig_changes p h
  | enqueue p id slot shape width thickness diameter parallel gauge => exact execEnqueue_changes p id _ _ _ _ _ _ _ h
  | withdraw p id => exact execWithdraw_changes p id h
  | readQueue p => obtain rfl := Host.Outcome.next.inj h; exact s.read_changes p _ _ fun s => queueOctets s.queue
  | writeProgram p body => exact execWriteProgram_changes p body h
  | clearProgram p slot => exact execClearProgram_changes p slot h
  | readProgram p slot => exact execReadProgram_changes p slot h
  | fetchResult p => exact execFetchResult_changes p h
  | takeResult p id => exact execTakeResult_changes p id h
  | setResultReaders p readers => exact execSetResultReaders_changes p readers h
  | arm p => exact execArm_changes p h
  | disarm p => exact execDisarm_changes p h
  | start p => exact execStart_changes p h
  | hold p => exact execHold_changes p h
  | resume p => exact execResume_changes p h
  | abort p => exact execAbort_changes p h
  | setAutoArm p setting => exact execSetAutoArm_changes p setting h
  | writeCalibration p body => exact execWriteCalibration_changes p body h
  | writeReference p expected tolerance => exact execWriteReference_changes p expected tolerance h
  | readCalibration p =>
    obtain rfl := Host.Outcome.next.inj h; exact s.read_changes p _ _ fun s => calibrationOctets s.load
  | setRange p range => exact execSetRange_changes p range h
  | tare p => exact execTare_changes p h
  | writeFrameConstants p compliance datum => exact execWriteFrameConstants_changes p compliance datum h
  | readFrameConstants p =>
    obtain rfl := Host.Outcome.next.inj h; exact s.read_changes p _ _ fun s => frameConstantsOctets s.strain.frame
  | extAttach p => exact execExtAttach_changes p h
  | extDetach p => exact execExtDetach_changes p h
  | extRead p => obtain rfl := Host.Outcome.next.inj h; exact s.read_changes p _ _ fun s => linkOctets s.link
  | requestAuthority p => exact execRequestAuthority_changes p h
  | releaseAuthority p => exact execReleaseAuthority_changes p h
  | moveTo p target speed => exact execMoveTo_changes p target speed h
  | moveBy p distance speed => exact execMoveBy_changes p distance speed h
  | jog p direction speed => exact execJog_changes p direction speed h
  | stopMove p => exact execStopMove_changes p h
  | setPosition p position => exact execSetPosition_changes p position h
  | writeDriveConfig p stepLength vmax jogLimit lower upper following =>
    exact execWriteDriveConfig_changes p stepLength vmax jogLimit lower upper following h
  | readDrive p =>
    obtain rfl := Host.Outcome.next.inj h; exact s.read_changes p _ _ fun s => driveOctets s.drive s.arbiter
  | writeSpeedConfig p gate restSpeed => exact execWriteSpeedConfig_changes p gate restSpeed h
  | readSpeedMeter p => obtain rfl := Host.Outcome.next.inj h; exact s.read_changes p _ _ fun s => meterOctets s.meter
  | clearFrameStop p => exact execClearFrameStop_changes p h
  | readInputs p => obtain rfl := Host.Outcome.next.inj h; exact s.read_changes p _ _ fun s => inputsOctets s.inputs
  | malformedRequest p octets => exact execMalformedRequest_changes p octets h
  | transactionBegin p => exact execTransactionBegin_changes p h
  | transactionWithoutRequest p => exact execTransactionWithoutRequest_changes p h
  | replyReady p =>
    obtain rfl := Host.Outcome.next.inj h; exact s.whenRunning_changes _ (Aside.of_blocks (by simp)).changes
  | powerOn => obtain rfl := Host.Outcome.next.inj h; exact Changes.step (.single (.blank s _))
  | configImageLoadDone => exact execConfigImageLoadDone_changes h
  | resetPin => obtain rfl := Host.Outcome.next.inj h; exact s.whenRunning_changes _ s.controllerReset_changes
  | configStoreCompletion readsBack => exact execConfigStoreCompletion_changes readsBack h
  | conversionSlot reading => exact execConversionSlot_changes reading h
  | tareRangeComplete => exact execTareRangeComplete_changes h
  | tareCommit => exact execTareCommit_changes h
  | stalenessLost => exact execStalenessLost_changes h
  | testCompletion => obtain rfl := Host.Outcome.next.inj h; exact s.whenRunning_changes _ s.testEnding_changes
  | endingTimerExpiry => exact execEndingTimerExpiry_changes h
  | autoArm => obtain rfl := Host.Outcome.next.inj h; exact s.whenRunning_changes _ s.examineHead_changes
  | gripsStart => obtain rfl := Host.Outcome.next.inj h; exact s.whenRunning_changes _ s.testGripsStart_changes
  | periodEnd => obtain rfl := Host.Outcome.next.inj h; exact s.whenRunning_changes _ s.periodEnd_changes
  | moveCompletion =>
    obtain rfl := Host.Outcome.next.inj h; exact s.whenRunning_changes _ s.completeSettledMove_aside.changes
  | encoderCount levels =>
    obtain rfl := Host.Outcome.next.inj h; exact s.whenRunning_changes _ (s.sampleChannels_changes levels)
  | gateBoundary => obtain rfl := Host.Outcome.next.inj h; exact s.whenRunning_changes _ s.gateBoundary_changes
  | intervalTimeout => obtain rfl := Host.Outcome.next.inj h; exact s.whenRunning_changes _ s.intervalTimeout_changes
  | overspeed => obtain rfl := Host.Outcome.next.inj h; exact s.whenRunning_changes _ s.reportOverspeed_changes
  | frameStopAcceptedActive => exact execFrameStopAcceptedActive_changes h
  | frameStopAcceptedInactive => exact execFrameStopAcceptedInactive_changes h
  | gripsClosingEdge => exact execGripsClosingEdge_changes h
  | gripsOpeningEdge => exact execGripsOpeningEdge_changes h
  | statusFrame arms fault => exact execStatusFrame_changes arms fault h
  | readingFrame sequence elongation status => exact execReadingFrame_changes sequence elongation status h
  | frameDiscarded reason => exact execFrameDiscarded_changes reason h
  | commandSent => exact execCommandSent_changes h
  | answerTimeout => exact execAnswerTimeout_changes h
  | breakEnd => exact execBreakEnd_changes h
  | syncCharacter count character => exact execSyncCharacter_changes count character h
  | syncWindowTimeout => exact execSyncWindowTimeout_changes h
  | wakeRetry => exact execWakeRetry_changes h
  | operationTimeout => exact execOperationTimeout_changes h
  | sleepTimeout => exact execSleepTimeout_changes h
  | recoveryTimeout => exact execRecoveryTimeout_changes h
  | inputPinChange pin level => exact execInputPinChange_changes pin level h
  | lossOfSupply => obtain rfl := Host.Outcome.next.inj h; exact Changes.step (.single (.blank s _))
  | lineRestedHigh =>
    obtain rfl := Host.Outcome.next.inj h; exact s.whenRunning_changes _ (Aside.link s _).changes

theorem State.tick_aside (s : State) : Aside s s.tick := by
  constructor <;> simp [State.tick, Drive.tick, FrameInputs.tick]

/-- Every step makes at most one first change, and elementary changes after it. -/
theorem step_changes {s t : State} (h : step s = .next t) :
    ∃ s', Aside s s' ∧ StepChanges s' t := by
  unfold step at h
  split at h
  next =>
    obtain rfl := Host.Outcome.next.inj h
    refine ⟨s, .of_blocks (by simp), Changes.step ?_⟩
    unfold State.idle
    split
    · exact s.tick_aside.changes
    · exact .refl
  next c rest _ => exact ⟨_, .pending s rest, exec_changes c h⟩

/-- What every elementary change keeps, a sequence of them keeps. -/
theorem Changes.keeps {law : State → Prop} (change : ∀ {s t : State}, Change s t → law s → law t) {s t : State}
    (h : Changes s t) (hs : law s) : law t := by
  induction h with
  | refl => exact hs
  | tail _ last ih => exact change last ih

/-- A law that the first changes and the elementary changes keep is kept by every step. -/
theorem step_keeps {law : State → Prop} (first : ∀ {s t : State}, FirstChange s t → law s → law t)
    (change : ∀ {s t : State}, Change s t → law s → law t) {s t : State} (h : step s = .next t) (hs : law s) :
    law t := by
  obtain ⟨s', aside, made⟩ := step_changes h
  obtain ⟨u, firstChange, changes⟩ := made.first
  exact changes.keeps change (first firstChange (change (.aside aside) hs))

end Sys2Proof.Machine
end

section
/-! PROOFS. Every step keeps the motion laws and the soft limits: each elementary change keeps them. -/

namespace Sys2Proof.Machine

/-! ## What a write of the velocity changes of the drive (R149, R150) -/

section
variable (s : State) (source : VelocitySource) (v : Int)

@[simp] theorem State.writeVelocity_position :
    (s.writeVelocity source v).drive.commanded = s.drive.commanded
      ∧ (s.writeVelocity source v).drive.referenced = s.drive.referenced
      ∧ (s.writeVelocity source v).drive.config = s.drive.config := by
  unfold State.writeVelocity
  dsimp only
  split
  · exact ⟨rfl, rfl, rfl⟩
  · split
    · exact ⟨rfl, rfl, rfl⟩
    · exact ⟨rfl, rfl, rfl⟩

@[simp] theorem State.seqWrite_position :
    (s.seqWrite v).drive.commanded = s.drive.commanded ∧ (s.seqWrite v).drive.referenced = s.drive.referenced
      ∧ (s.seqWrite v).drive.config = s.drive.config := by
  unfold State.seqWrite
  split <;> simp

/-- The sequencer's write comes to the drive by the holder and the drive alone. -/
theorem State.seqWrite_drive_congr {s u : State} (arbiter : u.arbiter = s.arbiter) (drive : u.drive = s.drive)
    (v : Int) : (u.seqWrite v).drive = (s.seqWrite v).drive := by
  unfold State.seqWrite State.writeVelocity
  rw [arbiter, drive]
  split
  · dsimp only
    split
    · simp [State.stopGenerator]
    · split <;> rfl
  · exact drive

/-- A generator that runs after a write of the sequencer ran before it, or the sequencer holds. -/
theorem State.seqWrite_generator (h : (s.seqWrite v).drive.generator.isSome = true) :
    s.drive.generator.isSome = true ∨ s.arbiter.holder.isSome = true := by
  unfold State.seqWrite at h
  split at h
  next held => exact .inr (by simp [held])
  next => exact .inl h

/-- A test that starts is in PRELOAD with its head IN_TEST and the approach speed written; without a head and a
program none starts. -/
theorem State.startTest_cases :
    s.startTest = s ∨ (s.startTest.seq.state = .preload ∧ s.startTest.seq.openSeen = false
      ∧ s.startTest.queue = (s.setHeadState .inTest).queue ∧ s.queue ≠ []
      ∧ ∃ b, s.headProgram = some b
        ∧ s.startTest.drive = (s.seqWrite (min b.approach s.drive.config.vmax)).drive) := by
  unfold State.startTest
  split
  next e b head program =>
    refine .inr ⟨by simp, by simp, by simp, fun empty => by simp [empty] at head, b, program, ?_⟩
    have config : (s.setHeadState .inTest).drive.config = s.drive.config := by simp
    dsimp only
    rw [config]
    simp only [State.addNotice_frame]
    exact State.seqWrite_drive_congr (by simp) (by simp) _
  next => exact .inl rfl

/-- The drive after the start of a test: the sequencer has written the approach speed, or nothing was done. -/
theorem State.startTest_drive :
    s.startTest.drive = s.drive ∨ ∃ b, s.headProgram = some b
      ∧ s.startTest.drive = (s.seqWrite (min b.approach s.drive.config.vmax)).drive := by
  rcases s.startTest_cases with none | ⟨-, -, -, -, written⟩
  · exact .inl (by rw [none])
  · exact .inr written

end

/-! ## The motion laws -/

/-- The motion laws look at the generator, the arbiter, the latch and the level of the frame stop. -/
theorem State.motionLaw_congr {s t : State}
    (generator : t.drive.generator.isSome = true → s.drive.generator.isSome = true ∨ s.arbiter.holder.isSome = true)
    (arbiter : t.arbiter = s.arbiter) (latch : t.inputs.latch = s.inputs.latch)
    (frameStop : t.inputs.frameStop = s.inputs.frameStop) (h : s.motionLaw) : t.motionLaw := by
  obtain ⟨⟨running, latched, stopped⟩, distinct, apart⟩ := h
  refine ⟨⟨fun g => ?_, ?_, ?_⟩, ?_, ?_⟩
  · rw [arbiter]
    exact (generator g).elim running id
  · rwa [latch, arbiter]
  · rwa [frameStop, latch]
  · rwa [arbiter]
  · rwa [arbiter]

/-- Where the drive and the arbiter are the same. -/
theorem State.motionLaw_of_same {s t : State} (drive : t.drive = s.drive) (arbiter : t.arbiter = s.arbiter)
    (inputs : t.inputs = s.inputs) (h : s.motionLaw) : t.motionLaw :=
  State.motionLaw_congr (by rw [drive]; exact .inl) arbiter (by rw [inputs]) (by rw [inputs]) h

/-- Without a generator and a holder, only the waiting list and the frame stop are left to judge. -/
theorem State.motionLaw_of_no_holder {s t : State} (generator : t.drive.generator = none)
    (arbiter : t.arbiter.holder = none) (waiting : t.arbiter.waiting = s.arbiter.waiting ∨ t.arbiter.waiting = [])
    (latch : t.inputs.latch = s.inputs.latch) (frameStop : t.inputs.frameStop = s.inputs.frameStop)
    (h : s.motionLaw) : t.motionLaw := by
  obtain ⟨⟨-, latched, stopped⟩, distinct, -⟩ := h
  refine ⟨⟨by simp [generator], fun set => ⟨arbiter, ?_⟩, ?_⟩, ?_, by simp [arbiter]⟩
  · rw [latch] at set
    rcases waiting with same | empty
    · rw [same, (latched set).2]
    · exact empty
  · rwa [frameStop, latch]
  · rcases waiting with same | empty
    · rwa [same]
    · simp [empty]

/-- The start of a test keeps the motion laws. -/
theorem State.startTest_motionLaw (s : State) (h : s.motionLaw) : s.startTest.motionLaw := by
  refine State.motionLaw_congr (fun g => ?_) (by simp) (by simp) (by simp) h
  rcases s.startTest_drive with same | ⟨b, -, written⟩
  · exact .inl (same ▸ g)
  · exact s.seqWrite_generator _ (written ▸ g)

/-- What a controller reset leaves of the drive and the arbiter (R146, R159). -/
theorem State.resetMotion_motion (s : State) :
    s.resetMotion.drive.generator = none ∧ s.resetMotion.drive.velocity = 0
      ∧ s.resetMotion.drive.commanded = s.drive.commanded ∧ s.resetMotion.drive.referenced = s.drive.referenced
      ∧ s.resetMotion.drive.config = s.drive.config ∧ s.resetMotion.arbiter = ⟨none, []⟩ := by
  have dropped := s.dropHolder_drive .released
  unfold State.resetMotion
  dsimp only
  split
  · simp [State.denyWaiting_arbiter, dropped]
  · simp [State.denyWaiting_arbiter, dropped]

/-- An elementary change keeps the motion laws. -/
theorem Change.motionLaw {s t : State} (c : Change s t) (h : s.motionLaw) : t.motionLaw := by
  obtain ⟨⟨running, latched, stopped⟩, distinct, apart⟩ := id h
  have free_of_latch (latch : s.inputs.latch = true) : ∀ q, s.arbiter.holder ≠ some q := by simp [latched latch]
  cases c with
  | aside a =>
    exact State.motionLaw_congr (by rw [a.generator]; exact .inl) a.arbiter (by rw [a.latch]) (by rw [a.frameStop]) h
  | stop => exact State.motionLaw_congr (by simp [State.stopGenerator]) (by simp) (by simp) (by simp) h
  | dropHolder cause =>
    exact State.motionLaw_of_no_holder (s.dropHolder_drive cause).1 (by simp) (by simp) (by simp) (by simp) h
  | leave f =>
    refine ⟨⟨running, fun latch => ?_, stopped⟩, distinct.filter f, fun q holds waits => ?_⟩
    · simp [latched latch]
    · exact apart q holds (List.mem_of_mem_filter waits)
  | request q latch holder waiting =>
    refine ⟨⟨running, by simp [latch], stopped⟩, ?_, fun p holds => ?_⟩
    · simpa [List.nodup_append, distinct] using fun p (hp : p ∈ s.arbiter.waiting) (same : p = q) => waiting (same ▸ hp)
    · simp only [List.mem_append, List.mem_singleton, not_or]
      exact ⟨apart p holds, fun same => holder (same ▸ holds)⟩
  | take q latch free waiting test =>
    exact ⟨⟨fun _ => rfl, by simp [latch], stopped⟩, distinct, by simpa using waiting⟩
  | grant q rest waiting free test =>
    rw [waiting, List.nodup_cons] at distinct
    refine ⟨⟨fun _ => rfl, fun latch => ?_, stopped⟩, distinct.2, by simpa using distinct.1⟩
    simp [(latched latch).2] at waiting
  | write v opens => exact State.motionLaw_congr (s.seqWrite_generator v) (by simp) (by simp) (by simp) h
  | move q v holder port =>
    exact State.motionLaw_congr (fun _ => .inr (by simp [holder])) (by simp) (by simp) (by simp) h
  | pulse | takeUp | position | driveConfig => exact State.motionLaw_congr .inl rfl rfl rfl h
  | latchSet => exact ⟨⟨by simp, by simp, by simp⟩, by simp, by simp⟩
  | inputs i grips level latch =>
    exact ⟨⟨running, fun set => latched (latch set), level⟩, distinct, apart⟩
  | start ready => exact s.startTest_motionLaw h
  | enqueue | withdraw | capture | program | disarm | enterRun =>
    exact State.motionLaw_of_same (by simp) (by simp) (by simp) h
  | records | load | widen | openSeen | reach | hold | handOff | track | ending | store | stored =>
    exact State.motionLaw_of_same rfl rfl rfl h
  | arm =>
    exact State.motionLaw_of_same (by simp [State.headArmed]) (by simp [State.headArmed]) (by simp [State.headArmed]) h
  | complete =>
    exact State.motionLaw_of_same (by simp [State.testFiled]) (by simp [State.testFiled]) (by simp [State.testFiled]) h
  | blank | started =>
    refine ⟨⟨?_, fun _ => ⟨rfl, rfl⟩, fun _ => rfl⟩, List.nodup_nil, ?_⟩
    · simp [State.blank, State.started, State.reset]
    · simp [State.blank, State.started, State.reset]
  | reset =>
    have motion := s.resetTest.resetMotion_motion
    refine State.motionLaw_of_no_holder ?_ ?_ (.inr ?_) ?_ ?_ h
    all_goals simp [State.blocksReset, motion]

/-! ## The soft limits -/

theorem within_eq_true_iff (lo hi x : Int) : within lo hi x = true ↔ lo ≤ x ∧ x ≤ hi := by
  simp [within]

/-- The law of the soft limits looks at the position, whether it is referenced, and the configuration. -/
theorem State.limitsLaw_congr {s t : State} (commanded : t.drive.commanded = s.drive.commanded)
    (referenced : t.drive.referenced = true → s.drive.referenced = true)
    (config : t.drive.config = s.drive.config) (h : s.limitsLaw) : t.limitsLaw := fun r => by
  rw [commanded, config]
  exact h (referenced r)

theorem State.limitsLaw_of_drive {s t : State} (drive : t.drive = s.drive) (h : s.limitsLaw) : t.limitsLaw :=
  State.limitsLaw_congr (by rw [drive]) (by rw [drive]; exact id) (by rw [drive]) h

/-- A sum that lies between two words is the word of the sum. -/
theorem toInt_add_of_between (x lo hi : Word32) (step : Int) (below : lo.toInt ≤ x.toInt + step)
    (above : x.toInt + step ≤ hi.toInt) : (x + BitVec.ofInt 32 step).toInt = x.toInt + step := by
  have bottom := lo.le_toInt
  have top := hi.toInt_lt
  rw [BitVec.toInt_add, BitVec.toInt_ofInt, Int.add_bmod_bmod]
  exact Int.bmod_eq_of_le (by simp at *; omega) (by simp at *; omega)

/-- The start of a test keeps the law of the soft limits. -/
theorem State.startTest_limitsLaw (s : State) (h : s.limitsLaw) : s.startTest.limitsLaw := by
  rcases s.startTest_drive with same | ⟨b, -, written⟩
  · exact State.limitsLaw_of_drive same h
  · exact State.limitsLaw_congr (by simp [written]) (by simp [written]) (by simp [written]) h

/-- An elementary change keeps the law of the soft limits. -/
theorem Change.limitsLaw {s t : State} (c : Change s t) (h : s.limitsLaw) : t.limitsLaw := by
  cases c with
  | aside a => exact State.limitsLaw_congr a.commanded (by rw [a.referenced]; exact id) a.driveConfig h
  | stop => exact h
  | dropHolder cause =>
    obtain ⟨-, -, commanded, referenced, config⟩ := s.dropHolder_drive cause
    exact State.limitsLaw_congr commanded (by rw [referenced]; exact id) config h
  | write v opens => exact State.limitsLaw_congr (by simp) (by simp) (by simp) h
  | move q v holder port => exact State.limitsLaw_congr (by simp) (by simp) (by simp) h
  | pulse dir within =>
    intro referenced
    have stays : s.drive.referenced = true := referenced
    simp only [Drive.limitStops, stays, Bool.true_and, Bool.not_eq_false', DriveConfig.contains,
      within_eq_true_iff] at within
    obtain ⟨below, above⟩ := within
    have moved := toInt_add_of_between _ _ _ _ below above
    simp only [State.pulse, moved]
    exact ⟨below, above⟩
  | takeUp =>
    intro referenced
    simp only [Drive.takeUp, Bool.and_eq_true, DriveConfig.contains, within_eq_true_iff] at referenced
    exact referenced.2
  | position x limits =>
    intro _
    simpa [DriveConfig.contains, within_eq_true_iff] using limits
  | driveConfig c fields limits =>
    intro referenced
    have stays : s.drive.referenced = true := referenced
    simpa [lowestFailing_eq_none_iff, Drive.limitChecks, stays] using limits
  | start ready => exact s.startTest_limitsLaw h
  | latchSet => exact h
  | leave | request | take | grant | inputs | records | load | widen | openSeen | reach | hold | handOff | track
    | ending | store | stored => exact State.limitsLaw_of_drive rfl h
  | enqueue | withdraw | capture | program | disarm | enterRun => exact State.limitsLaw_of_drive (by simp) h
  | arm => exact State.limitsLaw_of_drive (by simp [State.headArmed]) h
  | complete => exact State.limitsLaw_of_drive (by simp [State.testFiled]) h
  | blank | started => intro referenced; exact absurd referenced Bool.false_ne_true
  | reset =>
    obtain ⟨-, -, commanded, referenced, config, -⟩ := s.resetTest.resetMotion_motion
    have drive : s.blocksReset.drive = s.resetTest.resetMotion.drive := by simp [State.blocksReset]
    refine State.limitsLaw_congr ?_ ?_ ?_ h
    · simp [drive, commanded]
    · simp [drive, referenced]
    · simp [drive, config]

/-! ## The obligation -/

theorem FirstChange.motionLaw {s t : State} (c : FirstChange s t) (h : s.motionLaw) : t.motionLaw := by
  cases c with
  | none => exact h
  | grips => exact State.motionLaw_congr .inl rfl rfl rfl h
  | delivery => exact State.motionLaw_of_same rfl rfl rfl h
  | start => exact s.startTest_motionLaw h

theorem FirstChange.limitsLaw {s t : State} (c : FirstChange s t) (h : s.limitsLaw) : t.limitsLaw := by
  cases c with
  | none => exact h
  | grips | delivery => exact State.limitsLaw_of_drive rfl h
  | start => exact s.startTest_limitsLaw h

/-- Settles O56, each elementary change of a step keeping both laws. -/
theorem motionLawsAreKept : Obligations.MotionLawsAreKept := fun _ _ h =>
  ⟨step_keeps FirstChange.motionLaw Change.motionLaw h, step_keeps FirstChange.limitsLaw Change.limitsLaw h⟩

end Sys2Proof.Machine
end

section
/-! PROOFS. Every step keeps the laws of the head and of the result places: each elementary change keeps them. -/

namespace Sys2Proof.Machine

/-! ## The law of the head, by the entries of the queue -/

/-- The state of the head entry, where there is one, in each state of the sequencer (R7). -/
def SeqState.entryState : SeqState → EntryState
  | .idle => .waiting
  | .armed => .armed
  | _ => .inTest

/-- The queue agrees with a state of the sequencer: by R7, and nothing but IDLE without a head. -/
def QueueAgrees (st : SeqState) : List SpecimenEntry → Prop
  | [] => st = .idle
  | e :: rest => e.state = st.entryState ∧ ∀ x ∈ rest, x.state = .waiting

theorem State.headLaw_iff (s : State) : s.headLaw ↔ QueueAgrees s.seq.state s.queue := by
  unfold State.headLaw QueueAgrees
  cases s.queue with
  | nil => cases s.seq.state <;> simp [SeqState.headState]
  | cons e rest => cases s.seq.state <;> simp [SeqState.headState, SeqState.entryState]

theorem SeqState.entryState_of_inTest {st : SeqState} (h : st.inTest = true) : st.entryState = .inTest := by
  revert h
  cases st <;> decide

theorem SeqState.entryState_eq_waiting {st : SeqState} (h : st.entryState = .waiting) : st = .idle := by
  revert h
  cases st <;> decide

theorem SeqState.ne_idle_of_inTest {st : SeqState} (h : st.inTest = true) : st ≠ .idle := by
  rintro rfl
  cases h

theorem SeqState.inTest_of_ne (st : SeqState) (idle : st ≠ .idle) (armed : st ≠ .armed) : st.inTest = true := by
  revert idle armed
  cases st <;> decide

/-- A queue agrees with every state of a test or with none. -/
theorem QueueAgrees.of_inTest {st st' : SeqState} {q : List SpecimenEntry} (h : QueueAgrees st q)
    (before : st.inTest = true) (after : st'.inTest = true) : QueueAgrees st' q := by
  match q with
  | [] => exact absurd h (SeqState.ne_idle_of_inTest before)
  | e :: rest =>
    exact ⟨by rw [SeqState.entryState_of_inTest after, ← SeqState.entryState_of_inTest before]; exact h.1, h.2⟩

/-- A waiting entry joins the back. -/
theorem QueueAgrees.append {st : SeqState} {q : List SpecimenEntry} {e : SpecimenEntry} (h : QueueAgrees st q)
    (waiting : e.state = .waiting) : QueueAgrees st (q ++ [e]) := by
  match q with
  | [] => exact ⟨by rw [show st = .idle from h]; exact waiting, by simp⟩
  | x :: rest =>
    refine ⟨h.1, fun y hy => ?_⟩
    rcases List.mem_append.mp hy with old | new
    · exact h.2 y old
    · rw [List.mem_singleton.mp new, waiting]

/-- Without the head the queue agrees with IDLE. -/
theorem QueueAgrees.tail {st : SeqState} {q : List SpecimenEntry} (h : QueueAgrees st q) :
    QueueAgrees .idle q.tail := by
  match q with
  | [] | [_] => rfl
  | _ :: x :: rest => exact ⟨h.2 x (by simp), fun y hy => h.2 y (by simp [hy])⟩

/-- The head takes the entry state of another state. -/
theorem QueueAgrees.setHead {st st' : SeqState} {e : SpecimenEntry} {rest : List SpecimenEntry}
    (h : QueueAgrees st (e :: rest)) : QueueAgrees st' ({ e with state := st'.entryState } :: rest) :=
  ⟨rfl, h.2⟩

/-- The first entry that `p` finds leaves, while it is WAITING. -/
theorem QueueAgrees.eraseP {st : SeqState} {q : List SpecimenEntry} {p : SpecimenEntry → Bool} {e : SpecimenEntry}
    (h : QueueAgrees st q) (found : q.find? p = some e) (waiting : e.state = .waiting) :
    QueueAgrees st (q.eraseP p) := by
  match q with
  | [] => exact h
  | x :: rest =>
    by_cases first : p x = true
    · obtain rfl : x = e := by simpa [List.find?_cons_of_pos first] using found
      rw [List.eraseP_cons_of_pos first, SeqState.entryState_eq_waiting (h.1.symm.trans waiting)]
      exact h.tail
    · rw [List.eraseP_cons_of_neg first]
      exact ⟨h.1, fun y hy => h.2 y (List.mem_of_mem_eraseP hy)⟩

theorem State.setHeadState_queue (s : State) (st : EntryState) :
    (s.setHeadState st).queue = match s.queue with
      | [] => []
      | e :: rest => { e with state := st } :: rest := by
  unfold State.setHeadState
  split <;> simp_all

@[simp] theorem State.removeHead_queue (s : State) : s.removeHead.queue = s.queue.tail := by
  unfold State.removeHead
  split
  next empty => simp [empty]
  next rest queue => simp [queue, State.changeInUse]

/-- A grip capture leaves the states of the entries (R8). -/
theorem QueueAgrees.captureGrip {s : State} (h : QueueAgrees s.seq.state s.queue) (x : Word32) :
    QueueAgrees (s.captureGrip x).seq.state (s.captureGrip x).queue := by
  unfold State.captureGrip
  split
  next => exact h
  next e rest queue =>
    split
    · exact h
    · rw [queue] at h
      exact ⟨h.1, h.2⟩

theorem QueueAgrees.setHeadState {s : State} {st st' : SeqState} {e : EntryState} (h : QueueAgrees st s.queue)
    (entry : e = st'.entryState) (head : s.queue = [] → st' = .idle) : QueueAgrees st' (s.setHeadState e).queue := by
  subst entry
  rw [State.setHeadState_queue]
  match q : s.queue with
  | [] => exact head q
  | x :: rest => exact (q ▸ h).setHead

/-! ## The law of the places -/

/-- A take leaves the IDs of the records, but for those it frees. -/
theorem takeRecord_sublist {id : List Octet} {p : Role} {l l' : List ResultRecord} {freed : Bool}
    (h : takeRecord id p l = some (l', freed)) : (l'.map (·.id)).Sublist (l.map (·.id)) := by
  induction l generalizing l' freed with
  | nil => cases h
  | cons r rest ih =>
    unfold takeRecord at h
    dsimp only at h
    split at h
    · split at h
      · cases h; exact .refl _
      · split at h
        · cases h; simp
        · cases h; simp
    · simp only [Option.map_eq_some_iff, Prod.mk.injEq] at h
      obtain ⟨⟨l, f⟩, taken, rfl, rfl⟩ := h
      exact (ih taken).cons_cons _

theorem takeRecord_length {id : List Octet} {p : Role} {l l' : List ResultRecord} {freed : Bool}
    (h : takeRecord id p l = some (l', freed)) : l'.length ≤ l.length := by
  simpa using (takeRecord_sublist h).length_le

/-- The laws of the head and the places by the queue, the store and the state of the sequencer. -/
theorem State.testLaw_iff (s : State) : s.testLaw ↔ QueueAgrees s.seq.state s.queue ∧ s.placesLaw := by
  unfold State.testLaw
  rw [s.headLaw_iff]

theorem State.testLaw_congr {s t : State} (queue : t.queue = s.queue)
    (records : t.results.records.length ≤ s.results.records.length)
    (reserved : t.results.reserved = s.results.reserved) (state : t.seq.state = s.seq.state) (h : s.testLaw) :
    t.testLaw := by
  rw [State.testLaw_iff] at h ⊢
  obtain ⟨head, room, place⟩ := h
  refine ⟨by rwa [queue, state], ?_, by rwa [reserved, state]⟩
  rw [reserved]
  omega

theorem State.testLaw_of_same {s t : State} (queue : t.queue = s.queue) (results : t.results = s.results)
    (state : t.seq.state = s.seq.state) (h : s.testLaw) : t.testLaw :=
  State.testLaw_congr queue (by rw [results]) (by rw [results]) state h

/-- From one state of a test to another. -/
theorem State.testLaw_of_inTest {s t : State} (queue : t.queue = s.queue) (results : t.results = s.results)
    (before : s.seq.state.inTest = true) (after : t.seq.state.inTest = true) (h : s.testLaw) : t.testLaw := by
  rw [State.testLaw_iff] at h ⊢
  obtain ⟨head, room, place⟩ := h
  refine ⟨by rw [queue]; exact head.of_inTest before after, by rwa [results], ?_⟩
  rw [results, place]
  exact iff_of_true (SeqState.ne_idle_of_inTest before) (SeqState.ne_idle_of_inTest after)

/-- IDLE with no place reserved. -/
theorem State.testLaw_of_idle {s : State} (state : s.seq.state = .idle) (queue : QueueAgrees .idle s.queue)
    (reserved : s.results.reserved = false) (records : s.results.records.length ≤ Config.resultPlaces) :
    s.testLaw := by
  rw [State.testLaw_iff, state]
  exact ⟨queue, by simpa [reserved] using records, by simp [reserved, state]⟩

/-- Where a test is armed a place is free and the queue has a head (R27). -/
theorem State.armFailure_eq_none {s : State} (h : s.armFailure = none) :
    s.queue ≠ [] ∧ s.results.records.length + (if s.results.reserved then 1 else 0) < Config.resultPlaces := by
  unfold State.armFailure at h
  split at h
  · cases h
  next head =>
    iterate 5 (split at h; · cases h)
    split at h
    · cases h
    next room =>
      rw [ResultStore.free_eq_zero_iff] at room
      exact ⟨by simpa using head, by simpa [Config.resultPlaces] using room⟩

theorem State.startTest_testLaw (s : State) (armed : s.seq.state = .armed) (h : s.testLaw) : s.startTest.testLaw := by
  rcases s.startTest_cases with none | ⟨state, -, queue, head, -⟩
  · rwa [none]
  · rw [State.testLaw_iff] at h ⊢
    obtain ⟨agrees, room, place⟩ := h
    refine ⟨?_, by simpa using room, by simpa [state, armed] using place⟩
    rw [state, queue]
    exact agrees.setHeadState rfl fun empty => absurd empty head

/-- A controller reset leaves no test (R10, R23, R50). -/
theorem State.resetTest_places (s : State) (h : s.testLaw) :
    QueueAgrees .idle s.resetTest.queue ∧ s.resetTest.results.reserved = false
      ∧ s.resetTest.results.records.length ≤ Config.resultPlaces := by
  obtain ⟨agrees, room, place⟩ := s.testLaw_iff.mp h
  have recorded (outcome : TestOutcome) (cause note : Option Cause) (test : s.seq.state.inTest = true) :
      QueueAgrees .idle (s.recordAtReset outcome cause note).queue
        ∧ (s.recordAtReset outcome cause note).results.reserved = false
        ∧ (s.recordAtReset outcome cause note).results.records.length ≤ Config.resultPlaces := by
    have reserved : s.results.reserved = true := place.mpr (SeqState.ne_idle_of_inTest test)
    rw [if_pos reserved] at room
    unfold State.recordAtReset
    split
    next => simpa [State.noticeTestEnd, State.fileRecord] using ⟨agrees.tail, Nat.lt_of_succ_le room⟩
    next empty =>
      rw [List.head?_eq_none_iff] at empty
      rw [empty] at agrees
      exact absurd agrees (SeqState.ne_idle_of_inTest test)
  unfold State.resetTest
  split
  next idle => exact ⟨idle ▸ agrees, by simpa [idle] using place, le_trans (Nat.le_add_right _ _) room⟩
  next armed =>
    refine ⟨agrees.setHeadState (st' := .idle) rfl fun _ => rfl, rfl, ?_⟩
    simpa using le_trans (Nat.le_add_right _ _) room
  next ending => exact recorded _ _ _ (by rw [ending]; rfl)
  next st _ _ _ => exact recorded _ _ _ (SeqState.inTest_of_ne s.seq.state ‹_› ‹_›)

theorem State.gripsStartReady_armed {s : State} (h : s.gripsStartReady = true) : s.seq.state = .armed := by
  simp only [State.gripsStartReady, Bool.and_eq_true, beq_iff_eq] at h
  exact h.1.1.1.1.1.1

/-- An elementary change keeps the laws of the head and of the places. -/
theorem Change.testLaw {s t : State} (c : Change s t) (h : s.testLaw) : t.testLaw := by
  obtain ⟨agrees, room, place⟩ := s.testLaw_iff.mp h
  cases c with
  | aside a => exact State.testLaw_congr a.queue (by rw [a.records]) a.reserved a.state h
  | stop | leave | request | take | grant | pulse | takeUp | position | driveConfig | latchSet | inputs | load
    | widen | openSeen | handOff | track | store | stored => exact State.testLaw_of_same rfl rfl rfl h
  | dropHolder | write | move | program => exact State.testLaw_of_same (by simp) (by simp) (by simp) h
  | enqueue e space id slot state => 
    exact State.testLaw_iff _ |>.mpr ⟨agrees.append state, room, place⟩
  | withdraw e entry state =>
    refine State.testLaw_iff _ |>.mpr ⟨agrees.eraseP entry state, room, place⟩
  | capture x => exact State.testLaw_iff _ |>.mpr ⟨agrees.captureGrip x, by simpa using room, by simpa using place⟩
  | records p id l freed taken => exact State.testLaw_congr (s := s) rfl (takeRecord_length taken) rfl rfl h
  | arm b state checks program =>
    obtain ⟨head, free⟩ := State.armFailure_eq_none checks
    have unreserved : s.results.reserved = false := by simpa [state] using place
    refine State.testLaw_iff _ |>.mpr ⟨?_, ?_, ?_⟩
    · exact agrees.setHeadState (st' := .armed) rfl fun empty => absurd empty head
    · simpa [State.headArmed, unreserved] using Nat.succ_le_of_lt free
    · simp [State.headArmed]
  | disarm state =>
    have records : s.undoArming.results.records = s.results.records := by simp [State.undoArming]
    refine State.testLaw_of_idle rfl ?_ rfl (by rw [records]; omega)
    exact agrees.setHeadState (st' := .idle) rfl fun _ => rfl
  | start ready => exact s.startTest_testLaw (State.gripsStartReady_armed ready) h
  | reach x f st source preload tracked next =>
    refine State.testLaw_of_inTest (s := s) rfl rfl (by rw [preload]; rfl) ?_ h
    rcases next with ⟨rfl, -⟩ | ⟨rfl, -⟩ <;> rfl
  | enterRun source attach => exact State.testLaw_of_inTest (s := s) rfl rfl (by rw [attach]; rfl) rfl h
  | hold st turn =>
    rcases turn with ⟨run, rfl⟩ | ⟨hold, rfl⟩
    · exact State.testLaw_of_inTest (s := s) rfl rfl (by rw [run]; rfl) rfl h
    · exact State.testLaw_of_inTest (s := s) rfl rfl (by rw [hold]; rfl) rfl h
  | ending test => exact State.testLaw_of_inTest (s := s) rfl rfl (by simp [SeqState.inTest, test]) rfl h
  | complete e r state head id =>
    have reserved : s.results.reserved = true := place.mpr (by simp [state])
    refine State.testLaw_of_idle rfl ?_ ?_ ?_
    · simpa [State.testFiled] using agrees.tail
    · simp [State.testFiled, State.fileRecord]
    · simpa [State.testFiled, State.fileRecord, reserved] using room
  | blank | started => 
    exact State.testLaw_of_idle rfl rfl rfl (Nat.zero_le _)
  | reset =>
    obtain ⟨queue, reserved, records⟩ := s.resetTest_places h
    refine State.testLaw_of_idle rfl ?_ ?_ ?_
    all_goals simpa [State.blocksReset]

theorem FirstChange.testLaw {s t : State} (c : FirstChange s t) (h : s.testLaw) : t.testLaw := by
  cases c with
  | none => exact h
  | grips | delivery => exact State.testLaw_of_same rfl rfl rfl h
  | start state => exact s.startTest_testLaw state h

/-- Settles O57, each elementary change of a step keeping the laws. -/
theorem testLawIsKept : Obligations.TestLawIsKept := fun _ _ hs h =>
  step_keeps FirstChange.testLaw Change.testLaw h hs

end Sys2Proof.Machine
end

section
/-! PROOFS. Every step keeps the specimen IDs distinct and the in-use counts exact: each elementary change keeps
them. -/

namespace Sys2Proof.Machine

/-! ## The queue after the removal of an entry -/

/-- The entry that `p` finds, and the queue without it. -/
theorem perm_cons_eraseP {α : Type} {l : List α} {p : α → Bool} {a : α} (h : l.find? p = some a) :
    l.Perm (a :: l.eraseP p) := by
  induction l with
  | nil => cases h
  | cons x rest ih =>
    by_cases first : p x = true
    · obtain rfl : x = a := by simpa [List.find?_cons_of_pos first] using h
      rw [List.eraseP_cons_of_pos first]
    · rw [List.find?_cons_of_neg first] at h
      rw [List.eraseP_cons_of_neg first]
      exact ((ih h).cons x).trans (.swap a x _)

/-- A change of the head's state leaves the entries' IDs and slots. -/
theorem State.setHeadState_map {α : Type} (s : State) (st : EntryState) (f : SpecimenEntry → α)
    (keeps : ∀ e, f { e with state := st } = f e) : (s.setHeadState st).queue.map f = s.queue.map f := by
  rw [State.setHeadState_queue]
  split
  next empty => simp [empty]
  next e rest queue => simp [queue, keeps]

/-- A grip capture leaves the entries' IDs and slots. -/
theorem State.captureGrip_map {α : Type} (s : State) (x : Word32) (f : SpecimenEntry → α)
    (keeps : ∀ e : SpecimenEntry, f { e with capture := some x } = f e) :
    (s.captureGrip x).queue.map f = s.queue.map f := by
  unfold State.captureGrip
  split
  next => rfl
  next e rest queue =>
    split
    · rfl
    · simp [queue, keeps]

/-- The start of a test leaves the entries' IDs and slots. -/
theorem State.startTest_map {α : Type} (s : State) (f : SpecimenEntry → α)
    (keeps : ∀ e : SpecimenEntry, f { e with state := .inTest } = f e) :
    s.startTest.queue.map f = s.queue.map f := by
  rcases s.startTest_cases with none | ⟨-, -, queue, -⟩
  · rw [none]
  · rw [queue, s.setHeadState_map _ f keeps]

/-- A controller reset files the head and removes it, or leaves the entries but for the head's state (R10, R50). -/
theorem State.resetTest_cases (s : State) :
    (∃ e r, s.queue.head? = some e ∧ r.id = e.id ∧ s.resetTest.queue = s.queue.tail
        ∧ s.resetTest.results.records = s.results.records ++ [r]
        ∧ s.resetTest.programs = (s.changeInUse e.slot (· - 1)).programs)
    ∨ (s.resetTest.queue.map (·.id) = s.queue.map (·.id) ∧ s.resetTest.queue.map (·.slot) = s.queue.map (·.slot)
        ∧ s.resetTest.results.records = s.results.records ∧ s.resetTest.programs = s.programs) := by
  have recorded (outcome : TestOutcome) (cause note : Option Cause) :
      (∃ e r, s.queue.head? = some e ∧ r.id = e.id
          ∧ (s.recordAtReset outcome cause note).queue = s.queue.tail
          ∧ (s.recordAtReset outcome cause note).results.records = s.results.records ++ [r]
          ∧ (s.recordAtReset outcome cause note).programs = (s.changeInUse e.slot (· - 1)).programs)
        ∨ s.recordAtReset outcome cause note = s := by
    unfold State.recordAtReset
    split
    next e head =>
      refine .inl ⟨e, s.assembleRecord e outcome cause note, head, rfl, ?_⟩
      obtain ⟨rest, cons⟩ := List.head?_eq_some_iff.mp head
      simp [State.noticeTestEnd, State.fileRecord, State.removeHead, cons, State.changeInUse]
    next => exact .inr rfl
  unfold State.resetTest
  split
  next => exact .inr ⟨rfl, rfl, rfl, rfl⟩
  next =>
    exact .inr ⟨s.setHeadState_map _ _ fun _ => rfl, s.setHeadState_map _ _ fun _ => rfl, by simp, by simp⟩
  all_goals
    rcases recorded _ _ _ with filed | same
    · exact .inl filed
    · rw [same]
      exact .inr ⟨rfl, rfl, rfl, rfl⟩

/-! ## The IDs -/

/-- The specimen IDs that stand in the queue and in the result store. -/
def State.ids (s : State) : List (List Octet) :=
  s.queue.map (·.id) ++ s.results.records.map (·.id)

theorem State.idLaw_iff (s : State) : s.idLaw ↔ s.ids.Nodup ∧ s.queue.length ≤ Config.queueSize := Iff.rfl

/-- Where no ID comes in and the queue does not grow. -/
theorem State.idLaw_of_subperm {s t : State} (ids : t.ids.Subperm s.ids) (length : t.queue.length ≤ s.queue.length)
    (h : s.idLaw) : t.idLaw := by
  obtain ⟨distinct, room⟩ := s.idLaw_iff.mp h
  obtain ⟨l, perm, sub⟩ := ids
  exact t.idLaw_iff.mpr ⟨perm.nodup_iff.mp (distinct.sublist sub), length.trans room⟩

theorem State.idLaw_of_same {s t : State} (queue : t.queue.map (·.id) = s.queue.map (·.id))
    (records : t.results.records = s.results.records) (h : s.idLaw) : t.idLaw := by
  refine State.idLaw_of_subperm ?_ (le_of_eq ?_) h
  · rw [State.ids, queue, records]
    exact .refl _
  · simpa using congrArg List.length queue

/-- The record of the head takes over its ID. -/
theorem State.idLaw_of_recorded {s t : State} {e : SpecimenEntry} {r : ResultRecord} (head : s.queue.head? = some e)
    (id : r.id = e.id) (queue : t.queue = s.queue.tail) (records : t.results.records = s.results.records ++ [r])
    (h : s.idLaw) : t.idLaw := by
  obtain ⟨rest, cons⟩ : ∃ rest, s.queue = e :: rest := by
    rwa [List.head?_eq_some_iff] at head
  refine State.idLaw_of_subperm (List.Perm.subperm ?_) (by simp [queue, cons]) h
  simp only [State.ids, queue, records, cons, id, List.tail_cons, List.map_append, List.map_cons, List.map_nil,
    List.cons_append]
  rw [← List.append_assoc]
  exact List.perm_append_singleton _ _

/-- An elementary change keeps the IDs distinct. -/
theorem Change.idLaw {s t : State} (c : Change s t) (h : s.idLaw) : t.idLaw := by
  cases c with
  | aside a => exact State.idLaw_of_same (by rw [a.queue]) a.records h
  | stop | leave | request | take | grant | pulse | takeUp | position | driveConfig | latchSet | inputs | load
    | widen | openSeen | handOff | track | store | stored | reach | hold | ending | enterRun =>
    exact State.idLaw_of_same rfl rfl h
  | dropHolder | write | move | program => exact State.idLaw_of_same (by simp) (by simp) h
  | enqueue e space id slot state =>
    obtain ⟨distinct, -⟩ := s.idLaw_iff.mp h
    refine (State.idLaw_iff _).mpr ⟨?_, by simpa [State.append, State.changeInUse] using space⟩
    have perm : (s.append e).ids.Perm (e.id :: s.ids) := by
      simp only [State.ids, State.append, State.changeInUse, State.addNotice_frame, List.map_append, List.map_cons,
        List.map_nil, List.append_assoc, List.singleton_append]
      exact List.perm_middle
    refine perm.nodup_iff.mpr (List.nodup_cons.mpr ⟨?_, distinct⟩)
    simpa [State.ids, State.idStands] using id
  | withdraw e entry state =>
    have perm := perm_cons_eraseP entry
    refine State.idLaw_of_subperm (s := s) ?_ (List.length_eraseP_le) h
    refine .trans ?_ ((perm.map (·.id)).append_right _).symm.subperm
    exact (List.sublist_cons_self _ _).subperm
  | capture x => exact State.idLaw_of_same (s.captureGrip_map x _ fun _ => rfl) (by simp) h
  | records p id l freed taken =>
    exact State.idLaw_of_subperm (s := s) ((takeRecord_sublist taken).append_left _).subperm le_rfl h
  | arm => exact State.idLaw_of_same (s.setHeadState_map _ _ fun _ => rfl) (by simp [State.headArmed]) h
  | disarm => exact State.idLaw_of_same (s.setHeadState_map _ _ fun _ => rfl) (by simp [State.undoArming]) h
  | start ready => exact State.idLaw_of_same (s.startTest_map _ fun _ => rfl) (by simp) h
  | complete e r state head id =>
    exact State.idLaw_of_recorded head id (by simp [State.testFiled]) (by simp [State.testFiled, State.fileRecord]) h
  | blank | started => exact ⟨List.nodup_nil, Nat.zero_le _⟩
  | reset =>
    have queue : s.blocksReset.queue = s.resetTest.queue := by simp [State.blocksReset]
    have results : s.blocksReset.results = s.resetTest.results := by simp [State.blocksReset]
    rcases s.resetTest_cases with ⟨e, r, head, id, removed, recorded, -⟩ | ⟨ids, -, records, -⟩
    · exact State.idLaw_of_recorded head id (by rw [queue, removed]) (by rw [results, recorded]) h
    · exact State.idLaw_of_same (by rw [queue, ids]) (by rw [results, records]) h

theorem FirstChange.idLaw {s t : State} (c : FirstChange s t) (h : s.idLaw) : t.idLaw := by
  cases c with
  | none => exact h
  | grips | delivery => exact State.idLaw_of_same rfl rfl h
  | start => exact State.idLaw_of_same (s.startTest_map _ fun _ => rfl) (by simp) h

/-! ## The in-use counts -/

/-- The number of entries that name a slot. -/
def State.namedBy (s : State) (n : Nat) : Nat := (s.queue.map (·.slot)).count n

theorem State.programAt_isSome_iff (s : State) (n : Nat) :
    (s.programAt n).isSome = true ↔ ∃ p, s.programs[n]? = some p ∧ p.body.isSome = true := by
  unfold State.programAt
  cases s.programs[n]? <;> simp

theorem State.inUseLaw_iff (s : State) : s.inUseLaw ↔
    (∀ n p, s.programs[n]? = some p → p.inUse = s.namedBy n)
      ∧ ∀ n ∈ s.queue.map (·.slot), (s.programAt n).isSome = true := by
  have named (n : Nat) : s.queue.countP (fun e => e.slot == n) = s.namedBy n := by
    simp only [State.namedBy, List.count, List.countP_map]
    rfl
  refine and_congr ⟨fun h n p at_n => ?_, fun h n lt => ?_⟩ (by simp)
  · have lt := (List.getElem?_eq_some_iff.mp at_n).1
    simpa [at_n, named] using h n lt
  · have at_n := List.getElem?_eq_getElem lt
    rw [at_n, named, ← h n _ at_n]
    rfl

/-- The table after a change of a slot's in-use count, and after its body is replaced. -/
theorem getElem?_modify_eq_some {α : Type} {l : List α} {i n : Nat} {f : α → α} {a : α} :
    (l.modify i f)[n]? = some a ↔ ∃ b, l[n]? = some b ∧ a = if i = n then f b else b := by
  rw [List.getElem?_modify]
  cases l[n]? with
  | none => simp
  | some b => simp [eq_comm]

/-- Where the entries' slots and the table are the same. -/
theorem State.inUseLaw_of_same {s t : State} (slots : t.queue.map (·.slot) = s.queue.map (·.slot))
    (programs : t.programs = s.programs) (h : s.inUseLaw) : t.inUseLaw := by
  rw [State.inUseLaw_iff] at h ⊢
  simpa only [State.namedBy, State.programAt, slots, programs] using h

/-- The bodies after a change of an in-use count. -/
theorem State.changeInUse_programAt (s : State) (slot : Nat) (f : Nat → Nat) (n : Nat) :
    ((s.changeInUse slot f).programAt n) = s.programAt n := by
  simp only [State.programAt, State.changeInUse, List.getElem?_modify]
  cases s.programs[n]? with
  | none => rfl
  | some p => by_cases same : slot = n <;> simp [same]

/-- Where an entry has left the queue and its slot's count has fallen by one. -/
theorem State.inUseLaw_of_removed {s t : State} {e : SpecimenEntry} (queue : s.queue.Perm (e :: t.queue))
    (programs : t.programs = (s.changeInUse e.slot (· - 1)).programs) (h : s.inUseLaw) : t.inUseLaw := by
  rw [State.inUseLaw_iff] at h ⊢
  obtain ⟨counts, valid⟩ := h
  have slots := queue.map (·.slot)
  have named (n : Nat) : s.namedBy n = t.namedBy n + if e.slot = n then 1 else 0 := by
    simp only [State.namedBy, slots.count_eq, List.map_cons, List.count_cons, beq_iff_eq]
  refine ⟨fun n p at_n => ?_, fun n mem => ?_⟩
  · rw [programs] at at_n
    obtain ⟨q, at_q, rfl⟩ := getElem?_modify_eq_some.mp at_n
    have count := counts n q at_q
    rw [named] at count
    split
    next same => simp only [count, same, if_true]; omega
    next other => simp only [count, other, if_false]; omega
  · have same : t.programAt n = s.programAt n := by
      rw [← s.changeInUse_programAt e.slot (· - 1) n, State.programAt, State.programAt, programs]
    rw [same]
    exact valid n (slots.mem_iff.mpr (by simp [mem]))

/-- A slot that no entry names takes another body, or none. -/
theorem State.setProgram_inUseLaw (s : State) (slot : Nat) (b : Option ProgramBody) (unused : s.inUseOf slot = 0)
    (h : s.inUseLaw) : (s.setProgram slot b).inUseLaw := by
  rw [State.inUseLaw_iff] at h ⊢
  obtain ⟨counts, valid⟩ := h
  refine ⟨fun n p at_n => ?_, fun n mem => ?_⟩
  · obtain ⟨q, at_q, rfl⟩ := getElem?_modify_eq_some.mp at_n
    have count := counts n q at_q
    split <;> exact count
  · have named : n ≠ slot := by
      rintro rfl
      obtain ⟨p, at_n, -⟩ := (s.programAt_isSome_iff n).mp (valid n mem)
      have count := counts n p at_n
      simp only [State.inUseOf, at_n] at unused
      rw [unused] at count
      exact absurd mem (List.count_eq_zero.mp count.symm)
    have same : (s.setProgram slot b).programAt n = s.programAt n := by
      simp [State.programAt, State.setProgram, named.symm]
    rw [same]
    exact valid n mem

/-- An entry of a VALID slot joins the queue and is counted. -/
theorem State.append_inUseLaw (s : State) (e : SpecimenEntry) (slot : (s.programAt e.slot).isSome = true)
    (h : s.inUseLaw) : (s.append e).inUseLaw := by
  rw [State.inUseLaw_iff] at h ⊢
  obtain ⟨counts, valid⟩ := h
  refine ⟨fun n p at_n => ?_, fun n mem => ?_⟩
  · obtain ⟨q, at_q, rfl⟩ := getElem?_modify_eq_some.mp at_n
    have count := counts n q at_q
    have named : (s.append e).namedBy n = s.namedBy n + if e.slot = n then 1 else 0 := by
      simp [State.namedBy, State.append, State.changeInUse, List.count_append, List.count_cons]
    rw [named]
    split
    next => simp [count]
    next => simpa using count
  · have same : (s.append e).programAt n = s.programAt n := by
      rw [← s.changeInUse_programAt e.slot (· + 1) n]
      rfl
    rw [same]
    simp only [State.append, State.changeInUse, State.addNotice_frame, List.map_append, List.mem_append, List.map_cons,
      List.map_nil, List.mem_singleton] at mem
    rcases mem with old | rfl
    · exact valid n old
    · exact slot

/-- With an empty queue and no slot in use. -/
theorem State.inUseLaw_of_empty {s : State} (queue : s.queue = []) (programs : ∀ p ∈ s.programs, p.inUse = 0) :
    s.inUseLaw := by
  rw [State.inUseLaw_iff]
  refine ⟨fun n p at_n => ?_, by simp [queue]⟩
  rw [programs p (List.mem_of_getElem? at_n), State.namedBy, queue]
  rfl

/-- An elementary change keeps the in-use counts exact. -/
theorem Change.inUseLaw {s t : State} (c : Change s t) (h : s.inUseLaw) : t.inUseLaw := by
  cases c with
  | aside a => exact State.inUseLaw_of_same (by rw [a.queue]) a.programs h
  | stop | leave | request | take | grant | pulse | takeUp | position | driveConfig | latchSet | inputs | load
    | widen | openSeen | handOff | track | store | stored | reach | hold | ending | enterRun | records =>
    exact State.inUseLaw_of_same rfl rfl h
  | dropHolder | write | move => exact State.inUseLaw_of_same (by simp) (by simp) h
  | enqueue e space id slot state => exact s.append_inUseLaw e slot h
  | withdraw e entry state => exact State.inUseLaw_of_removed (perm_cons_eraseP entry) rfl h
  | capture x => exact State.inUseLaw_of_same (s.captureGrip_map x _ fun _ => rfl) (by simp) h
  | program slot b unused opens => exact s.setProgram_inUseLaw slot b unused h
  | arm => exact State.inUseLaw_of_same (s.setHeadState_map _ _ fun _ => rfl) (by simp [State.headArmed]) h
  | disarm => exact State.inUseLaw_of_same (s.setHeadState_map _ _ fun _ => rfl) (by simp) h
  | start ready => exact State.inUseLaw_of_same (s.startTest_map _ fun _ => rfl) (by simp) h
  | complete e r state head id =>
    obtain ⟨rest, cons⟩ := List.head?_eq_some_iff.mp head
    refine State.inUseLaw_of_removed (e := e) (.of_eq ?_) ?_ h
    · simp [State.testFiled, cons]
    · simp [State.testFiled, State.removeHead, cons, State.changeInUse]
  | blank => exact State.inUseLaw_of_empty rfl (by simp [State.blank, State.reset])
  | started => exact State.inUseLaw_of_empty rfl (by simp [State.started])
  | reset =>
    have queue : s.blocksReset.queue = s.resetTest.queue := by simp [State.blocksReset]
    have programs : s.blocksReset.programs = s.resetTest.programs := by simp [State.blocksReset]
    rcases s.resetTest_cases with ⟨e, r, head, -, removed, -, counted⟩ | ⟨-, slots, -, same⟩
    · obtain ⟨rest, cons⟩ := List.head?_eq_some_iff.mp head
      refine State.inUseLaw_of_removed (e := e) (.of_eq ?_) (by rw [programs, counted]) h
      rw [queue, removed, cons, List.tail_cons]
    · exact State.inUseLaw_of_same (by rw [queue, slots]) (by rw [programs, same]) h

theorem FirstChange.inUseLaw {s t : State} (c : FirstChange s t) (h : s.inUseLaw) : t.inUseLaw := by
  cases c with
  | none => exact h
  | grips | delivery => exact State.inUseLaw_of_same rfl rfl h
  | start => exact State.inUseLaw_of_same (s.startTest_map _ fun _ => rfl) (by simp) h

/-- Settles O58, each elementary change of a step keeping both laws. -/
theorem collectionLawsAreKept : Obligations.CollectionLawsAreKept := fun _ _ h =>
  ⟨step_keeps FirstChange.idLaw Change.idLaw h, step_keeps FirstChange.inUseLaw Change.inUseLaw h⟩

end Sys2Proof.Machine
end

section
/-! PROOFS. Every step keeps the law that the commanded velocity of a test never closes: each elementary change keeps
it. -/

namespace Sys2Proof.Machine

/-! ## What the configuration in force names -/

/-- The configuration in force names no closing speed: its top speed and the programs' approach speeds. -/
theorem State.configItems_opens_iff (s : State) :
    s.configItems.opens ↔ 0 ≤ s.drive.config.vmax ∧ ∀ p ∈ s.programs, ∀ b ∈ p.body, 0 ≤ b.approach := by
  have programs : (∀ b ∈ s.configItems.programs.filterMap id, 0 ≤ b.approach)
      ↔ ∀ p ∈ s.programs, ∀ b ∈ p.body, 0 ≤ b.approach := by
    simp only [State.configItems, List.mem_filterMap, List.mem_map, id]
    exact ⟨fun h p mem b body => h b ⟨_, ⟨p, mem, rfl⟩, body⟩,
      fun h b ⟨_, ⟨p, mem, same⟩, body⟩ => h p mem b (same.trans body)⟩
  exact and_congr Iff.rfl programs

theorem State.configItems_opens_of_same {s t : State} (config : t.drive.config = s.drive.config)
    (programs : t.programs = s.programs) (h : s.configItems.opens) : t.configItems.opens := by
  rw [State.configItems_opens_iff] at h ⊢
  rwa [config, programs]

/-- A change of in-use counts leaves the bodies. -/
theorem State.configItems_opens_of_counted {s t : State} {slot : Nat} {f : Nat → Nat}
    (config : t.drive.config = s.drive.config) (programs : t.programs = (s.changeInUse slot f).programs)
    (h : s.configItems.opens) : t.configItems.opens := by
  rw [State.configItems_opens_iff] at h ⊢
  obtain ⟨vmax, bodies⟩ := h
  refine ⟨by rwa [config], fun p mem b body => ?_⟩
  rw [programs] at mem
  obtain ⟨n, at_n⟩ := List.mem_iff_getElem?.mp mem
  obtain ⟨q, at_q, rfl⟩ := getElem?_modify_eq_some.mp at_n
  exact bodies q (List.mem_of_getElem? at_q) b (by split at body <;> exact body)

theorem State.configItems_opens_of_removed {s t : State} {e : SpecimenEntry}
    (config : t.drive.config = s.drive.config) (head : s.queue.head? = some e)
    (programs : t.programs = s.removeHead.programs) (h : s.configItems.opens) : t.configItems.opens := by
  obtain ⟨rest, cons⟩ := List.head?_eq_some_iff.mp head
  refine State.configItems_opens_of_counted (slot := e.slot) (f := (· - 1)) config ?_ h
  simp [programs, State.removeHead, cons, State.changeInUse]

/-! ## The law -/

/-- The first part of the law: in a test the velocity does not close, and no port holds. -/
def State.testOpens (s : State) : Prop :=
  s.seq.state.inTest = true →
    0 ≤ s.drive.velocity ∧ (s.arbiter.holder = none ∨ s.arbiter.holder = some .sequencer)

theorem State.openingLaw_iff (s : State) : s.openingLaw ↔ s.testOpens ∧ s.configItems.opens
    ∧ s.config.image.items.opens ∧ ∀ c ∈ s.config.inFlight, c.opens := Iff.rfl

/-- Where the programs, the drive's configuration and the store are the same. -/
theorem State.openingLaw_congr {s t : State} (opens : t.testOpens) (driveConfig : t.drive.config = s.drive.config)
    (programs : t.programs = s.programs) (config : t.config = s.config) (h : s.openingLaw) : t.openingLaw := by
  obtain ⟨-, items, image, inFlight⟩ := s.openingLaw_iff.mp h
  exact t.openingLaw_iff.mpr
    ⟨opens, State.configItems_opens_of_same driveConfig programs items, by rwa [config], by rwa [config]⟩

theorem State.testOpens_of_outside {s : State} (test : s.seq.state.inTest = false) : s.testOpens := fun inTest => by
  rw [test] at inTest
  cases inTest

theorem State.testOpens_of_same {s t : State} (velocity : t.drive.velocity = s.drive.velocity)
    (holder : t.arbiter.holder = s.arbiter.holder) (state : t.seq.state.inTest = true → s.seq.state.inTest = true)
    (h : s.testOpens) : t.testOpens := fun inTest => by
  rw [velocity, holder]
  exact h (state inTest)

/-- From one state of a test to another. -/
theorem State.openingLaw_of_inTest {s t : State} (h : s.openingLaw) (test : s.seq.state.inTest = true)
    (drive : t.drive = s.drive) (arbiter : t.arbiter = s.arbiter) (programs : t.programs = s.programs)
    (config : t.config = s.config) : t.openingLaw :=
  State.openingLaw_congr (State.testOpens_of_same (by rw [drive]) (by rw [arbiter]) (fun _ => test) h.1)
    (by rw [drive]) programs config h

/-- A write that does not close. -/
theorem State.writeVelocity_velocity_nonneg (s : State) (source : VelocitySource) (v : Int)
    (opens : 0 ≤ v) (vmax : 0 ≤ s.drive.config.vmax) : 0 ≤ (s.writeVelocity source v).drive.velocity := by
  have clamped : 0 ≤ clampInt (-s.drive.config.vmax) s.drive.config.vmax v := by
    rw [clampInt_eq_max_min (by omega)]
    omega
  unfold State.writeVelocity
  dsimp only
  split
  · exact le_rfl
  · split
    · exact clamped
    · exact clamped

theorem State.seqWrite_testOpens (s : State) (v : Int) (opens : 0 ≤ v) (vmax : 0 ≤ s.drive.config.vmax)
    (h : s.testOpens) : (s.seqWrite v).testOpens := by
  intro test
  obtain ⟨velocity, holder⟩ := h (by simpa using test)
  refine ⟨?_, by simpa using holder⟩
  unfold State.seqWrite
  split
  · exact s.writeVelocity_velocity_nonneg _ v opens vmax
  · exact velocity

/-- A test that SEQUENCER starts while it holds opens. -/
theorem State.startTest_openingLaw (s : State)
    (holder : s.arbiter.holder = some .sequencer) (h : s.openingLaw) : s.startTest.openingLaw := by
  obtain ⟨-, items, -, -⟩ := s.openingLaw_iff.mp h
  rcases s.startTest_cases with none | ⟨-, -, -, -, b, program, written⟩
  · rwa [none]
  · refine State.openingLaw_congr ?_ (by simp [written]) (by simp) (by simp) h
    intro _
    refine ⟨?_, .inr (by simpa using holder)⟩
    rw [written, State.seqWrite, if_pos holder]
    exact s.writeVelocity_velocity_nonneg _ _ (s.approach_opens b program items) items.1

theorem State.gripsStartReady_holder {s : State} (h : s.gripsStartReady = true) :
    s.arbiter.holder = some .sequencer := by
  simp only [State.gripsStartReady, Bool.and_eq_true, beq_iff_eq] at h
  exact h.1.1.1.1.2

theorem ConfigItems.defaults_opens : ConfigItems.defaults.opens := by decide

theorem ConfigStore.afterLoss_opens (c : ConfigStore) (image : c.image.items.opens)
    (inFlight : ∀ i ∈ c.inFlight, i.opens) : c.afterLoss.items.opens := by
  unfold ConfigStore.afterLoss
  split
  next items h => exact inFlight items h
  next => exact image

/-- An elementary change keeps the law of the opening direction. -/
theorem Change.openingLaw {s t : State} (c : Change s t) (h : s.openingLaw) : t.openingLaw := by
  obtain ⟨opens, items, image, inFlight⟩ := s.openingLaw_iff.mp h
  cases c with
  | aside a =>
    refine (State.openingLaw_iff _).mpr ⟨?_, ?_, by rwa [a.image], by rwa [a.inFlight]⟩
    · exact State.testOpens_of_same a.velocity (by rw [a.arbiter]) (by rw [a.state]; exact id) opens
    · exact State.configItems_opens_of_same a.driveConfig a.programs items
  | stop => exact State.openingLaw_congr (s := s) (fun test => ⟨le_rfl, (opens test).2⟩) rfl rfl rfl h
  | dropHolder cause =>
    obtain ⟨-, velocity, -, -, config⟩ := s.dropHolder_drive cause
    exact State.openingLaw_congr (fun _ => ⟨by rw [velocity], .inl (by simp)⟩) config (by simp) (by simp) h
  | take q latch free waiting test | grant q rest waiting free test =>
    exact State.openingLaw_congr (s := s) (State.testOpens_of_outside test) rfl rfl rfl h
  | write v nonneg =>
    exact State.openingLaw_congr (s.seqWrite_testOpens v (nonneg items) items.1 opens) (by simp) (by simp) (by simp) h
  | move q v holder port =>
    refine State.openingLaw_congr (fun test => ?_) (by simp) (by simp) (by simp) h
    rcases (opens (by simpa using test)).2 with free | sequencer
    · simp [free] at holder
    · simp only [sequencer, Option.some.injEq] at holder
      exact absurd holder.symm port
  | leave | request | pulse | takeUp | position | inputs | records | load | widen | openSeen | handOff | track =>
    exact State.openingLaw_congr (State.testOpens_of_same rfl rfl id opens) rfl rfl rfl h
  | driveConfig c fields limits =>
    refine (State.openingLaw_iff _).mpr ⟨opens, (State.configItems_opens_iff _).mpr ⟨?_, ?_⟩, image, inFlight⟩
    · have vmax := (lowestFailing_eq_none_iff _).mp fields (2, within 1000 2000000 c.vmax) (by simp [driveConfigChecks])
      exact le_trans (by decide) ((within_eq_true_iff _ _ _).mp vmax).1
    · exact (s.configItems_opens_iff.mp items).2
  | latchSet => exact State.openingLaw_congr (s := s) (fun _ => ⟨le_rfl, .inl rfl⟩) rfl rfl rfl h
  | enqueue e =>
    refine (State.openingLaw_iff _).mpr ⟨opens, ?_, image, inFlight⟩
    exact State.configItems_opens_of_counted (s := s) (slot := e.slot) (f := (· + 1)) rfl rfl items
  | withdraw e =>
    refine (State.openingLaw_iff _).mpr ⟨opens, ?_, image, inFlight⟩
    exact State.configItems_opens_of_counted (s := s) (slot := e.slot) (f := (· - 1)) rfl rfl items
  | capture x =>
    refine State.openingLaw_congr ?_ (by simp) (by simp) (by simp) h
    exact State.testOpens_of_same (by simp) (by simp) (by simp) opens
  | program slot b unused body =>
    refine (State.openingLaw_iff _).mpr ⟨opens, (State.configItems_opens_iff _).mpr ⟨items.1, ?_⟩, image, inFlight⟩
    intro p mem x some
    obtain ⟨n, at_n⟩ := List.mem_iff_getElem?.mp mem
    obtain ⟨q, at_q, rfl⟩ := getElem?_modify_eq_some.mp at_n
    split at some
    · exact body x some
    · exact (s.configItems_opens_iff.mp items).2 q (List.mem_of_getElem? at_q) x some
  | arm b =>
    have outside : (s.headArmed b).testOpens := State.testOpens_of_outside rfl
    exact State.openingLaw_congr outside (by simp [State.headArmed]) (by simp [State.headArmed])
      (by simp [State.headArmed]) h
  | disarm =>
    have outside : s.undoArming.testOpens := State.testOpens_of_outside rfl
    exact State.openingLaw_congr outside (by simp) (by simp) (by simp) h
  | start ready =>
    exact s.startTest_openingLaw (State.gripsStartReady_holder ready) h
  | reach x f st source preload => exact State.openingLaw_of_inTest h (by rw [preload]; rfl) rfl rfl rfl rfl
  | enterRun source attach => exact State.openingLaw_of_inTest h (by rw [attach]; rfl) rfl rfl rfl rfl
  | hold st turn =>
    have test : s.seq.state.inTest = true := by rcases turn with ⟨state, -⟩ | ⟨state, -⟩ <;> rw [state] <;> rfl
    exact State.openingLaw_of_inTest h test rfl rfl rfl rfl
  | ending test => exact State.openingLaw_of_inTest h (by simp [SeqState.inTest, test]) rfl rfl rfl rfl
  | complete e r state head id =>
    refine (State.openingLaw_iff _).mpr ⟨State.testOpens_of_outside rfl, ?_, ?_, ?_⟩
    · refine State.configItems_opens_of_removed (by simp [State.testFiled]) head ?_ items
      obtain ⟨rest, cons⟩ := List.head?_eq_some_iff.mp head
      simp [State.testFiled, State.removeHead, cons, State.changeInUse]
    · simpa [State.testFiled] using image
    · simpa [State.testFiled] using inFlight
  | store =>
    refine (State.openingLaw_iff _).mpr ⟨opens, items, image, fun c copy => ?_⟩
    obtain rfl := Option.mem_some_iff.mp copy
    exact items
  | stored i copy =>
    exact (State.openingLaw_iff _).mpr ⟨opens, items, inFlight _ copy, by simp⟩
  | blank power =>
    refine (State.openingLaw_iff _).mpr ⟨State.testOpens_of_outside rfl, ?_, ?_, by simp [State.blank]⟩
    · exact (State.configItems_opens_iff _).mpr ⟨ConfigItems.defaults_opens.1, by simp [State.blank, State.reset]⟩
    · exact s.config.afterLoss_opens image inFlight
  | started loaded notices source =>
    refine (State.openingLaw_iff _).mpr ⟨State.testOpens_of_outside rfl, ?_, image, inFlight⟩
    have loadedOpens : loaded.opens := by
      rcases source with rfl | rfl
      · exact image
      · exact ConfigItems.defaults_opens
    refine (State.configItems_opens_iff _).mpr ⟨loadedOpens.1, ?_⟩
    have bodies : ∀ b, some b ∈ loaded.programs → 0 ≤ b.approach := by simpa using loadedOpens.2
    simp only [State.started, List.mem_map, forall_exists_index, and_imp]
    rintro _ body mem rfl b rfl
    exact bodies b mem
  | reset =>
    refine (State.openingLaw_iff _).mpr ⟨State.testOpens_of_outside rfl, ?_, ?_, ?_⟩
    · have config : s.blocksReset.drive.config = s.drive.config := by
        simp [State.blocksReset, s.resetTest.resetMotion_motion]
      have programs : s.blocksReset.programs = s.resetTest.programs := by simp [State.blocksReset]
      rcases s.resetTest_cases with ⟨e, r, -, -, -, -, counted⟩ | ⟨-, -, -, same⟩
      · exact State.configItems_opens_of_counted config (programs.trans counted) items
      · exact State.configItems_opens_of_same config (programs.trans same) items
    · simpa [State.blocksReset] using image
    · simpa [State.blocksReset] using inFlight

theorem FirstChange.openingLaw {s t : State} (c : FirstChange s t) (h : s.openingLaw) : t.openingLaw := by
  cases c with
  | none => exact h
  | grips | delivery => exact State.openingLaw_congr (State.testOpens_of_same rfl rfl id h.1) rfl rfl rfl h
  | start _ _ holder => exact s.startTest_openingLaw holder h

/-- Settles O59, each elementary change of a step keeping the law. -/
theorem testsNeverClose : Obligations.TestsNeverClose := fun _ _ hs h =>
  step_keeps FirstChange.openingLaw Change.openingLaw h hs

end Sys2Proof.Machine
end

section
/-! PROOFS. Every step within a test keeps its range from narrowing, its origins, its source order and its maximum. -/

namespace Sys2Proof.Machine

/-! ## The law in two parts -/

/-- The part of the law that every elementary change keeps alone: no tare in a test, no source and no origins too
early, and a maximum from the origins on. -/
def State.courseLaw (s : State) : Prop :=
  (s.seq.state.inTest = true → s.load.tare = none)
  ∧ (s.seq.state ∈ [SeqState.idle, .armed, .preload, .attach] → s.strain.source = none)
  ∧ (s.seq.state ∈ [SeqState.idle, .armed, .preload] → s.strain.p0 = none)
  ∧ (s.seq.state.inTest = true → s.strain.p0.isSome = true → s.eval.maximum.isSome = true)

/-- The rest of it, which a delivery breaks until the sample is measured: the maximum covers the latest force. -/
def State.covers (s : State) : Prop :=
  s.seq.state.inTest = true → s.strain.p0.isSome = true →
    ∀ m ∈ s.eval.maximum, ∀ f ∈ s.load.last.force, f ≤ m.force

theorem State.sampleLaw_iff (s : State) : s.sampleLaw ↔ s.courseLaw ∧ s.covers := by
  unfold State.sampleLaw State.courseLaw State.covers
  constructor
  · rintro ⟨tare, source, p0, maximum⟩
    exact ⟨⟨tare, source, p0, fun test reached => (maximum test reached).1⟩,
      fun test reached => (maximum test reached).2⟩
  · rintro ⟨⟨tare, source, p0, present⟩, covers⟩
    exact ⟨tare, source, p0, fun test reached => ⟨present test reached, covers test reached⟩⟩

/-! ## The course of a test -/

theorem State.courseLaw_of_same {s t : State} (tare : t.load.tare = s.load.tare)
    (source : t.strain.source = s.strain.source) (p0 : t.strain.p0 = s.strain.p0) (state : t.seq.state = s.seq.state)
    (maximum : t.eval.maximum = s.eval.maximum) (h : s.courseLaw) : t.courseLaw := by
  simpa only [State.courseLaw, tare, source, p0, state, maximum] using h

theorem State.courseLaw_of_idle {s : State} (source : s.strain.source = none) (p0 : s.strain.p0 = none)
    (state : s.seq.state = .idle) : s.courseLaw := by
  simp [State.courseLaw, source, p0, state, SeqState.inTest, SeqState.underTest]

/-- Within RUN, HOLD and ENDING. -/
theorem State.courseLaw_of_late {s t : State} (before : s.seq.state.inTest = true)
    (late : t.seq.state ∈ [SeqState.run, .hold, .ending]) (tare : t.load.tare = s.load.tare)
    (p0 : t.strain.p0 = s.strain.p0) (maximum : t.eval.maximum = s.eval.maximum) (h : s.courseLaw) :
    t.courseLaw := by
  obtain ⟨noTare, -, -, present⟩ := h
  have after : t.seq.state ∉ [SeqState.idle, .armed, .preload, .attach] := by
    revert late
    cases t.seq.state <;> decide
  refine ⟨fun _ => by rw [tare, noTare before], fun early => absurd early after, fun early => ?_, fun _ => ?_⟩
  · exact absurd (by simp only [List.mem_cons] at early ⊢; tauto) after
  · rw [p0, maximum]
    exact present before

/-- What the start of a test leaves of the strain and stress unit. -/
theorem State.startTest_strain (s : State) :
    s.startTest.strain.source = s.strain.source ∧ s.startTest.strain.p0 = s.strain.p0
      ∧ s.startTest.strain.fPre = s.strain.fPre := by
  unfold State.startTest
  split
  · simp
  · exact ⟨rfl, rfl, rfl⟩

theorem State.startTest_courseLaw (s : State) (armed : s.seq.state = .armed) (tare : s.load.tare = none)
    (h : s.courseLaw) : s.startTest.courseLaw := by
  obtain ⟨-, source, p0, -⟩ := id h
  obtain ⟨source', p0', -⟩ := s.startTest_strain
  rcases s.startTest_cases with none | ⟨state, -⟩
  · rwa [none]
  · have noSource : s.startTest.strain.source = none := by rw [source', source (by simp [armed])]
    have noOrigins : s.startTest.strain.p0 = none := by rw [p0', p0 (by simp [armed])]
    exact ⟨fun _ => by simpa using tare, fun _ => noSource, fun _ => noOrigins, by simp [noOrigins]⟩

theorem State.gripsStartReady_tare {s : State} (h : s.gripsStartReady = true) : s.load.tare = none := by
  simp only [State.gripsStartReady, Bool.and_eq_true, Option.isNone_iff_eq_none] at h
  exact h.1.2

/-- An elementary change keeps the course of the test. -/
theorem Change.courseLaw {s t : State} (c : Change s t) (h : s.courseLaw) : t.courseLaw := by
  obtain ⟨tare, source, p0, present⟩ := id h
  cases c with
  | aside a => exact State.courseLaw_of_same a.tare a.source a.p0 a.state a.maximum h
  | stop | leave | request | take | grant | pulse | takeUp | position | driveConfig | latchSet | inputs | records
    | openSeen | store | stored | enqueue | withdraw | program => exact State.courseLaw_of_same rfl rfl rfl rfl rfl h
  | dropHolder | write | move | capture =>
    exact State.courseLaw_of_same (by simp) (by simp) (by simp) (by simp) (by simp) h
  | load l outside =>
    have notInTest : s.seq.state.inTest ≠ true := fun test => by simp [test, tare test] at outside
    exact ⟨fun test => absurd test notInTest, source, p0, fun test => absurd test notInTest⟩
  | widen k wider =>
    exact State.courseLaw_of_same (s := s) (by simp [LoadUnit.setRange_eq]) rfl rfl rfl rfl h
  | arm b state =>
    refine ⟨fun test => by simp [State.headArmed, SeqState.inTest, SeqState.underTest] at test, fun _ => ?_,
      fun _ => ?_, fun test => by simp [State.headArmed, SeqState.inTest, SeqState.underTest] at test⟩
    · simpa [State.headArmed] using source (by simp [state])
    · simpa [State.headArmed] using p0 (by simp [state])
  | disarm state =>
    exact State.courseLaw_of_idle (by simpa using source (by simp [state])) (by simpa using p0 (by simp [state])) rfl
  | start ready =>
    exact s.startTest_courseLaw (State.gripsStartReady_armed ready) (State.gripsStartReady_tare ready) h
  | reach x f st src preload tracked next =>
    have noSource := source (by simp [preload])
    have noTare := tare (by rw [preload]; rfl)
    obtain ⟨m, isMaximum, -⟩ := tracked
    have some_maximum : s.eval.maximum.isSome = true := by rw [isMaximum]; rfl
    rcases next with ⟨rfl, rfl⟩ | ⟨rfl, rfl⟩
    · exact ⟨fun _ => noTare, by simp, by simp, fun _ _ => some_maximum⟩
    · exact ⟨fun _ => noTare, fun _ => noSource, by simp, fun _ _ => some_maximum⟩
  | enterRun src attach =>
    exact State.courseLaw_of_late (s := s) (by rw [attach]; rfl) (by simp [State.enterRun]) (by simp) rfl rfl h
  | hold st turn =>
    rcases turn with ⟨state, rfl⟩ | ⟨state, rfl⟩
    · exact State.courseLaw_of_late (s := s) (by rw [state]; rfl) (by simp) rfl rfl rfl h
    · exact State.courseLaw_of_late (s := s) (by rw [state]; rfl) (by simp) rfl rfl rfl h
  | handOff extensometer =>
    refine ⟨tare, fun early => ?_, p0, present⟩
    rw [source early] at extensometer
    cases extensometer
  | track x =>
    obtain ⟨m, isMaximum, -⟩ := s.eval.track_covers x
    exact ⟨tare, source, p0, fun _ _ => by rw [isMaximum]; rfl⟩
  | ending test =>
    exact State.courseLaw_of_late (s := s) (by simp [SeqState.inTest, test]) (by simp) rfl rfl rfl h
  | complete | blank | started | reset => exact State.courseLaw_of_idle rfl rfl rfl

/-! ## The maximum -/

theorem State.covers_of_outside {s : State} (test : s.seq.state.inTest = false) : s.covers := fun inTest => by
  rw [test] at inTest
  cases inTest

theorem State.covers_of_same {s t : State} (p0 : t.strain.p0 = s.strain.p0)
    (state : t.seq.state.inTest = true → s.seq.state.inTest = true) (maximum : t.eval.maximum = s.eval.maximum)
    (force : t.load.last.force = s.load.last.force) (h : s.covers) : t.covers := fun test => by
  rw [p0, maximum, force]
  exact h (state test)

theorem State.startTest_covers (s : State) (armed : s.seq.state = .armed) (course : s.courseLaw) :
    s.startTest.covers := by
  have noOrigins : s.startTest.strain.p0 = none := by rw [s.startTest_strain.2.1, course.2.2.1 (by simp [armed])]
  exact fun _ reached => by simp [noOrigins] at reached

/-- The tracker's maximum covers what the maximum before it covered. -/
theorem Evaluator.track_ge (e : Evaluator) (x : TestSample) {m k : TestSample} (before : e.maximum = some m)
    (after : (e.track x).maximum = some k) : m.force ≤ k.force := by
  simp only [Evaluator.track, before] at after
  split at after
  next less =>
    obtain rfl := Option.some.inj after
    exact less.le
  next => exact le_of_eq (by rw [Option.some.inj (before.symm.trans after)])

/-- An elementary change keeps the latest force covered. -/
theorem Change.covers {s t : State} (c : Change s t) (course : s.courseLaw) (h : s.covers) : t.covers := by
  cases c with
  | aside a => exact State.covers_of_same a.p0 (by rw [a.state]; exact id) a.maximum a.force h
  | stop | leave | request | take | grant | pulse | takeUp | position | driveConfig | latchSet | inputs | records
    | openSeen | store | stored | enqueue | withdraw | program | handOff =>
    exact State.covers_of_same rfl id rfl rfl h
  | dropHolder | write | move | capture =>
    exact State.covers_of_same (by simp) (by simp) (by simp) (by simp) h
  | load l outside =>
    refine fun test => absurd test (fun inTest : s.seq.state.inTest = true => ?_)
    simp [inTest, course.1 inTest] at outside
  | widen k wider => exact State.covers_of_same (s := s) rfl id rfl (by simp [LoadUnit.setRange_eq]) h
  | arm | disarm | complete | blank | started | reset => exact State.covers_of_outside rfl
  | start ready => exact s.startTest_covers (State.gripsStartReady_armed ready) course
  | reach x f st source preload tracked =>
    obtain ⟨m, isMaximum, covered⟩ := tracked
    intro _ _ k isMaximum'
    obtain rfl := Option.some.inj (isMaximum.symm.trans isMaximum')
    exact covered
  | enterRun source attach => exact State.covers_of_same (s := s) rfl (fun _ => by rw [attach]; rfl) rfl rfl h
  | hold st turn =>
    have test : s.seq.state.inTest = true := by rcases turn with ⟨state, -⟩ | ⟨state, -⟩ <;> rw [state] <;> rfl
    exact State.covers_of_same (s := s) rfl (fun _ => test) rfl rfl h
  | track x =>
    intro test reached k isMaximum f latest
    obtain ⟨m, before⟩ := Option.isSome_iff_exists.mp (course.2.2.2 test reached)
    exact (h test reached m before f latest).trans (s.eval.track_ge x before isMaximum)
  | ending test => exact State.covers_of_same (s := s) rfl (fun _ => by simp [SeqState.inTest, test]) rfl rfl h

/-! ## What a step within a test does -/

theorem State.testGoesOn_refl (s : State) : s.testGoesOn s :=
  ⟨le_rfl, id, fun h => by rw [h]; rfl, fun _ => ⟨rfl, rfl⟩, fun m h => ⟨m, h, le_rfl⟩⟩

theorem State.testGoesOn_trans {s t u : State} (h : s.testGoesOn t) (k : t.testGoesOn u) : s.testGoesOn u := by
  obtain ⟨range, crosshead, extensometer, origins, maximum⟩ := h
  obtain ⟨range', crosshead', extensometer', origins', maximum'⟩ := k
  refine ⟨range'.trans range, crosshead' ∘ crosshead, fun source => ?_, fun reached => ?_, fun m isMaximum => ?_⟩
  · match next : t.strain.source with
    | none => simp [next] at extensometer; exact absurd source extensometer
    | some .extensometer => exact extensometer' next
    | some .crosshead => rw [crosshead' next]; rfl
  · obtain ⟨p0, fPre⟩ := origins reached
    obtain ⟨p0', fPre'⟩ := origins' (p0 ▸ reached)
    exact ⟨p0'.trans p0, fPre'.trans fPre⟩
  · obtain ⟨k, isMaximum', le⟩ := maximum m isMaximum
    obtain ⟨l, isMaximum'', le'⟩ := maximum' k isMaximum'
    exact ⟨l, isMaximum'', le.trans le'⟩

theorem State.testGoesOn_of_same {s t : State} (range : t.load.activeRange = s.load.activeRange)
    (source : t.strain.source = s.strain.source) (p0 : t.strain.p0 = s.strain.p0) (fPre : t.strain.fPre = s.strain.fPre)
    (maximum : t.eval.maximum = s.eval.maximum) : s.testGoesOn t := by
  have same := s.testGoesOn_refl
  simpa only [State.testGoesOn, range, source, p0, fPre, maximum] using same

/-- After a test: no test is under way, and none can start by the grips before they open and close again. -/
def State.testOver (s : State) : Prop :=
  s.seq.state.inTest = false ∧ (s.seq.state = .armed → s.seq.openSeen = true → s.inputs.grips = false)

theorem State.testOver_of_idle {s : State} (h : s.seq.state = .idle) : s.testOver := by
  simp [State.testOver, h, SeqState.inTest, SeqState.underTest]

theorem State.testOver_of_same {s t : State} (state : t.seq.state = s.seq.state)
    (openSeen : t.seq.openSeen = s.seq.openSeen) (grips : t.inputs.grips = s.inputs.grips) (h : s.testOver) :
    t.testOver := by
  simpa only [State.testOver, state, openSeen, grips] using h

theorem State.gripsStartReady_grips {s : State} (h : s.gripsStartReady = true) :
    s.seq.openSeen = true ∧ s.inputs.grips = true := by
  simp only [State.gripsStartReady, Bool.and_eq_true] at h
  exact ⟨h.1.1.1.2, h.1.1.2⟩

/-- After a test no elementary change begins another one. -/
theorem Change.testOver {s t : State} (c : Change s t) (h : s.testOver) : t.testOver := by
  have notInTest {st : SeqState} (test : st.inTest = true) (state : s.seq.state = st) : False := by
    rw [← state, h.1] at test
    cases test
  cases c with
  | aside a => exact State.testOver_of_same a.state a.openSeen a.grips h
  | stop | leave | request | take | grant | pulse | takeUp | position | driveConfig | latchSet | records
    | store | stored | enqueue | program | handOff | load | widen | track | withdraw => exact h
  | inputs i grips => exact State.testOver_of_same (s := s) rfl rfl grips h
  | dropHolder | write | move | capture =>
    exact State.testOver_of_same (by simp) (by simp) (by simp) h
  | arm b => exact ⟨rfl, fun _ seen => by simpa [State.headArmed] using seen⟩
  | openSeen grips => exact ⟨h.1, fun _ _ => grips⟩
  | start ready =>
    obtain ⟨seen, closed⟩ := State.gripsStartReady_grips ready
    rw [h.2 (State.gripsStartReady_armed ready) seen] at closed
    cases closed
  | reach x f st source preload => exact (notInTest rfl preload).elim
  | enterRun source attach => exact (notInTest rfl attach).elim
  | hold st turn => rcases turn with ⟨state, -⟩ | ⟨state, -⟩ <;> exact (notInTest rfl state).elim
  | ending test => exact (notInTest (by simp [SeqState.inTest, test]) rfl).elim
  | disarm | complete | blank | started | reset => exact State.testOver_of_idle rfl

/-- An elementary change within a test goes on with it or ends it. -/
theorem Change.testGoesOn {s t : State} (c : Change s t) (course : s.courseLaw) (test : s.seq.state.inTest = true) :
    (t.seq.state.inTest = true ∧ s.testGoesOn t) ∨ t.testOver := by
  have armed : s.seq.state ≠ .armed := fun state => by rw [state] at test; cases test
  have idle := SeqState.ne_idle_of_inTest test
  cases c with
  | aside a =>
    exact .inl ⟨by rw [a.state, test], State.testGoesOn_of_same a.range a.source a.p0 a.fPre a.maximum⟩
  | stop | leave | request | take | grant | pulse | takeUp | position | driveConfig | latchSet | records
    | store | stored | enqueue | program | inputs | openSeen | withdraw =>
    exact .inl ⟨test, State.testGoesOn_of_same rfl rfl rfl rfl rfl⟩
  | dropHolder | write | move | capture =>
    exact .inl ⟨by simpa using test,
      State.testGoesOn_of_same (by simp) (by simp) (by simp) (by simp) (by simp)⟩
  | load l outside => simp [test, course.1 test] at outside
  | widen k wider =>
    refine .inl ⟨test, ?_, s.testGoesOn_refl.2⟩
    rw [show (s.load.setRange k).activeRange = k by simp [LoadUnit.setRange_eq]]
    exact wider
  | arm b state => exact absurd state idle
  | disarm | complete | blank | started | reset => exact .inr (State.testOver_of_idle rfl)
  | start ready => exact absurd (State.gripsStartReady_armed ready) armed
  | reach x f st source preload tracked next =>
    obtain ⟨-, noSource, noOrigins, -⟩ := course
    have source' := noSource (by simp [preload])
    have origins := noOrigins (by simp [preload])
    refine .inl ⟨?_, le_rfl, by simp [source'], by simp [source'], by simp [origins], fun m h => ⟨m, h, le_rfl⟩⟩
    rcases next with ⟨rfl, -⟩ | ⟨rfl, -⟩ <;> rfl
  | enterRun source attach =>
    have source' := course.2.1 (by simp [attach])
    exact .inl ⟨rfl, le_rfl, by simp [source'], by simp [source'], fun _ => ⟨rfl, rfl⟩, fun m h => ⟨m, h, le_rfl⟩⟩
  | hold st turn =>
    refine .inl ⟨?_, State.testGoesOn_of_same rfl rfl rfl rfl rfl⟩
    rcases turn with ⟨-, rfl⟩ | ⟨-, rfl⟩ <;> rfl
  | handOff extensometer =>
    exact .inl ⟨test, le_rfl, by simp [extensometer], fun _ => rfl, fun _ => ⟨rfl, rfl⟩, fun m h => ⟨m, h, le_rfl⟩⟩
  | track x =>
    refine .inl ⟨test, le_rfl, id, s.testGoesOn_refl.2.2.1, fun _ => ⟨rfl, rfl⟩, fun m isMaximum => ?_⟩
    obtain ⟨k, isMaximum', -⟩ := s.eval.track_covers x
    exact ⟨k, isMaximum', s.eval.track_ge x isMaximum isMaximum'⟩
  | ending => exact .inl ⟨rfl, State.testGoesOn_of_same rfl rfl rfl rfl rfl⟩

/-! ## The law along a step that began in `s` -/

/-- The course of the test, and what a step that began in `s` has done so far. -/
def State.courseFrom (s t : State) : Prop :=
  t.courseLaw ∧ (s.seq.state.inTest = true → (t.seq.state.inTest = true ∧ s.testGoesOn t) ∨ t.testOver)

theorem Change.courseFrom {r s t : State} (c : Change s t) (h : r.courseFrom s) : r.courseFrom t := by
  obtain ⟨course, sofar⟩ := h
  refine ⟨c.courseLaw course, fun test => ?_⟩
  rcases sofar test with ⟨inTest, goesOn⟩ | ended
  · rcases c.testGoesOn course inTest with ⟨inTest', goesOn'⟩ | ended
    · exact .inl ⟨inTest', State.testGoesOn_trans goesOn goesOn'⟩
    · exact .inr ended
  · exact .inr (c.testOver ended)

theorem State.courseFrom_self (s : State) (h : s.courseLaw) : s.courseFrom s :=
  ⟨h, fun test => .inl ⟨test, s.testGoesOn_refl⟩⟩

/-- The whole law along a step. -/
def State.sampleFrom (s t : State) : Prop := s.courseFrom t ∧ t.covers

theorem Change.sampleFrom {r s t : State} (c : Change s t) (h : r.sampleFrom s) : r.sampleFrom t :=
  ⟨c.courseFrom h.1, c.covers h.1.1 h.2⟩

/-- In a test the head has its program. -/
theorem State.headProgram_of_inTest {s : State} (heads : s.testLaw) (counts : s.inUseLaw)
    (test : s.seq.state.inTest = true) : s.headProgram.isSome = true := by
  obtain ⟨agrees, -⟩ := s.testLaw_iff.mp heads
  match queue : s.queue with
  | [] =>
    rw [queue] at agrees
    exact absurd agrees (SeqState.ne_idle_of_inTest test)
  | e :: rest => simpa [State.headProgram, queue] using counts.2 e (by simp [queue])

/-- Once the sample of the test is measured the maximum covers the latest force. -/
theorem State.measured_covers (s : State) (heads : s.testLaw) (counts : s.inUseLaw) (course : s.courseLaw) :
    s.measured.covers := by
  unfold State.measured
  split
  next f b force program =>
    split
    next =>
      intro _ _ m isMaximum g latest
      have measured := s.measure_aside b f
      obtain ⟨k, isMaximum', covered⟩ := s.tracked_covers (s.sampleOf f) force
      obtain rfl := Option.some.inj (isMaximum'.symm.trans (measured.maximum ▸ isMaximum))
      exact covered g (by simpa using latest)
    next elsewhere =>
      intro test reached
      obtain ⟨-, -, origins, -⟩ := course
      have early : s.seq.state ∈ [SeqState.idle, .armed, .preload] := by
        cases state : s.seq.state <;> simp [state, reached] at elsewhere ⊢
      simp [origins early] at reached
  next absent =>
    intro test reached m isMaximum f latest
    obtain ⟨b, program⟩ := Option.isSome_iff_exists.mp (State.headProgram_of_inTest heads counts test)
    exact (absent f b latest program).elim

theorem FirstChange.sampleFrom {s u : State} (first : FirstChange s u) (load : u.load = s.load) (h : s.sampleLaw) :
    s.sampleFrom u := by
  obtain ⟨course, covers⟩ := s.sampleLaw_iff.mp h
  cases first with
  | none => exact ⟨s.courseFrom_self course, covers⟩
  | grips b =>
    exact ⟨⟨course, fun test => .inl ⟨test, State.testGoesOn_of_same rfl rfl rfl rfl rfl⟩⟩, covers⟩
  | delivery l =>
    obtain rfl : l = s.load := load
    exact ⟨s.courseFrom_self course, covers⟩
  | start armed tare holder =>
    refine ⟨⟨s.startTest_courseLaw armed tare course, fun test => ?_⟩, s.startTest_covers armed course⟩
    rw [armed] at test
    cases test

theorem StepChanges.sampleFrom {s t : State} (h : StepChanges s t) (heads : s.testLaw) (counts : s.inUseLaw)
    (law : s.sampleLaw) : s.sampleFrom t := by
  cases h with
  | plain u first load changes => exact changes.keeps Change.sampleFrom (first.sampleFrom load law)
  | slot l v tare range loaded after =>
    obtain ⟨course, -⟩ := s.sampleLaw_iff.mp law
    let delivered : State := { s with load := l }
    have begun : s.courseFrom delivered :=
      ⟨State.courseLaw_of_same (s := s) tare rfl rfl rfl rfl course,
        fun test => .inl ⟨test, State.testGoesOn_of_same range rfl rfl rfl rfl⟩⟩
    have heads' : v.testLaw := loaded.keeps Change.testLaw (State.testLaw_of_same (s := s) rfl rfl rfl heads)
    have counts' : v.inUseLaw := loaded.keeps Change.inUseLaw (State.inUseLaw_of_same (s := s) rfl rfl counts)
    have reported : s.courseFrom v := loaded.keeps Change.courseFrom begun
    have measured : s.sampleFrom v.measured :=
      ⟨v.measured_changes.keeps Change.courseFrom reported, v.measured_covers heads' counts' reported.1⟩
    exact after.keeps Change.sampleFrom measured

/-- Settles O60, each elementary change of a step keeping the law, and a conversion slot giving it back when the sample is
measured. -/
theorem testsKeepRangeSourceAndMaximum : Obligations.TestsKeepRangeSourceAndMaximum := by
  intro s t heads counts law h
  obtain ⟨s', aside, made⟩ := step_changes h
  obtain ⟨course, covers⟩ := s.sampleLaw_iff.mp law
  have before := Change.aside aside
  have law' : s'.sampleLaw := s'.sampleLaw_iff.mpr ⟨before.courseLaw course, before.covers course covers⟩
  obtain ⟨⟨course', sofar⟩, covers'⟩ := made.sampleFrom (before.testLaw heads) (before.inUseLaw counts) law'
  refine ⟨t.sampleLaw_iff.mpr ⟨course', covers'⟩, fun test inTest => ?_⟩
  rcases sofar (by rwa [aside.state]) with ⟨-, goesOn⟩ | ⟨outside, -⟩
  · exact State.testGoesOn_trans
      (State.testGoesOn_of_same aside.range aside.source aside.p0 aside.fPre aside.maximum) goesOn
  · rw [outside] at inTest
    cases inTest

end Sys2Proof.Machine
end

section
/-! PROOFS. A step with a command at the front, and with none: the tick. -/

namespace Sys2Proof.Machine

theorem step_of_front {s : State} {c : Instr} {rest : List Instr} (h : s.pending = c :: rest) :
    step s = exec c { s with pending := rest } := by
  rw [step, h]

theorem step_of_empty {s : State} (h : s.pending = []) : step s = .next s.idle := by
  rw [step, h]

/-- Settles O1. -/
theorem stepRunsFront : Obligations.StepRunsFront := fun _ _ _ h => step_of_front h

/-! ## The tick -/

theorem Shifter.tick_of_answering (c : QueuedCommand) (second : Bool) (n : Nat) :
    (Shifter.command c second (some n)).tick = .command c second (some (min (n + 1) 50000)) := rfl

/-- The shifter stays as it is while no answer timer runs. -/
theorem Shifter.tick_of_not_answering {x : Shifter} (h : ∀ c second n, x ≠ .command c second (some n)) :
    x.tick = x := by
  unfold Shifter.tick
  split
  next c second n => exact absurd rfl (h c second n)
  next => rfl

/-- A microsecond of the meter touches its counter alone. -/
theorem SpeedMeter.micro_eq (m : SpeedMeter) : m.micro = { m with counter := m.micro.counter } := by
  unfold SpeedMeter.micro
  dsimp only
  split <;> rfl

theorem SpeedMeter.micro_of_interval {m : SpeedMeter}
    (h : m.inFlight = .intervalWaiting ∨ ∃ d, m.inFlight = .intervalTiming d) :
    m.micro.counter = min (m.counter + 1) 65535 := by
  unfold SpeedMeter.micro
  rcases h with waiting | ⟨d, timing⟩
  · rw [waiting]; rfl
  · rw [timing]; rfl

theorem SpeedMeter.micro_of_no_interval {m : SpeedMeter} (waiting : m.inFlight ≠ .intervalWaiting)
    (timing : ∀ d, m.inFlight ≠ .intervalTiming d) : m.micro = m := by
  unfold SpeedMeter.micro
  dsimp only
  split
  next h => exact absurd h waiting
  next d h => exact absurd h (timing d)
  next => rfl

/-- The meter of a tick: a microsecond is whole on every tenth tick. -/
theorem State.tick_meter (s : State) : s.tick.meter = if 9 ≤ s.refPhase then s.meter.micro else s.meter := by
  simp [State.tick, Config.ticksPerMicro]

theorem State.tick_eq (s : State) : s.tick = { s with
    ports := s.tick.ports
    drive := s.drive.tick
    meter := { s.meter with counter := s.tick.meter.counter }
    link := s.link.tick
    seq := { s.seq with endingTimer := tickTimer Config.endingTicks s.seq.endingTimer }
    inputs := s.inputs.tick
    refPhase := if 9 ≤ s.refPhase then 0 else s.refPhase + 1 } := by
  have meter : s.tick.meter = { s.meter with counter := s.tick.meter.counter } := by
    rw [State.tick_meter]
    split
    · exact s.meter.micro_eq
    · rfl
  have phase : s.tick.refPhase = if 9 ≤ s.refPhase then 0 else s.refPhase + 1 := by
    simp [State.tick, Config.ticksPerMicro]
  calc s.tick = { s.tick with meter := s.tick.meter, refPhase := s.tick.refPhase } := rfl
    _ = _ := by rw [meter, phase]; rfl

/-- Settles O2, the step of an empty queue being the tick of a running part, block by block. -/
theorem emptyQueueTicks : Obligations.EmptyQueueTicks := by
  intro s empty
  refine ⟨fun off => ?_, fun running => ⟨s.tick, ?_, ?_, ?_, ?_, ?_, ?_, ?_⟩⟩
  · rw [step_of_empty empty, State.idle, if_neg off]
  · rw [step_of_empty empty, State.idle, if_pos running]
  · exact s.tick_eq
  · intro c second n h
    simp only [State.tick, ExtLink.tick, h, Shifter.tick_of_answering]
  · exact fun h => Shifter.tick_of_not_answering h
  · intro whole interval
    rw [State.tick_meter, if_pos whole, SpeedMeter.micro_of_interval interval]
  · intro h
    rw [State.tick_meter]
    split
    next whole =>
      obtain ⟨waiting, timing⟩ := h.resolve_left (not_lt.mpr whole)
      rw [SpeedMeter.micro_of_no_interval waiting timing]
    next => rfl
  · intro p
    cases p <;> rfl

/-! ## The state at reset -/

/-- After power-on there is no motion, no holder and no waiter. -/
theorem State.reset_motionLaw : State.reset.motionLaw :=
  ⟨⟨by simp [State.reset], fun _ => ⟨rfl, rfl⟩, fun _ => rfl⟩, List.nodup_nil, by simp [State.reset]⟩

/-- After power-on nothing is referenced. -/
theorem State.reset_limitsLaw : State.reset.limitsLaw := fun referenced => absurd referenced Bool.false_ne_true

theorem State.reset_openingLaw : State.reset.openingLaw :=
  ⟨State.testOpens_of_outside rfl, (State.configItems_opens_iff _).mpr
      ⟨ConfigItems.defaults_opens.1, by simp [State.reset]⟩, ConfigItems.defaults_opens, by simp [State.reset]⟩

theorem State.reset_sampleLaw : State.reset.sampleLaw :=
  (State.sampleLaw_iff _).mpr ⟨State.courseLaw_of_idle rfl rfl rfl, State.covers_of_outside rfl⟩

/-- Settles O55, the values by evaluation and each law from its own form. -/
theorem resetHoldsThePowerOnValues : Obligations.ResetHoldsThePowerOnValues := by
  refine ⟨rfl, rfl, rfl, rfl, rfl, rfl, rfl, rfl, rfl, rfl, rfl, rfl, rfl, rfl, rfl, fun p => ?_,
    State.reset_motionLaw, State.reset_limitsLaw, ?_, ⟨List.nodup_nil, Nat.zero_le _⟩, ?_, State.reset_openingLaw,
    State.reset_sampleLaw⟩
  · cases p <;> rfl
  · exact State.testLaw_of_idle rfl rfl rfl (Nat.zero_le _)
  · exact State.inUseLaw_of_empty rfl (by simp [State.reset])

end Sys2Proof.Machine
end

section
/-! PROOFS. The arbiter's grants and releases as equations between states, and what they do to the notice sets. -/

namespace Sys2Proof.Machine

/-- Two states are the same when their ports and their other blocks are. -/
theorem State.eq_of_blocks {s t : State} (ports : s.ports = t.ports)
    (blocks : s.power = t.power ∧ s.queue = t.queue ∧ s.programs = t.programs ∧ s.results = t.results
      ∧ s.arbiter = t.arbiter ∧ s.drive = t.drive ∧ s.meter = t.meter ∧ s.load = t.load ∧ s.link = t.link
      ∧ s.strain = t.strain ∧ s.seq = t.seq ∧ s.rate = t.rate ∧ s.eval = t.eval ∧ s.inputs = t.inputs
      ∧ s.config = t.config ∧ s.refPhase = t.refPhase ∧ s.freeCount = t.freeCount ∧ s.pending = t.pending) :
    s = t := by
  cases s
  cases t
  simp_all

/-! ## Notices that stay (R186) -/

/-- Every notice of `s` is still present in `t`. -/
def NoticesStay (s t : State) : Prop :=
  ∀ r n, (s.ports.get r).hasNotice n = true → (t.ports.get r).hasNotice n = true

section
variable {s t u : State}

theorem NoticesStay.refl : NoticesStay s s := fun _ _ h => h

theorem NoticesStay.trans (h : NoticesStay s t) (h' : NoticesStay t u) : NoticesStay s u :=
  fun r n present => h' r n (h r n present)

/-- The notice sets are those of the ports. -/
theorem NoticesStay.of_ports (h : t.ports = s.ports) : NoticesStay s t := by
  intro r n present
  rwa [h]

variable (s : State)

theorem State.addNotice_stay (p : Role) (n : Notice) : NoticesStay s (s.addNotice p n) := by
  intro r m present
  rw [Port.hasNotice, State.addNotice_notices]
  split
  · exact withNotice_keeps _ _ _ present
  · exact present

/-- A notice that is already in the set changes nothing (R186). -/
theorem State.addNotice_addNotice (p : Role) (n : Notice) : (s.addNotice p n).addNotice p n = s.addNotice p n := by
  refine State.eq_of_blocks ?_ (by simp)
  cases p <;> simp [State.addNotice, State.onPort, PerRole.set, PerRole.get, withNotice, BitVec.or_assoc]

theorem State.addNotice_hasNotice (p : Role) (n : Notice) :
    ((s.addNotice p n).ports.get p).hasNotice n = true := by
  rw [Port.hasNotice, State.addNotice_notices, if_pos rfl]
  exact withNotice_hasNotice _ n

theorem State.answer_hasNotice (p q : Role) (k : RequestKind) (st : Status) (body : List Octet) (n : Notice) :
    ((s.answer p k st body).ports.get q).hasNotice n = (s.ports.get q).hasNotice n := by
  rw [Port.hasNotice, State.answer_notices, Port.hasNotice]

end

/-! ## The end of a move and the drop of the holder (R145, R156) -/

/-- The outcome of a move that ends (R156). -/
def Drive.outcomeOf (d : Drive) (cause : Option MoveEndCause) (m : MoveRecord) : MoveOutcome :=
  ⟨m.number, m.kind, cause, d.commanded, d.encoder⟩

/-- The last outcome once a move in flight, if there is one, has ended. -/
def Drive.outcomeAfter (d : Drive) (cause : Option MoveEndCause) : Option MoveOutcome :=
  (d.move.map (d.outcomeOf cause)).or d.lastOutcome

/-- The drive of a holder that gives the authority up: STOPPED, with no source and no move (R145). -/
def Drive.dropped (d : Drive) (cause : MoveEndCause) : Drive :=
  { d with
    generator := none, buffer := none, velocity := 0, source := .none, move := none
    lastOutcome := d.outcomeAfter (some cause) }

section
variable (s : State)

theorem State.endMove_of_none {s : State} (h : s.drive.move = none) (cause : Option MoveEndCause) :
    s.endMove cause = s := by
  rw [State.endMove, h]

theorem State.endMove_of_some {s : State} {m : MoveRecord} (h : s.drive.move = some m)
    (cause : Option MoveEndCause) :
    s.endMove cause = { s with drive := { s.drive with
      lastOutcome := some (s.drive.outcomeOf cause m), move := none, source := .none } }.addNotice m.issuer
        (if cause = none then .moveDone else .moveStopped) := by
  rw [State.endMove, h]
  rfl

theorem State.endMove_stay (cause : Option MoveEndCause) : NoticesStay s (s.endMove cause) := by
  cases h : s.drive.move with
  | none => rw [State.endMove_of_none h]; exact .refl
  | some m =>
    rw [State.endMove_of_some h]
    exact State.addNotice_stay _ _ _

/-- The drop of a holder touches the ports, the arbiter and the drive alone. -/
theorem State.dropHolder_eq (cause : MoveEndCause) : s.dropHolder cause = { s with
    ports := (s.dropHolder cause).ports
    arbiter := ⟨none, s.arbiter.waiting⟩
    drive := s.drive.dropped cause } := by
  refine State.eq_of_blocks rfl ?_
  have drive : (s.dropHolder cause).drive = s.drive.dropped cause := by
    cases h : s.drive.move with
    | none => simp [State.dropHolder, State.endMove, State.stopGenerator, h, Drive.dropped, Drive.outcomeAfter]
    | some m =>
      simp [State.dropHolder, State.endMove, State.stopGenerator, h, Drive.dropped, Drive.outcomeAfter,
        Drive.outcomeOf]
  simp [drive]

theorem State.dropHolder_drive_eq (cause : MoveEndCause) : (s.dropHolder cause).drive = s.drive.dropped cause :=
  congrArg State.drive (s.dropHolder_eq cause)

/-- The notices of a drop: MOVE_STOPPED to the issuer of a move in flight. -/
theorem State.dropHolder_ports (cause : MoveEndCause) :
    (s.dropHolder cause).ports = (match s.drive.move with
      | none => s
      | some m => s.addNotice m.issuer .moveStopped).ports := by
  cases h : s.drive.move with
  | none => simp [State.dropHolder, State.endMove, State.stopGenerator, h]
  | some m => simp [State.dropHolder, State.endMove, State.stopGenerator, h, State.addNotice, State.onPort]

theorem State.dropHolder_stay (cause : MoveEndCause) : NoticesStay s (s.dropHolder cause) := by
  refine (State.endMove_stay s.stopGenerator (some cause)).trans ?_
  exact .of_ports rfl

end

/-! ## The grants (R143) -/

/-- With no holder the front of the list becomes the holder. -/
theorem Arbiter.granted_of_free {a : Arbiter} (h : a.holder = none) :
    a.granted = ⟨a.waiting.head?, a.waiting.tail⟩ := by
  obtain ⟨holder, waiting⟩ := a
  cases waiting with
  | nil => cases h; rfl
  | cons q rest => rfl

theorem Party.port_eq_none {q : Party} : q.port = none ↔ q = .sequencer := by
  cases q <;> simp [Party.port]

section
variable {s : State}

theorem State.grantFront_of_empty (h : s.arbiter.waiting = []) : s.grantFront = s := by
  simp [State.grantFront, h]

theorem State.grantFront_of_port {q : Party} {p : Role} {rest : List Party} (h : s.arbiter.waiting = q :: rest)
    (hp : q.port = some p) :
    s.grantFront = { s with arbiter := ⟨some q, rest⟩ }.addNotice p .authorityGranted := by
  cases q <;> cases hp <;> simp [State.grantFront, h]

theorem State.grantFront_of_sequencer {rest : List Party} (h : s.arbiter.waiting = .sequencer :: rest) :
    s.grantFront = { s with arbiter := { s.arbiter with waiting := rest } }.grantSequencer := by
  simp [State.grantFront, h]

/-- Outside ARMED a grant of SEQUENCER's request makes it the holder and does nothing else. -/
theorem State.grantFront_of_sequencer_not_armed {rest : List Party} (h : s.arbiter.waiting = .sequencer :: rest)
    (state : s.seq.state ≠ .armed) : s.grantFront = { s with arbiter := ⟨some .sequencer, rest⟩ } := by
  rw [State.grantFront_of_sequencer h]
  exact State.grantSequencer_of_not_armed _ state

/-- In ARMED a grant to SEQUENCER writes 0 and tests the start by the grips (R25, R33). -/
theorem State.grantSequencer_of_armed (armed : s.seq.state = .armed) (hv : 0 ≤ s.drive.config.vmax) :
    s.grantSequencer = State.testGripsStart { s with
      arbiter := ⟨some .sequencer, s.arbiter.waiting⟩
      drive := { s.drive with generator := none, buffer := none, velocity := 0, source := .sequencer } } := by
  unfold State.grantSequencer
  dsimp only
  rw [if_pos armed]
  exact congrArg State.testGripsStart (State.seqWrite_zero rfl hv)

/-- A grant of the front that does not reach an armed sequencer touches the arbiter and the ports alone. -/
theorem State.grantFront_eq (h : s.seq.state ≠ .armed ∨ s.arbiter.waiting.head? ≠ some .sequencer) :
    s.grantFront = { s with ports := s.grantFront.ports, arbiter := s.arbiter.granted } := by
  match hw : s.arbiter.waiting with
  | [] => simp [State.grantFront_of_empty hw, Arbiter.granted, hw]
  | q :: rest =>
    cases hq : q.port with
    | some p => rw [State.grantFront_of_port hw hq]; simp [Arbiter.granted, hw, State.addNotice, State.onPort]
    | none =>
      have hs : q = .sequencer := by simpa [Party.port_eq_none] using hq
      subst hs
      rw [State.grantFront_of_sequencer_not_armed hw (h.resolve_right (by simp [hw]))]
      simp [Arbiter.granted, hw]

/-- The blocks a grant can reach, where it does not reach an armed sequencer. -/
theorem State.grantFront_blocks (h : s.seq.state ≠ .armed ∨ s.arbiter.waiting.head? ≠ some .sequencer) :
    s.grantFront.queue = s.queue ∧ s.grantFront.drive = s.drive ∧ s.grantFront.strain = s.strain
      ∧ s.grantFront.seq = s.seq ∧ s.grantFront.arbiter = s.arbiter.granted := by
  rw [State.grantFront_eq h]
  exact ⟨rfl, rfl, rfl, rfl, rfl⟩

/-- The port granted has AUTHORITY_GRANTED in its set. -/
theorem State.grantFront_notices :
    ∀ q ∈ s.arbiter.waiting.head?, ∀ r ∈ q.port, (s.grantFront.ports.get r).hasNotice .authorityGranted = true := by
  intro q hq r hr
  obtain ⟨rest, hw⟩ : ∃ rest, s.arbiter.waiting = q :: rest := by
    simpa [List.head?_eq_some_iff] using hq
  rw [State.grantFront_of_port hw hr]
  exact State.addNotice_hasNotice _ _ _

/-- A port that is not the granted one keeps its port as it was. -/
theorem State.grantFront_get_of_ne (h : s.seq.state ≠ .armed ∨ s.arbiter.waiting.head? ≠ some .sequencer)
    {r : Role} (hr : ∀ q ∈ s.arbiter.waiting.head?, q.port ≠ some r) :
    s.grantFront.ports.get r = s.ports.get r := by
  match hw : s.arbiter.waiting with
  | [] => rw [State.grantFront_of_empty hw]
  | q :: rest =>
    cases hq : q.port with
    | some p =>
      have other : r ≠ p := fun same => hr q (by simp [hw]) (same ▸ hq)
      rw [State.grantFront_of_port hw hq, State.addNotice, State.onPort_get, if_neg other]
    | none =>
      have hs : q = .sequencer := by simpa [Party.port_eq_none] using hq
      subst hs
      rw [State.grantFront_of_sequencer_not_armed hw (h.resolve_right (by simp [hw]))]

theorem State.seqWrite_stay (v : Int) : NoticesStay s (s.seqWrite v) := by
  refine .of_ports ?_
  unfold State.seqWrite State.writeVelocity
  split
  · dsimp only
    split
    · rfl
    · split <;> rfl
  · rfl

end

end Sys2Proof.Machine
end

section
/-! PROOFS. REQUEST_AUTHORITY, RELEASE_AUTHORITY and LINK_RESET (R143 to R146, R189). -/

namespace Sys2Proof.Machine

/-! ## The grant of the front of the list (R143) -/

/-- The start by the grips with the head's program at hand (R33). -/
theorem State.gripsStartReady_iff {s : State} {e : SpecimenEntry} {rest : List SpecimenEntry} {b : ProgramBody}
    (hq : s.queue = e :: rest) (hb : s.programAt e.slot = some b) :
    s.gripsStartReady = true ↔ s.seq.state = .armed ∧ b.startMode = .grips ∧ s.arbiter.holder = some .sequencer
      ∧ s.seq.openSeen = true ∧ s.inputs.grips = true ∧ s.load.tare = none ∧ s.load.referenceFault = false := by
  simp [State.gripsStartReady, State.headProgram, hq, hb, and_assoc]

theorem State.testGripsStart_of_ready {s : State} (h : s.gripsStartReady = true) :
    s.testGripsStart = s.startTest :=
  if_pos h

theorem State.testGripsStart_of_not_ready {s : State} (h : ¬ s.gripsStartReady = true) : s.testGripsStart = s :=
  if_neg h

/-- A grant of SEQUENCER's request in ARMED (R25, R33, R143). -/
theorem State.grantFront_of_sequencer_armed {s : State} {rest : List Party}
    (h : s.arbiter.waiting = .sequencer :: rest) (armed : s.seq.state = .armed) (hv : 0 ≤ s.drive.config.vmax) :
    s.grantFront = State.testGripsStart { s with
      arbiter := ⟨some .sequencer, rest⟩
      drive := { s.drive with generator := none, buffer := none, velocity := 0, source := .sequencer } } := by
  rw [State.grantFront_of_sequencer h]
  exact State.grantSequencer_of_armed armed hv

/-! ## A drop of the holder with the grant after it (R145, R146) -/

/-- Outside a test nothing holds a grant back. -/
theorem State.grantIfFree_of_free {s : State} (free : s.arbiter.holder = none)
    (test : s.seq.state.inTest = false) : s.grantIfFree = s.grantFront := by
  simp [State.grantIfFree, free, State.grantHeldBack, test]

section
variable {s : State} {p : Role} {q : Party}

/-- The holder gives the authority up and the front is granted, no armed sequencer standing there. -/
theorem State.grantFront_dropHolder (cause : MoveEndCause)
    (front : s.arbiter.waiting.head? ≠ some .sequencer) :
    (s.dropHolder cause).grantFront = { s with
      ports := (s.dropHolder cause).grantFront.ports
      arbiter := ⟨s.arbiter.waiting.head?, s.arbiter.waiting.tail⟩
      drive := s.drive.dropped cause } := by
  have granted := State.grantFront_blocks (s := s.dropHolder cause) (Or.inr (by simpa using front))
  refine State.eq_of_blocks rfl ?_
  simp [granted, State.dropHolder_drive_eq, Arbiter.granted_of_free]

theorem State.grantFront_stay_of_not_sequencer (front : s.arbiter.waiting.head? ≠ some .sequencer) :
    NoticesStay s s.grantFront := by
  match hw : s.arbiter.waiting with
  | [] => rw [State.grantFront_of_empty hw]; exact .refl
  | .console :: rest =>
    rw [State.grantFront_of_port hw rfl]
    exact .trans (.of_ports rfl) (State.addNotice_stay _ _ _)
  | .cell :: rest =>
    rw [State.grantFront_of_port hw rfl]
    exact .trans (.of_ports rfl) (State.addNotice_stay _ _ _)
  | .sequencer :: rest => exact absurd (by simp [hw]) front

/-! ## The two requests -/

section
variable (hp : partyOf p = some q) (ht : s.takes p = true)
include hp

/-- A port that is a party is not QUALITY (R144). -/
theorem ne_quality_of_party : p ≠ .quality := by
  rintro rfl
  cases hp

include ht

theorem requestAuthority_reaches_arbiter (own : State → State) :
    s.request p .requestAuthority own = own s :=
  State.request_of_takes _ _ ht (rolesCL_mem_of_ne (ne_quality_of_party hp))

theorem releaseAuthority_reaches_arbiter (own : State → State) :
    s.request p .releaseAuthority own = own s :=
  State.request_of_takes _ _ ht (rolesCL_mem_of_ne (ne_quality_of_party hp))

theorem exec_requestAuthority_of_latch (hl : s.inputs.latch = true) :
    exec (.requestAuthority p) s = .next (s.answer p .requestAuthority .frameStopped []) := by
  rw [exec, execRequestAuthority, requestAuthority_reaches_arbiter hp ht, hp]
  exact congrArg _ (if_pos hl)

section
variable (hl : s.inputs.latch = false)
include hl

theorem exec_requestAuthority_of_holder (hh : s.arbiter.holder = some q) :
    exec (.requestAuthority p) s = .next (s.answer p .requestAuthority .alreadyHeld []) := by
  rw [exec, execRequestAuthority, requestAuthority_reaches_arbiter hp ht, hp]
  simp [hl, hh, State.refuse]

theorem exec_requestAuthority_of_waiting (hh : s.arbiter.holder ≠ some q) (hw : q ∈ s.arbiter.waiting) :
    exec (.requestAuthority p) s = .next (s.answer p .requestAuthority .alreadyWaiting []) := by
  rw [exec, execRequestAuthority, requestAuthority_reaches_arbiter hp ht, hp]
  simp [hl, hh, hw, State.refuse]

variable (hw : q ∉ s.arbiter.waiting)
include hw

theorem exec_requestAuthority_of_free (free : s.arbiter.holder = none) (test : s.seq.state.inTest = false) :
    exec (.requestAuthority p) s = .next
      ({ s with arbiter := ⟨some q, s.arbiter.waiting⟩ }.answer p .requestAuthority .ok []) := by
  rw [exec, execRequestAuthority, requestAuthority_reaches_arbiter hp ht, hp]
  simp [hl, hw, free, State.grantHeldBack, test]

theorem exec_requestAuthority_of_taken (hh : s.arbiter.holder ≠ some q)
    (h : s.arbiter.holder ≠ none ∨ s.seq.state.inTest = true) :
    exec (.requestAuthority p) s = .next
      ({ s with arbiter := ⟨s.arbiter.holder, s.arbiter.waiting ++ [q]⟩ }.answer p .requestAuthority
        .accepted []) := by
  have held : ¬ (s.arbiter.holder = none ∧ ¬ s.grantHeldBack) := by
    rintro ⟨free, open_⟩
    rw [s.grantHeldBack_of_free free] at open_
    exact h.elim (· free) open_
  rw [exec, execRequestAuthority, requestAuthority_reaches_arbiter hp ht, hp]
  dsimp only
  rw [if_neg (by simp [hl]), if_neg hh, if_neg hw, if_neg held]

end

theorem exec_releaseAuthority_of_holder (hh : s.arbiter.holder = some q) (test : s.seq.state.inTest = false) :
    exec (.releaseAuthority p) s
      = .next ((s.dropHolder .released).grantFront.answer p .releaseAuthority .ok []) := by
  rw [exec, execReleaseAuthority, releaseAuthority_reaches_arbiter hp ht, hp]
  dsimp only
  rw [if_pos hh, State.grantIfFree_of_free (by simp) (by simpa using test)]

theorem exec_releaseAuthority_of_waiting (hh : s.arbiter.holder ≠ some q) (hw : q ∈ s.arbiter.waiting) :
    exec (.releaseAuthority p) s = .next
      ({ s with arbiter := ⟨s.arbiter.holder, s.arbiter.waiting.filter (· != q)⟩ }.answer p
        .releaseAuthority .ok []) := by
  rw [exec, execReleaseAuthority, releaseAuthority_reaches_arbiter hp ht, hp]
  simp [hh, hw, State.leaveList]

theorem exec_releaseAuthority_of_other (hh : s.arbiter.holder ≠ some q) (hw : q ∉ s.arbiter.waiting) :
    exec (.releaseAuthority p) s = .next (s.answer p .releaseAuthority .notHolder []) := by
  rw [exec, execReleaseAuthority, releaseAuthority_reaches_arbiter hp ht, hp]
  simp [hh, hw, State.refuse]

end

end

/-- Settles O44: the grant by the party at the front, each request by the first case that applies, and a release by the
holder as the drop of the holder with the grant after it. -/
theorem authorityIsRequestedAndReleased : Obligations.AuthorityIsRequestedAndReleased := by
  refine ⟨fun s => ⟨State.grantFront_of_empty, fun q p rest => State.grantFront_of_port, ?_⟩,
    fun p q s hp ht => ⟨⟨exec_requestAuthority_of_latch hp ht, fun hl => ⟨exec_requestAuthority_of_holder hp ht hl,
      fun hh => ⟨exec_requestAuthority_of_waiting hp ht hl hh, fun hw => ⟨fun ⟨free, test⟩ =>
        exec_requestAuthority_of_free hp ht hl hw free test, exec_requestAuthority_of_taken hp ht hl hw hh⟩⟩⟩⟩,
      fun hh test => ?_, fun hh test front => ?_, exec_releaseAuthority_of_waiting hp ht,
      exec_releaseAuthority_of_other hp ht⟩⟩
  · rintro rest e tail b hw armed hv hq hb granted rfl
    rw [State.grantFront_of_sequencer_armed hw armed hv]
    have ready := State.gripsStartReady_iff (s := { s with
      arbiter := ⟨some .sequencer, rest⟩
      drive := { s.drive with generator := none, buffer := none, velocity := 0, source := .sequencer } }) hq hb
    refine ⟨fun mode seen grips tare fault => State.testGripsStart_of_ready (ready.mpr ?_),
      fun missing => State.testGripsStart_of_not_ready fun h => ?_⟩
    · exact ⟨armed, mode, rfl, seen, grips, tare, fault⟩
    · obtain ⟨-, mode, -, seen, grips, tare, fault⟩ := ready.mp h
      dsimp only at seen grips tare fault
      simp [mode, seen, grips, tare, fault] at missing
  · have ports := s.dropHolder_ports .released
    refine ⟨_, exec_releaseAuthority_of_holder hp ht hh test, s.dropHolder_eq .released, fun none => ?_,
      fun m some => ?_⟩
    · rw [ports, none]
    · rw [ports, Option.mem_def.mp some]
  · refine ⟨_, exec_releaseAuthority_of_holder hp ht hh test, ?_, ?_, fun m hm => ?_, fun r hr => ?_⟩
    · conv_lhs => rw [State.answer, State.answerKind, State.onPort, State.grantFront_dropHolder _ front]
      rfl
    · rw [State.answer_get_self]
      rfl
    · rw [State.answer_hasNotice]
      refine State.grantFront_stay_of_not_sequencer (by simpa using front) _ _ ?_
      rw [State.dropHolder_ports, Option.mem_def.mp hm]
      exact State.addNotice_hasNotice _ _ _
    · obtain ⟨q', hq', hr⟩ := Option.mem_bind_iff.mp hr
      rw [State.answer_hasNotice]
      exact State.grantFront_notices _ (by simpa using hq') _ hr

end Sys2Proof.Machine
end

section
/-! PROOFS. LINK_RESET (R189): the port's set and request, and the authority of a port that holds it. -/

namespace Sys2Proof.Machine

/-- `s` after the first two effects of a link reset: the set of `p` is empty and its request has left the list
(R189). -/
def State.portCleared (s : State) (p : Role) : State :=
  (s.onPort p fun q => { q with notices := 0 }).forgetRequest p

/-- `s` after a holder's link reset took the authority from it, before the front is granted (R189, R146). -/
def State.portRevoked (s : State) (p : Role) : State :=
  ((s.portCleared p).dropHolder .released).addNotice p .authorityRevoked

section
variable {s : State} {p : Role}

theorem exec_linkReset (ht : s.takes p = true) :
    exec (.linkReset p) s = .next (((s.portCleared p).revokePort p).answer p .linkReset .ok []) := by
  rw [exec, execLinkReset, State.request_of_takes .linkReset _ ht (rolesCLQ_mem p)]
  rfl

theorem State.portCleared_get_of_ne {q : Role} (h : q ≠ p) : (s.portCleared p).ports.get q = s.ports.get q := by
  rw [State.portCleared, State.forgetRequest, State.onPort_get, if_neg h]

theorem State.portCleared_get_self :
    (s.portCleared p).ports.get p = { s.ports.get p with notices := 0 } := by
  rw [State.portCleared, State.forgetRequest, State.onPort_get, if_pos rfl]

/-- A revocation from a port leaves these blocks alone. -/
@[simp] theorem State.portRevoked_frame :
    (s.portRevoked p).power = s.power ∧ (s.portRevoked p).queue = s.queue
      ∧ (s.portRevoked p).programs = s.programs ∧ (s.portRevoked p).results = s.results
      ∧ (s.portRevoked p).meter = s.meter ∧ (s.portRevoked p).load = s.load ∧ (s.portRevoked p).link = s.link
      ∧ (s.portRevoked p).strain = s.strain ∧ (s.portRevoked p).seq = s.seq ∧ (s.portRevoked p).rate = s.rate
      ∧ (s.portRevoked p).eval = s.eval ∧ (s.portRevoked p).inputs = s.inputs
      ∧ (s.portRevoked p).config = s.config ∧ (s.portRevoked p).refPhase = s.refPhase
      ∧ (s.portRevoked p).freeCount = s.freeCount ∧ (s.portRevoked p).pending = s.pending := by
  simp [State.portRevoked, State.portCleared, State.forgetRequest]

/-- A port that does not hold keeps everything but its set and its request. -/
theorem exec_linkReset_of_not_holder (ht : s.takes p = true) (hh : s.portHolds p = false) :
    exec (.linkReset p) s = .next ((s.portCleared p).answer p .linkReset .ok []) := by
  have absent : (s.portCleared p).portHolds p = false := hh
  rw [exec_linkReset ht, State.revokePort, absent]
  rfl

section
variable {h : Party} (hp : partyOf p = some h) (hh : s.arbiter.holder = some h)
include hp hh

theorem exec_linkReset_of_holder (ht : s.takes p = true) (test : s.seq.state.inTest = false) :
    exec (.linkReset p) s = .next ((s.portRevoked p).grantFront.answer p .linkReset .ok []) := by
  have holds : (s.portCleared p).portHolds p = true := by
    simp [State.portHolds, hp, State.portCleared, State.forgetRequest, hh]
  have grant : (s.portRevoked p).grantIfFree = (s.portRevoked p).grantFront :=
    State.grantIfFree_of_free (by simp [State.portRevoked]) (by simpa using test)
  rw [exec_linkReset ht, State.revokePort, if_pos holds]
  exact congrArg (fun t => Host.Outcome.next (t.answer p .linkReset .ok [])) grant

/-- The holder has no request to forget. -/
theorem State.portCleared_waiting (law : s.arbiterLaw) :
    (s.arbiter.waiting.filter fun q => partyOf p != some q) = s.arbiter.waiting := by
  obtain ⟨-, apart⟩ := law
  rw [List.filter_eq_self, hp]
  intro q hq
  simp only [bne_iff_ne, ne_eq, Option.some.injEq]
  rintro rfl
  exact apart h hh hq

theorem State.portRevoked_eq (law : s.arbiterLaw) : s.portRevoked p = { s with
    ports := (s.portRevoked p).ports
    arbiter := ⟨none, s.arbiter.waiting⟩
    drive := s.drive.dropped .released } := by
  refine State.eq_of_blocks rfl ?_
  simp [State.portRevoked, State.dropHolder_drive_eq, State.portCleared, State.forgetRequest,
    State.portCleared_waiting hp hh law]

end

/-- The notices that a holder's link reset leaves in its set: the revocation, and the end of a move of its own. -/
theorem State.portRevoked_get_self (issuer : ∀ m ∈ s.drive.move, m.issuer = p) :
    (s.portRevoked p).ports.get p = { s.ports.get p with notices :=
      (if s.drive.move.isSome then withNotice (withNotice 0 .moveStopped) .authorityRevoked
        else withNotice 0 .authorityRevoked) } := by
  have cleared := s.portCleared_get_self (p := p)
  have drive : (s.portCleared p).drive = s.drive := rfl
  rw [State.portRevoked, State.addNotice, State.onPort_get, if_pos rfl, State.dropHolder_ports, drive]
  cases hm : s.drive.move with
  | none => simp [cleared]
  | some m => simp [State.addNotice, cleared, issuer m hm]

theorem State.portRevoked_get_of_ne (issuer : ∀ m ∈ s.drive.move, m.issuer = p) {q : Role} (h : q ≠ p) :
    (s.portRevoked p).ports.get q = s.ports.get q := by
  have cleared := State.portCleared_get_of_ne (s := s) h
  have drive : (s.portCleared p).drive = s.drive := rfl
  rw [State.portRevoked, State.addNotice, State.onPort_get, if_neg h, State.dropHolder_ports, drive]
  cases hm : s.drive.move with
  | none => exact cleared
  | some m => simp [State.addNotice, cleared, issuer m hm, h]

end

/-- The party at the front is not the port that holds. -/
theorem State.front_ne_holder {s : State} {p : Role} {h : Party} (hp : partyOf p = some h)
    (hh : s.arbiter.holder = some h) (law : s.arbiterLaw) : ∀ q ∈ s.arbiter.waiting.head?, q.port ≠ some p := by
  obtain ⟨-, apart⟩ := law
  intro q hq same
  have party : partyOf p = some q := by
    cases q <;> cases same <;> rfl
  obtain rfl : q = h := Option.some.inj (party.symm.trans hp)
  exact apart q hh (List.mem_of_head? hq)

/-- Settles O10, by whether the port holds the authority: the port alone, or the drop of the holder and the grant. -/
theorem linkResetByStanding : Obligations.LinkResetByStanding := by
  refine ⟨fun p s ht hh => ⟨_, exec_linkReset_of_not_holder ht hh, rfl, ?_, fun q h => ?_⟩,
    fun p h s ht hp hh law test issuer => ⟨⟨s.portRevoked p, exec_linkReset_of_holder hp hh ht test,
      State.portRevoked_eq hp hh law, State.portRevoked_get_self issuer,
      fun q hq => State.portRevoked_get_of_ne issuer hq⟩, fun front => ?_⟩⟩
  · rw [State.answer_get_self, State.portCleared_get_self]
    rfl
  · rw [State.answer_get_of_ne _ _ _ _ h, State.portCleared_get_of_ne h]
  · have revoked := State.portRevoked_eq hp hh law
    have arbiter : (s.portRevoked p).arbiter = ⟨none, s.arbiter.waiting⟩ := congrArg State.arbiter revoked
    have drive : (s.portRevoked p).drive = s.drive.dropped .released := congrArg State.drive revoked
    have open_ : (s.portRevoked p).seq.state ≠ .armed
        ∨ (s.portRevoked p).arbiter.waiting.head? ≠ some .sequencer := Or.inr (by rwa [arbiter])
    have blocks := State.grantFront_blocks open_
    refine ⟨_, exec_linkReset_of_holder hp hh ht test, ?_, ?_, ?_, ?_, ?_, fun q hq r hr => ?_⟩
    · simp [blocks, arbiter, Arbiter.granted_of_free]
    · simp only [State.answer_frame, blocks, drive]
      rfl
    · refine State.eq_of_blocks rfl ?_
      simp [blocks]
    · rw [State.answer_notices, State.grantFront_get_of_ne open_ (by
        rw [arbiter]; exact State.front_ne_holder hp hh law), State.portRevoked_get_self issuer]
    · rw [State.answer_get_self]
      rfl
    · rw [State.answer_hasNotice]
      exact State.grantFront_notices q (by rwa [arbiter]) r hr

end Sys2Proof.Machine
end

section
/-! PROOFS. Auto-arm, the arming and its undoing (R26 to R31), and the two ways to start a test (R33, R34). -/

namespace Sys2Proof.Machine

/-! ## Auto-arm (R26, R29) -/

/-- Checks 2 to 8 of R27 together. -/
theorem State.armFailure_eq_none_iff (s : State) : s.armFailure = none ↔
    s.queue ≠ [] ∧ s.load.calibrationValid = true ∧ s.drive.referenced = true ∧ s.inputs.latch = false
      ∧ s.load.referenceFault = false ∧ s.load.tare = none
      ∧ s.results.records.length + (if s.results.reserved then 1 else 0) < 12 := by
  rw [← not_le, ← ResultStore.free_eq_zero_iff]
  unfold State.armFailure
  split_ifs <;> simp_all [Option.isSome_iff_ne_none]

theorem State.autoArmReady_iff (s : State) : s.autoArmReady = true ↔
    s.seq.state = .idle ∧ s.seq.autoArm = true ∧ s.seq.autoArmPause = false ∧ s.queue ≠ []
      ∧ s.load.calibrationValid = true ∧ s.drive.referenced = true ∧ s.inputs.latch = false
      ∧ s.load.referenceFault = false ∧ s.load.tare = none
      ∧ s.results.records.length + (if s.results.reserved then 1 else 0) < 12 := by
  rw [← s.armFailure_eq_none_iff]
  simp [State.autoArmReady, and_assoc]

section
variable {s : State} {o : Octet} (ht : s.takes .console = true)
include ht

theorem exec_setAutoArm_of_store (hf : s.config.inFlight.isSome = true) :
    exec (.setAutoArm .console o) s = .next (s.answer .console .setAutoArm .busy []) := by
  rw [exec, execSetAutoArm, State.request_of_takes _ _ ht rfl, if_pos hf, State.refuse]

theorem exec_setAutoArm_of_refused (hf : s.config.inFlight = none) (ho : autoArmOfOctet o = none) :
    exec (.setAutoArm .console o) s = .next (s.answer .console .setAutoArm .invalidField [1]) := by
  rw [exec, execSetAutoArm, State.request_of_takes _ _ ht rfl, if_neg (by simp [hf]), ho]
  rfl

theorem exec_setAutoArm_of_accepted {b : Bool} (hf : s.config.inFlight = none) (ho : autoArmOfOctet o = some b) :
    exec (.setAutoArm .console o) s = .next
      ({ s with seq := { s.seq with autoArm := b, autoArmPause := false } }.answer .console .setAutoArm .ok
        []).examineHead := by
  rw [exec, execSetAutoArm, State.request_of_takes _ _ ht rfl, if_neg (by simp [hf]), ho]

end

/-- Settles O21: the examination by the auto-arm conditions, SET_AUTO_ARM by its two checks. -/
theorem autoArmExaminesTheHead : Obligations.AutoArmExaminesTheHead := by
  refine ⟨fun s => ⟨fun ready => if_pos (s.autoArmReady_iff.mpr ready),
      fun unready => if_neg (mt s.autoArmReady_iff.mp unready), fun running => ?_⟩,
    fun s o ht => ⟨exec_setAutoArm_of_store ht, fun hf => ⟨fun h0 h1 => ?_, fun h => ?_⟩⟩⟩
  · rw [exec, execAutoArm, State.whenRunning, if_pos running]
  · exact exec_setAutoArm_of_refused ht hf (by rw [autoArmOfOctet, if_neg h0, if_neg h1])
  · refine exec_setAutoArm_of_accepted ht hf ?_
    rcases h with rfl | rfl <;> rfl

/-! ## The arming (R28) -/

section
variable {s : State}

theorem State.armHead_of_program {b : ProgramBody} (h : s.headProgram = some b) :
    s.armHead = ((s.headArmed b).sequencerRequests.addNotice .console .testArmed).addNotice .cell .testArmed := by
  rw [State.armHead, h]
  rfl

theorem State.setHeadState_of_cons {e : SpecimenEntry} {rest : List SpecimenEntry} (h : s.queue = e :: rest)
    (st : EntryState) : s.setHeadState st = { s with queue := { e with state := st } :: rest } := by
  rw [State.setHeadState, h]

theorem State.headProgram_of_cons {e : SpecimenEntry} {rest : List SpecimenEntry} (h : s.queue = e :: rest) :
    s.headProgram = s.programAt e.slot := by
  simp [State.headProgram, h]

theorem State.headArmed_of_cons {e : SpecimenEntry} {rest : List SpecimenEntry} (h : s.queue = e :: rest)
    (b : ProgramBody) : s.headArmed b = { s with
      queue := { e with state := .armed } :: rest
      results := { s.results with reserved := true }
      load := s.load.setRange b.initialRange
      seq := { s.seq with
        state := .armed, openSeen := !s.inputs.grips, segment := 1, holds := 0, rangeSwitches := 0
        duration := 0, yieldEndSeen := false, releaseSeen := false, outcome := none, cause := none
        note := none, extLost := false, extAttachFailed := false, extRangeEnd := false } } := by
  rw [State.headArmed, State.setHeadState_of_cons h]

/-- What SEQUENCER's request does in ARMED once the grips were not seen open while they are closed: no test starts
at the grant (R28, R143, R144). -/
theorem State.sequencerRequests_of_armed (armed : s.seq.state = .armed) (seen : s.seq.openSeen = !s.inputs.grips)
    (latch : s.inputs.latch = false) (hh : s.arbiter.holder ≠ some .sequencer)
    (hw : .sequencer ∉ s.arbiter.waiting) (hv : 0 ≤ s.drive.config.vmax) :
    s.sequencerRequests = { s with
      arbiter :=
        if s.arbiter.holder = none then ⟨some .sequencer, s.arbiter.waiting⟩
        else ⟨s.arbiter.holder, s.arbiter.waiting ++ [.sequencer]⟩
      drive :=
        if s.arbiter.holder = none then
          { s.drive with generator := none, buffer := none, velocity := 0, source := .sequencer }
        else s.drive } := by
  by_cases free : s.arbiter.holder = none
  · have grant : s.sequencerRequests = s.grantSequencer := by
      simp [State.sequencerRequests, latch, hw, free, State.grantHeldBack, armed, SeqState.inTest,
        SeqState.underTest]
    have unready : ¬ ({ s with
        arbiter := ⟨some .sequencer, s.arbiter.waiting⟩
        drive := { s.drive with generator := none, buffer := none, velocity := 0, source := .sequencer } } :
          State).gripsStartReady = true := by
      cases grips : s.inputs.grips <;> simp [State.gripsStartReady, seen, grips]
    rw [grant, State.grantSequencer_of_armed armed hv, State.testGripsStart_of_not_ready unready, if_pos free,
      if_pos free]
  · simp [State.sequencerRequests, latch, hh, hw, free]

end

/-- Settles O20: the head armed, then SEQUENCER's request, which the grips cannot turn into a start, then the
notices. -/
theorem armingEffects : Obligations.ArmingEffects := by
  intro s e rest b hq hb latch hh hw hv
  have program : s.headProgram = some b := (State.headProgram_of_cons hq).trans hb
  have requested := State.sequencerRequests_of_armed (s := s.headArmed b) rfl
    (by rw [State.headArmed_of_cons hq]) (by rw [State.headArmed_of_cons hq]; exact latch)
    (by rw [State.headArmed_of_cons hq]; exact hh) (by rw [State.headArmed_of_cons hq]; exact hw)
    (by rw [State.headArmed_of_cons hq]; exact hv)
  have ports : (s.headArmed b).sequencerRequests.ports = s.ports := by
    rw [requested, State.headArmed_of_cons hq]
  rw [State.armHead_of_program program]
  refine ⟨?_, ?_, ?_, ?_⟩
  · refine State.eq_of_blocks rfl ?_
    simp only [State.addNotice_frame, requested]
    rw [State.headArmed_of_cons hq]
    simp [LoadUnit.setRange]
  · simp [ports]
  · simp [ports]
  · simp [State.addNotice, ports]

/-! ## DISARM (R30) -/

section
variable {s : State}

theorem State.undoArming_of_cons {e : SpecimenEntry} {rest : List SpecimenEntry} (h : s.queue = e :: rest) :
    s.undoArming = { s with
      queue := { e with state := .waiting } :: rest
      results := { s.results with reserved := false }
      seq := { s.seq with state := .idle, openSeen := false } } := by
  rw [State.undoArming, State.setHeadState_of_cons h]

theorem State.pauseAutoArm_eq (s : State) :
    s.pauseAutoArm = { s with seq := { s.seq with autoArmPause := s.seq.autoArm || s.seq.autoArmPause } } := by
  unfold State.pauseAutoArm
  split
  next h => rw [h, Bool.true_or]
  next h => rw [Bool.not_eq_true] at h; rw [h, Bool.false_or]

/-- SEQUENCER gives the authority up in IDLE: the drive of a dropped holder, and the front of the list granted. -/
theorem State.sequencerReleases_of_holder (hh : s.arbiter.holder = some .sequencer) (idle : s.seq.state = .idle) :
    s.sequencerReleases = { s with
      ports := s.sequencerReleases.ports
      arbiter := ⟨s.arbiter.waiting.head?, s.arbiter.waiting.tail⟩
      drive := s.drive.dropped .released } := by
  have grant : s.sequencerReleases = (s.dropHolder .released).grantFront := by
    rw [State.sequencerReleases, if_pos hh]
    exact State.grantIfFree_of_free (by simp) (by simp [idle, SeqState.inTest, SeqState.underTest])
  have granted := State.grantFront_blocks (s := s.dropHolder .released) (Or.inl (by simp [idle]))
  refine State.eq_of_blocks rfl ?_
  simp [grant, granted, State.dropHolder_drive_eq, Arbiter.granted_of_free]

theorem State.sequencerReleases_notices (hh : s.arbiter.holder = some .sequencer) (idle : s.seq.state = .idle) :
    ∀ q ∈ s.arbiter.waiting.head?, ∀ r ∈ q.port,
      (s.sequencerReleases.ports.get r).hasNotice .authorityGranted = true := by
  rw [State.sequencerReleases, if_pos hh,
    State.grantIfFree_of_free (by simp) (by simp [idle, SeqState.inTest, SeqState.underTest])]
  intro q hq r hr
  exact State.grantFront_notices q (by simpa using hq) r hr

theorem State.sequencerReleases_of_not_holder (hh : s.arbiter.holder ≠ some .sequencer) :
    s.sequencerReleases =
      { s with arbiter := ⟨s.arbiter.holder, s.arbiter.waiting.filter (· != .sequencer)⟩ } :=
  if_neg hh

end

/-- `s` after a DISARM in ARMED, before the reply (R30). -/
def State.disarmed (s : State) : State :=
  s.undoArming.sequencerReleases.pauseAutoArm

/-- A disarming changes the blocks it names and no other. -/
theorem State.disarmed_eq {s : State} {e : SpecimenEntry} {rest : List SpecimenEntry} (h : s.queue = e :: rest) :
    s.disarmed = { s with
      queue := { e with state := .waiting } :: rest
      results := { s.results with reserved := false }
      seq := { s.seq with
        state := .idle, openSeen := false, autoArmPause := s.seq.autoArm || s.seq.autoArmPause }
      arbiter := s.disarmed.arbiter, drive := s.disarmed.drive, ports := s.disarmed.ports } := by
  refine State.eq_of_blocks rfl ?_
  have undone := State.undoArming_of_cons h
  by_cases hh : s.arbiter.holder = some .sequencer
  · have released := State.sequencerReleases_of_holder (s := s.undoArming) (by rw [undone]; exact hh) rfl
    simp only [State.disarmed, State.pauseAutoArm_eq]
    rw [released]
    simp [undone]
  · have released := State.sequencerReleases_of_not_holder (s := s.undoArming) (by rw [undone]; exact hh)
    simp only [State.disarmed, State.pauseAutoArm_eq, released]
    simp [undone]

/-- Settles O22: the role, the state, then whether SEQUENCER holds the authority or only waits for it. -/
theorem disarmUndoesTheArming : Obligations.DisarmUndoesTheArming := by
  refine ⟨fun s p hp ht => congrArg Host.Outcome.next (State.request_of_wrong_role _ _ ht (rolesC_mem_of_ne hp)),
    fun s ht => ⟨fun hst => ?_, fun hst _ e rest hq => ?_⟩⟩
  · rw [exec, execDisarm, State.request_of_takes _ _ ht rfl, if_pos hst, State.refuse]
  · have taken : exec (.disarm .console) s = .next (s.disarmed.answer .console .disarm .ok []) := by
      rw [exec, execDisarm, State.request_of_takes _ _ ht rfl, if_neg (not_not.mpr hst), State.disarmed]
    have undone := State.undoArming_of_cons hq
    refine ⟨_, taken, ?_, ?_, fun hh => ?_, fun hh => ?_⟩
    · conv_lhs => rw [State.answer, State.answerKind, State.onPort, State.disarmed_eq hq]
      rfl
    · rw [State.answer_get_self]
      rfl
    · have held : s.undoArming.arbiter.holder = some .sequencer := by rw [undone]; exact hh
      have released := State.sequencerReleases_of_holder held rfl
      have arbiter := congrArg State.arbiter released
      have drive := congrArg State.drive released
      have notices := State.sequencerReleases_notices held rfl
      simp only [State.answer_frame, State.disarmed, State.pauseAutoArm_eq, arbiter, drive]
      rw [undone] at notices ⊢
      refine ⟨rfl, rfl, rfl, rfl, fun q hq' r hr => ?_⟩
      rw [State.answer_hasNotice]
      exact notices q hq' r hr
    · have released := State.sequencerReleases_of_not_holder (s := s.undoArming) (by rw [undone]; exact hh)
      simp only [State.answer_frame, State.disarmed, State.pauseAutoArm_eq, released]
      simp [undone]

/-! ## START and GRIPS_START (R33, R34) -/

section
variable {s : State} (ht : s.takes .console = true)
include ht

theorem exec_start_of_not_armed (hst : s.seq.state ≠ .armed) :
    exec (.start .console) s = .next (s.answer .console .start .wrongState []) := by
  rw [exec, execStart, State.request_of_takes _ _ ht rfl, if_pos hst, State.refuse]

variable (hst : s.seq.state = .armed)
include hst

theorem exec_start_of_tare (hl : s.load.tare.isSome = true) :
    exec (.start .console) s = .next (s.answer .console .start .busy []) := by
  rw [exec, execStart, State.request_of_takes _ _ ht rfl, if_neg (not_not.mpr hst), if_pos hl, State.refuse]

variable (hl : s.load.tare = none)
include hl

theorem exec_start_of_refused
    (h : s.arbiter.holder ≠ some .sequencer ∨ s.inputs.grips = false ∨ s.load.referenceFault = true) :
    exec (.start .console) s = .next (s.answer .console .start .wrongState []) := by
  rw [exec, execStart, State.request_of_takes _ _ ht rfl, if_neg (not_not.mpr hst), if_neg (by simp [hl]),
    if_pos (by simpa using h), State.refuse]

theorem exec_start_of_passes (hh : s.arbiter.holder = some .sequencer) (hg : s.inputs.grips = true)
    (hf : s.load.referenceFault = false) :
    exec (.start .console) s = .next (s.startTest.answer .console .start .ok []) := by
  rw [exec, execStart, State.request_of_takes _ _ ht rfl, if_neg (not_not.mpr hst), if_neg (by simp [hl]),
    if_neg (by simp [hh, hg, hf])]

end

/-- Settles O23: START by its checks in their order, GRIPS_START by the conditions of R33 together. -/
theorem testsStartByStartOrByTheGrips : Obligations.TestsStartByStartOrByTheGrips := by
  refine fun s => ⟨fun ht => ⟨exec_start_of_not_armed ht, fun hst => ⟨exec_start_of_tare ht hst,
    fun hl => ⟨exec_start_of_refused ht hst hl, exec_start_of_passes ht hst hl⟩⟩⟩,
    fun running e rest b hq hb => ?_⟩
  have ready := State.gripsStartReady_iff hq hb
  have tested : exec .gripsStart s = .next s.testGripsStart := by
    rw [exec, execGripsStart, State.whenRunning, if_pos running]
  rw [tested]
  exact ⟨fun conditions => congrArg _ (State.testGripsStart_of_ready (ready.mpr conditions)),
    fun missing => congrArg _ (State.testGripsStart_of_not_ready (mt ready.mp missing))⟩

end Sys2Proof.Machine
end

section
/-! PROOFS. The write of a velocity by its three cases (R149, R150), and the start of a test (R35, R68). -/

namespace Sys2Proof.Machine

section
variable {s : State} {source : VelocitySource} {v : Int}

/-! ## The write of a velocity (R149, R150) -/

/-- A velocity within ±vmax is written as it is. -/
theorem clampInt_of_within {lo hi x : Int} (h : lo ≤ x) (h' : x ≤ hi) : clampInt lo hi x = x := by
  rw [clampInt_eq_max_min (h.trans h')]
  omega

variable (lo : -s.drive.config.vmax ≤ v) (hi : v ≤ s.drive.config.vmax)
include lo hi

/-- A velocity whose period is a stop value stops the generator. -/
theorem State.writeVelocity_of_stop_value (h : periodTicks s.drive.config.step v = none) :
    s.writeVelocity source v = { s with
      drive := { s.drive with source := source, velocity := 0, generator := none, buffer := none } } := by
  rw [State.writeVelocity, clampInt_of_within lo hi, h]
  rfl

/-- A velocity with a period starts a STOPPED generator. -/
theorem State.writeVelocity_of_stopped {n : Nat} (h : periodTicks s.drive.config.step v = some n)
    (stopped : s.drive.generator = none) :
    s.writeVelocity source v = { s with
      drive := { s.drive with
        source := source, velocity := v, buffer := none
        generator := some ⟨n, 0, { s.drive with source := source, velocity := v }.periodDirection⟩ } } := by
  rw [State.writeVelocity, clampInt_of_within lo hi, h]
  dsimp only
  rw [stopped]

/-- A velocity with a period waits for the boundary of a RUNNING generator. -/
theorem State.writeVelocity_of_running {n : Nat} (h : periodTicks s.drive.config.step v = some n)
    (running : s.drive.generator ≠ none) :
    s.writeVelocity source v =
      { s with drive := { s.drive with source := source, velocity := v, buffer := some n } } := by
  obtain ⟨g, hg⟩ := Option.ne_none_iff_exists'.mp running
  rw [State.writeVelocity, clampInt_of_within lo hi, h]
  dsimp only
  rw [hg]

end

/-- Under a source other than a move the direction is that of the velocity's sign (R150). -/
theorem Drive.periodDirection_of_sequencer {d : Drive} (h : d.source = .sequencer) (hv : 0 ≤ d.velocity) :
    d.periodDirection = .opening := by
  rw [Drive.periodDirection, h]
  exact if_pos hv

/-! ## The start of a test (R35) -/

/-- `s` with the test of `e` begun in PRELOAD, before the approach speed is written (R35, R68). -/
def State.testBegun (s : State) (e : SpecimenEntry) (rest : List SpecimenEntry) (b : ProgramBody) : State :=
  let resolved := resolveLength b.lengthSource e.parallel e.capture s.strain.frame.datum
  { s with
    queue := { e with state := .inTest } :: rest
    strain := { s.strain with
      area := some e.area, parallel := some resolved.1
      extGauge := if b.extUse = .auto then some b.extGauge else none
      lengthSubstituted := resolved.2 }
    seq := { s.seq with
      state := .preload, segment := 1, startPosition := s.drive.encoder, openSeen := false } }

section
variable {s : State} {e : SpecimenEntry} {rest : List SpecimenEntry} {b : ProgramBody}

theorem State.startTest_of_cons (hq : s.queue = e :: rest) (hb : s.programAt e.slot = some b) :
    s.startTest = (((s.testBegun e rest b).seqWrite (min b.approach s.drive.config.vmax)).addNotice .console
      .testStarted).addNotice .cell .testStarted := by
  have program : s.headProgram = some b := (State.headProgram_of_cons hq).trans hb
  rw [State.startTest, program, hq]
  dsimp only [List.head?_cons]
  rw [State.setHeadState_of_cons hq]
  rfl

/-- The approach speed, which lies within the clamp of the drive (R35). -/
theorem approach_within {approach vmax : Int} (ha : 0 ≤ approach) (hv : 0 ≤ vmax) :
    0 ≤ min approach vmax ∧ -vmax ≤ min approach vmax ∧ min approach vmax ≤ vmax := by
  omega

/-! ## The parallel length in use (R68) -/

theorem resolveLength_of_entered (entered : Int) (capture : Option Word32) (datum : Word32) :
    resolveLength .entered entered capture datum = (entered, false) := by
  cases capture <;> rfl

theorem resolveLength_of_no_capture (entered : Int) (datum : Word32) :
    resolveLength .gripSeparation entered none datum = (entered, true) := rfl

theorem resolveLength_of_capture (entered : Int) (c datum : Word32) :
    resolveLength .gripSeparation entered (some c) datum =
      if 10000 ≤ roundDiv (c.toInt - datum.toInt) 10 ∧ roundDiv (c.toInt - datum.toInt) 10 ≤ 400000
      then (roundDiv (c.toInt - datum.toInt) 10, false) else (entered, true) := by
  simp only [resolveLength, within_eq_true_iff]

end

/-- Settles O24: the test begun, the approach speed written by whether it has a period, and the length by its
source. -/
theorem startEffects : Obligations.StartEffects := by
  intro s e rest b hq hb hh stopped _ ha hv
  obtain ⟨opens, lo, hi⟩ := approach_within ha hv
  have held : (s.testBegun e rest b).arbiter.holder = some .sequencer := hh
  have started := State.startTest_of_cons hq hb
  rw [State.seqWrite, if_pos held] at started
  have strain : s.startTest.strain = (s.testBegun e rest b).strain := by simp [started]
  refine ⟨?_, fun n period => ?_, fun none => ?_, fun entered => ?_, fun grip c captured => ⟨fun lower upper => ?_,
    fun outside => ?_⟩, fun grip absent => ?_, ?_, ?_⟩
  · refine State.eq_of_blocks rfl ?_
    simp [started, State.testBegun]
  · have written := State.writeVelocity_of_stopped (s := s.testBegun e rest b) (source := .sequencer) lo hi period
      stopped
    have direction := Drive.periodDirection_of_sequencer
      (d := { s.drive with source := .sequencer, velocity := min b.approach s.drive.config.vmax }) rfl opens
    simp only [started, State.addNotice_frame, written]
    exact congrArg (fun x : Direction => { s.drive with
      source := .sequencer, velocity := min b.approach s.drive.config.vmax
      generator := some ⟨n, 0, x⟩, buffer := none }) direction
  · have written := State.writeVelocity_of_stop_value (s := s.testBegun e rest b) (source := .sequencer) lo hi none
    simp only [started, State.addNotice_frame, written]
    rfl
  · rw [strain, State.testBegun, entered, resolveLength_of_entered]
    exact ⟨rfl, rfl⟩
  · rw [strain, State.testBegun, grip, captured, resolveLength_of_capture, if_pos ⟨lower, upper⟩]
    exact ⟨rfl, rfl⟩
  · rw [strain, State.testBegun, grip, captured, resolveLength_of_capture, if_neg (by omega)]
    exact ⟨rfl, rfl⟩
  · rw [strain, State.testBegun, grip, absent, resolveLength_of_no_capture]
    exact ⟨rfl, rfl⟩
  · simp [started, State.testBegun]
  · simp [started, State.testBegun]

end Sys2Proof.Machine
end

section
/-! PROOFS. The detach request by the state of the link (R135), and the entry to ENDING (R45, R47). -/

namespace Sys2Proof.Machine

/-! ## The transmit path (R127) -/

section
variable {l : ExtLink} {cmd : HeadCommand} {owner : CommandOwner}

theorem ExtLink.hand_of_empty (h : l.shifter = .empty) :
    l.hand cmd owner = { l with shifter := .command ⟨cmd, owner⟩ false none } := by
  rw [ExtLink.hand, h]

theorem ExtLink.hand_of_free (h : l.shifter ≠ .empty) (free : l.holding = none) :
    l.hand cmd owner = { l with holding := some ⟨cmd, owner⟩ } := by
  rw [ExtLink.hand, free]
  split
  next _ empty => exact absurd empty h
  next => rfl
  next => contradiction

theorem ExtLink.hand_of_full (h : l.shifter ≠ .empty) (full : l.holding ≠ none) :
    l.hand cmd owner = { l with waiting := l.waiting ++ [⟨cmd, owner⟩] } := by
  obtain ⟨c, hc⟩ := Option.ne_none_iff_exists'.mp full
  rw [ExtLink.hand, hc]
  split
  next _ empty => exact absurd empty h
  next => contradiction
  next => rfl

/-- A command handed goes to the first free place of the path, and nothing else of the link changes. -/
theorem ExtLink.hand_eq (l : ExtLink) (cmd : HeadCommand) (owner : CommandOwner) :
    l.hand cmd owner = { l with
      shifter := if l.shifter = .empty then .command ⟨cmd, owner⟩ false none else l.shifter
      holding := if l.shifter ≠ .empty ∧ l.holding = none then some ⟨cmd, owner⟩ else l.holding
      waiting := if l.shifter ≠ .empty ∧ l.holding ≠ none then l.waiting ++ [⟨cmd, owner⟩] else l.waiting } := by
  by_cases empty : l.shifter = .empty
  · simp [ExtLink.hand_of_empty empty, empty]
  · by_cases free : l.holding = none
    · simp [ExtLink.hand_of_free empty free, empty, free]
    · simp [ExtLink.hand_of_full empty free, empty, free]

end

/-! ## The detach request (R135) -/

section
variable {s : State} {owner : CommandOwner}

/-- STREAMING, and CLOSING once CLOSE_ARMS has left the queue, hand OPEN_ARMS. -/
theorem State.requestDetach_of_hands (h : s.link.detachHands = true) :
    s.requestDetach owner = { s with link := { (s.link.withdraw .streamOn).hand .openArms owner with
      attachPending := false, operationTimer := some 0, staleness := 0 } }.toLinkState .opening :=
  if_pos h

theorem ExtLink.detachHands_iff {l : ExtLink} :
    l.detachHands = true ↔ l.state = .streaming ∨ (l.state = .closing ∧ l.queued .closeArms = false) := by
  simp [ExtLink.detachHands]

/-- Outside CLOSING and STREAMING no OPEN_ARMS is handed. -/
theorem ExtLink.detachHands_of_state {l : ExtLink} (closing : l.state ≠ .closing) (streaming : l.state ≠ .streaming) :
    ¬ l.detachHands = true := by
  simp [ExtLink.detachHands, closing, streaming]

theorem State.requestDetach_of_waking (h : s.link.state = .waking) :
    s.requestDetach owner = { s with link := { s.link with attachPending := false } } := by
  rw [State.requestDetach]
  dsimp only
  rw [if_neg (ExtLink.detachHands_of_state (by simp [h]) (by simp [h])), h]

theorem State.requestDetach_of_ready (h : s.link.state = .ready) :
    s.requestDetach owner =
      if s.link.attachPending then
        if s.link.queued .closeArms then
          { s with link := { s.link.withdraw .closeArms with attachPending := false, operationTimer := none } }
        else { s with link := { s.link with attachPending := false } }
      else s := by
  rw [State.requestDetach]
  dsimp only
  rw [if_neg (ExtLink.detachHands_of_state (by simp [h]) (by simp [h])), h]

/-- CLOSING before CLOSE_ARMS was sent goes back to READY. -/
theorem State.requestDetach_of_closing_queued (h : s.link.state = .closing) (queued : s.link.queued .closeArms = true) :
    s.requestDetach owner = { s with
      link := { (s.link.withdraw .closeArms).hand .streamOff .link with
        state := .ready, attachPending := false, operationTimer := none, wake := none, syncWindow := none
        recoveryTimer := none, staleness := 0, sleepTimer := some 0 } }.addNotice .console .extState := by
  have kept : ¬ s.link.detachHands = true := by simp [ExtLink.detachHands, h, queued]
  rw [State.requestDetach]
  dsimp only
  rw [if_neg kept, h]
  dsimp only
  rw [State.enterReady, State.toLinkState]
  simp only [ExtLink.hand_eq]
  rfl

theorem State.requestDetach_of_settled (h : s.link.state = .asleep ∨ s.link.state = .opening ∨ s.link.state = .lost) :
    s.requestDetach owner = s := by
  rw [State.requestDetach]
  dsimp only
  rcases h with h | h | h
  all_goals rw [if_neg (ExtLink.detachHands_of_state (by simp [h]) (by simp [h])), h]

end

/-! ## The entry to ENDING (R47) -/

section
variable {s : State}

/-- The extensometer is brought off by the link's state alone. -/
theorem State.detachForEnding_of_attached (h : s.link.state = .closing ∨ s.link.state = .streaming) :
    s.detachForEnding = s.requestDetach .sequencer := by
  rw [State.detachForEnding]
  rcases h with h | h
  all_goals rw [h]

theorem State.detachForEnding_of_attaching (h : s.link.state = .waking ∨ s.link.state = .ready) :
    s.detachForEnding = if s.sequencerAttaching then s.requestDetach .sequencer else s := by
  rw [State.detachForEnding]
  rcases h with h | h
  all_goals rw [h]

theorem State.detachForEnding_of_settled
    (h : s.link.state = .asleep ∨ s.link.state = .opening ∨ s.link.state = .lost) : s.detachForEnding = s := by
  rw [State.detachForEnding]
  rcases h with h | h | h
  all_goals rw [h]

/-- What an entry to ENDING writes while SEQUENCER holds, beside what brings the extensometer off. -/
theorem State.enterEnding_eq (outcome : TestOutcome) (cause : Option Cause)
    (hh : s.arbiter.holder = some .sequencer) (hv : 0 ≤ s.drive.config.vmax) :
    s.enterEnding outcome cause = { s with
      seq := { s.seq with state := .ending, outcome := some outcome, cause := cause, endingTimer := some 0 }
      eval := { s.eval with detectors := false }
      drive := { s.drive with generator := none, buffer := none, velocity := 0, source := .sequencer }
      link := s.detachForEnding.link
      ports := s.detachForEnding.ports } := by
  rw [State.enterEnding]
  dsimp only
  rw [State.seqWrite_zero (by simpa using hh) (by simpa using hv)]
  refine State.eq_of_blocks rfl ?_
  simp

/-- The attach that an entry to ENDING withdraws is the sequencer's own. -/
theorem State.sequencerAttaching_iff : s.sequencerAttaching = true ↔ s.link.attachPending = true
    ∧ (s.seq.state = .attach
      ∨ ((s.seq.state = .run ∨ s.seq.state = .hold) ∧ s.seq.extAttachFailed = true)) := by
  simp [State.sequencerAttaching]

end

section
variable {p : Role} {s : State} (hp : p ≠ .quality) (ht : s.takes p = true)
include hp ht

theorem abort_reaches_sequencer (own : State → State) : s.request p .abort own = own s :=
  State.request_of_takes .abort own ht (rolesCL_mem_of_ne hp)

theorem exec_abort_of_no_test (h : s.seq.state.underTest = false) :
    exec (.abort p) s = .next (s.answer p .abort .wrongState []) := by
  rw [exec, execAbort, abort_reaches_sequencer hp ht, if_pos (by simp [h]), State.refuse]

theorem exec_abort_of_test (h : s.seq.state.underTest = true) :
    exec (.abort p) s = .next
      (((s.enterEnding .aborted (some .operator)).testEnding).answer p .abort .ok []) := by
  rw [exec, execAbort, abort_reaches_sequencer hp ht, if_neg (by simp [h])]

end

/-- Settles O26: ABORT by whether a test is under way, and the entry to ENDING by the state of the link. -/
theorem abortEntersEnding : Obligations.AbortEntersEnding := by
  refine ⟨fun p s hp ht => ⟨fun h => exec_abort_of_no_test hp ht ?_, fun h => exec_abort_of_test hp ht ?_⟩, ?_⟩
  · rcases h with h | h | h <;> rw [h] <;> rfl
  · rcases h with h | h | h | h <;> rw [h] <;> rfl
  rintro s t outcome cause attaching hh hv rfl own
  rw [← State.sequencerAttaching_iff] at own
  have ending := State.enterEnding_eq outcome cause hh hv
  have link : (s.enterEnding outcome cause).link = s.detachForEnding.link := by rw [ending]
  refine ⟨?_, fun h => ?_, fun closing queued => ?_, fun ready attach queued => ?_, fun ready attach away => ?_,
    fun waking attach => ?_, fun h other => ?_, fun h => ?_⟩
  · have ports : (s.enterEnding outcome cause).ports = s.detachForEnding.ports := by rw [ending]
    rw [link, ports, ending]
  · have attached : s.link.state = .closing ∨ s.link.state = .streaming := h.symm.imp_left And.left
    rw [link, State.detachForEnding_of_attached attached,
      State.requestDetach_of_hands (ExtLink.detachHands_iff.mpr h)]
    rfl
  · rw [link, State.detachForEnding_of_attached (Or.inl closing), State.requestDetach_of_closing_queued closing queued]
    rfl
  · rw [link, State.detachForEnding_of_attaching (Or.inr ready), if_pos (own.mp attach),
      State.requestDetach_of_ready ready, if_pos (State.sequencerAttaching_iff.mp (own.mp attach)).1, if_pos queued]
  · rw [link, State.detachForEnding_of_attaching (Or.inr ready), if_pos (own.mp attach),
      State.requestDetach_of_ready ready, if_pos (State.sequencerAttaching_iff.mp (own.mp attach)).1,
      if_neg (by simp [away])]
  · rw [link, State.detachForEnding_of_attaching (Or.inl waking), if_pos (own.mp attach),
      State.requestDetach_of_waking waking]
  · rw [link, State.detachForEnding_of_attaching h.symm, if_neg (mt own.mpr other)]
  · rw [link, State.detachForEnding_of_settled h]

end Sys2Proof.Machine
end

section
/-! PROOFS. The completion of a test (R49): the record filed, the head removed, the authority given on, the blocks
cleared and the notices set. -/

namespace Sys2Proof.Machine

/-- `s` with its test completed and recorded in `r`, before auto-arm examines the head (R49). -/
def State.completed (s : State) (r : ResultRecord) : State :=
  let s := (s.fileRecord r).removeHead.releaseAtCompletion
  { s with seq := { s.seq with state := .idle, openSeen := false, endingTimer := none } }.clearTest.noticeTestEnd

section
variable {s : State}

theorem State.completeTest_of_some {e : SpecimenEntry} {outcome : TestOutcome} (he : s.queue.head? = some e)
    (ho : s.seq.outcome = some outcome) :
    s.completeTest = (s.completed (s.assembleRecord e outcome s.seq.cause s.seq.note)).examineHead := by
  rw [State.completeTest, he, ho]
  rfl

/-! ## The blocks -/

theorem State.fileRecord_results (r : ResultRecord) :
    (s.fileRecord r).results = { s.results with records := s.results.records ++ [r], reserved := false } := by
  simp [State.fileRecord]

/-- A head that leaves: the entries behind it move forward, and the count and the pause go with it (R9). -/
theorem State.removeHead_of_cons {e : SpecimenEntry} {rest : List SpecimenEntry} (h : s.queue = e :: rest) :
    s.removeHead = (({ s with queue := rest, seq := { s.seq with autoArmPause := false } } : State).changeInUse e.slot
      (· - 1)).addNotice .console .queueChanged := by
  rw [State.removeHead, h]

theorem State.removeHead_programs {e : SpecimenEntry} {rest : List SpecimenEntry} {q : ProgramSlot}
    (h : s.queue = e :: rest) (hs : s.programs[e.slot]? = some q) :
    s.removeHead.programs = s.programs.set e.slot { q with inUse := q.inUse - 1 } := by
  rw [State.removeHead_of_cons h]
  exact State.changeInUse_programs (s := { s with queue := rest, seq := { s.seq with autoArmPause := false } })
    (· - 1) hs

/-- What the release at a completion leaves of the arbiter and of the drive, where SEQUENCER or no party holds. -/
theorem State.releaseAtCompletion_blocks (state : s.seq.state ≠ .armed)
    (hh : s.arbiter.holder = some .sequencer ∨ s.arbiter.holder = none) :
    s.releaseAtCompletion.queue = s.queue ∧ s.releaseAtCompletion.strain = s.strain
      ∧ s.releaseAtCompletion.seq = s.seq
      ∧ s.releaseAtCompletion.arbiter = ⟨s.arbiter.waiting.head?, s.arbiter.waiting.tail⟩
      ∧ s.releaseAtCompletion.drive =
        if s.arbiter.holder = some .sequencer then s.drive.dropped .released else s.drive := by
  obtain ⟨queue, strain, seq, arbiter, drive⟩ := s.releaseAtCompletion_frame_of_not_armed state
  refine ⟨queue, strain, seq, arbiter.trans ?_, drive.trans (by rw [State.dropHolder_drive_eq])⟩
  rcases hh with hh | hh
  · rw [Arbiter.released, if_pos hh, Arbiter.granted_of_free rfl]
  · rw [Arbiter.released, if_neg (by simp [hh]), if_pos hh, Arbiter.granted_of_free hh]

/-- A drop without a move in flight leaves the drive's move and its last outcome. -/
theorem Drive.dropped_of_none {d : Drive} (h : d.move = none) (cause : MoveEndCause) :
    d.dropped cause = { d with generator := none, buffer := none, velocity := 0, source := .none } := by
  simp [Drive.dropped, Drive.outcomeAfter, h]

/-- Every block of a completed test (R49). -/
theorem State.completed_eq {e : SpecimenEntry} {rest : List SpecimenEntry} {q : ProgramSlot} (r : ResultRecord)
    (hq : s.queue = e :: rest) (hs : s.programs[e.slot]? = some q) (state : s.seq.state = .ending)
    (hh : s.arbiter.holder = some .sequencer ∨ s.arbiter.holder = none) (hm : s.drive.move = none) :
    s.completed r = { s with
      queue := rest
      programs := s.programs.set e.slot { q with inUse := q.inUse - 1 }
      results := { s.results with records := s.results.records ++ [r], reserved := false }
      arbiter := ⟨s.arbiter.waiting.head?, s.arbiter.waiting.tail⟩
      drive :=
        if s.arbiter.holder = some .sequencer then
          { s.drive with generator := none, buffer := none, velocity := 0, source := .none }
        else s.drive
      seq := { s.seq with state := .idle, autoArmPause := false, openSeen := false, endingTimer := none }
      strain := StrainUnit.cleared s.strain.frame
      rate := RateController.cleared
      eval := Evaluator.cleared
      ports := (s.completed r).ports } := by
  have filed : (s.fileRecord r).queue = e :: rest := by simpa using hq
  have removed := State.removeHead_of_cons filed
  have programs := State.removeHead_programs filed (q := q) (by simpa using hs)
  have seq : (s.fileRecord r).removeHead.seq = { s.seq with autoArmPause := false } := by
    rw [removed]
    simp
  have released := State.releaseAtCompletion_blocks (s := (s.fileRecord r).removeHead) (by simp [seq, state])
    (by simpa using hh)
  refine State.eq_of_blocks rfl ?_
  simp [State.completed, State.clearTest, released, programs, seq, hq, State.fileRecord_results,
    Drive.dropped_of_none hm]

/-! ## The notices -/

theorem State.addNoticeTo_stay (roles : RoleSet) (n : Notice) : NoticesStay s (s.addNoticeTo roles n) := by
  have optional (t : State) (b : Bool) (p : Role) : NoticesStay t (if b then t.addNotice p n else t) := by
    cases b
    · exact .refl
    · exact t.addNotice_stay p n
  exact ((optional _ _ _).trans (optional _ _ _)).trans (optional _ _ _)

/-- A notice set after a notice to a set of roles. -/
theorem State.addNoticeTo_notices (roles : RoleSet) (n : Notice) (p : Role) :
    ((s.addNoticeTo roles n).ports.get p).notices =
      if roles.mem p then withNotice (s.ports.get p).notices n else (s.ports.get p).notices := by
  have optional (t : State) (b : Bool) (q : Role) : ((if b then t.addNotice q n else t).ports.get p).notices =
      if b ∧ p = q then withNotice (t.ports.get p).notices n else (t.ports.get p).notices := by
    cases b <;> simp
  simp only [State.addNoticeTo, optional]
  cases p <;> simp <;> rfl

theorem State.addNoticeTo_hasNotice {roles : RoleSet} (n : Notice) {p : Role} (h : roles.mem p = true) :
    ((s.addNoticeTo roles n).ports.get p).hasNotice n = true := by
  rw [Port.hasNotice, State.addNoticeTo_notices, if_pos h]
  exact withNotice_hasNotice _ n

theorem State.removeHead_stay : NoticesStay s s.removeHead := by
  cases hq : s.queue with
  | nil => rw [State.removeHead, hq]; exact .refl
  | cons e rest =>
    rw [State.removeHead_of_cons hq]
    exact .trans (.of_ports rfl) (State.addNotice_stay _ _ _)

/-- Outside ARMED a grant of the front adds to the notices alone. -/
theorem State.grantFront_stay_of_not_armed (h : s.seq.state ≠ .armed) : NoticesStay s s.grantFront := by
  by_cases front : s.arbiter.waiting.head? = some .sequencer
  · obtain ⟨rest, hw⟩ : ∃ rest, s.arbiter.waiting = .sequencer :: rest := by
      simpa [List.head?_eq_some_iff] using front
    rw [State.grantFront_of_sequencer_not_armed hw h]
    exact .of_ports rfl
  · exact State.grantFront_stay_of_not_sequencer front

/-- The release at a completion as the grant of the front by a state without a holder. -/
theorem State.releaseAtCompletion_eq_grantFront (hh : s.arbiter.holder = some .sequencer ∨ s.arbiter.holder = none) :
    ∃ t : State, s.releaseAtCompletion = t.grantFront ∧ NoticesStay s t
      ∧ t.arbiter.waiting = s.arbiter.waiting ∧ t.seq = s.seq := by
  rcases hh with hh | hh
  · refine ⟨s.dropHolder .released, ?_, s.dropHolder_stay .released, by simp, by simp⟩
    simp [State.releaseAtCompletion, hh]
  · exact ⟨s, by simp [State.releaseAtCompletion, hh], .refl, rfl, rfl⟩

theorem State.releaseAtCompletion_stay (state : s.seq.state ≠ .armed)
    (hh : s.arbiter.holder = some .sequencer ∨ s.arbiter.holder = none) : NoticesStay s s.releaseAtCompletion := by
  obtain ⟨t, released, stay, -, seq⟩ := State.releaseAtCompletion_eq_grantFront hh
  rw [released]
  exact stay.trans (State.grantFront_stay_of_not_armed (by rwa [seq]))

theorem State.noticeTestEnd_stay : NoticesStay s s.noticeTestEnd :=
  (s.addNotice_stay _ _).trans (State.addNotice_stay _ _ _)

/-- The end of the test is told to CONSOLE and CELL. -/
theorem State.noticeTestEnd_hasNotice :
    (s.noticeTestEnd.ports.get .console).hasNotice .testEnded = true
      ∧ (s.noticeTestEnd.ports.get .cell).hasNotice .specimenDone = true :=
  ⟨State.addNotice_stay _ _ _ _ _ (s.addNotice_hasNotice _ _), State.addNotice_hasNotice _ _ _⟩

end

/-- Settles O28: the record is the one assembled, every block is that of `completed_eq`, and each notice stays from the
operation that set it. -/
theorem completionEffects : Obligations.CompletionEffects := by
  rintro s e rest outcome q b parallel k r hq state ho hh hm hs hb hp hk hr
  have program : s.headProgram = some b := by
    rw [State.headProgram_of_cons hq, State.programAt, hs]
    exact hb
  have modulus : s.modulusAtAssembly = some k := by
    rw [State.modulusAtAssembly, program, hk]
    cases s.eval.modulus <;> rfl
  have record : s.assembleRecord e outcome s.seq.cause s.seq.note = r := by
    rw [hr, State.assembleRecord, modulus, hp]
    simp [elasticStrain, Option.map_eq_bind, RoleSet.empty]
  have filed : (s.fileRecord r).removeHead.seq.state ≠ .armed := by
    rw [State.removeHead_of_cons (by simpa using hq)]
    simp [state]
  have holder : (s.fileRecord r).removeHead.arbiter.holder = some .sequencer
      ∨ (s.fileRecord r).removeHead.arbiter.holder = none := by simpa using hh
  have released : NoticesStay (s.fileRecord r).removeHead (s.completed r) :=
    (State.releaseAtCompletion_stay filed holder).trans (State.noticeTestEnd_stay (s := State.clearTest _))
  refine ⟨s.completed r, ?_, State.completed_eq r hq hs state hh hm, ?_, ?_, ?_, ?_, ?_⟩
  · rw [State.completeTest_of_some (e := e) (by simp [hq]) ho, record]
  · exact State.noticeTestEnd_hasNotice.1
  · refine released _ _ ?_
    rw [State.removeHead_of_cons (by simpa using hq)]
    exact State.addNotice_hasNotice _ _ _
  · exact State.noticeTestEnd_hasNotice.2
  · intro p reader
    have told : ((s.fileRecord r).ports.get p).hasNotice .resultReady = true :=
      State.addNoticeTo_hasNotice _ (by rw [hr]; exact reader)
    exact released _ _ (State.removeHead_stay _ _ told)
  · intro p hp
    obtain ⟨front, hf, port⟩ := Option.mem_bind_iff.mp hp
    obtain ⟨t, granted, -, waiting, -⟩ := State.releaseAtCompletion_eq_grantFront holder
    have told : ((s.fileRecord r).removeHead.releaseAtCompletion.ports.get p).hasNotice .authorityGranted = true := by
      rw [granted]
      exact State.grantFront_notices front (by simpa [waiting] using hf) p port
    exact State.noticeTestEnd_stay (s := State.clearTest _) _ _ told

end Sys2Proof.Machine
end

section
/-! PROOFS. The states of the extensometer link: what an entry to each writes (R129 to R139), how the sequencer takes a
change of the link (R37, R48), and how an attach goes on from READY (R130). -/

namespace Sys2Proof.Machine

/-! ## The entries to the link's states -/

/-- The link on entry to READY (R129, R136, R139). -/
def ExtLink.readied (l : ExtLink) : ExtLink :=
  { l.hand .streamOff .link with
    state := .ready, wake := none, syncWindow := none, recoveryTimer := none, staleness := 0
    sleepTimer := some 0, operationTimer := if l.attachPending then l.operationTimer else none }

/-- The arms may be closed once the link is lost (R138). -/
def ExtLink.unknownOnLoss (l : ExtLink) : Bool :=
  l.armsUnknown || decide (l.state = .closing ∨ l.state = .streaming ∨ l.state = .opening)

/-- The link on entry to LOST, a recovery of unknown arms begun at once (R138). -/
def ExtLink.fallen (l : ExtLink) : ExtLink :=
  { l with
    state := .lost, armsUnknown := l.unknownOnLoss, lock := none
    shifter := if l.unknownOnLoss then .sendingBreak else .empty
    holding := none, waiting := [], attachPending := false, streamRequested := false
    operationTimer := none, staleness := 0, wake := none, syncWindow := none, sleepTimer := none
    recoveryTimer := if l.unknownOnLoss then some 0 else none }

/-- The link on entry to ASLEEP (R135, R137). -/
def ExtLink.slept (l : ExtLink) : ExtLink :=
  { l with
    state := .asleep, lock := none, sleepTimer := none, syncWindow := none
    operationTimer := if l.attachPending then l.operationTimer else none }

/-- The link on entry to WAKING: attempt 1 sends its break (R129). -/
def ExtLink.woken (l : ExtLink) : ExtLink :=
  { l with
    state := .waking, lock := none, shifter := .sendingBreak, holding := none, waiting := []
    wake := some ⟨1, 0⟩, syncWindow := none, recoveryTimer := none, sleepTimer := none }

section
variable (s : State)

theorem State.enterReady_eq :
    s.enterReady = { s with link := s.link.readied }.addNotice .console .extState := by
  rw [State.enterReady, State.toLinkState, ExtLink.readied]
  simp only [ExtLink.hand_eq]

theorem State.enterLost_eq :
    s.enterLost = { s with link := s.link.fallen }.addNotice .console .extState := by
  have unknown : (s.link.armsUnknown || s.link.state == .closing || s.link.state == .streaming
      || s.link.state == .opening) = s.link.unknownOnLoss := by
    simp [ExtLink.unknownOnLoss, Bool.or_assoc, beq_eq_decide]
  rw [State.enterLost]
  dsimp only
  rw [unknown, ExtLink.fallen]
  cases s.link.unknownOnLoss <;> rfl

theorem State.enterAsleep_eq :
    s.enterAsleep = { s with link := s.link.slept }.addNotice .console .extState := rfl

theorem State.beginWake_eq :
    s.beginWake = { s with link := s.link.woken }.addNotice .console .extState := rfl

/-- The shifter that is free again takes up the next command (R127). -/
def ExtLink.movedUp (l : ExtLink) : ExtLink :=
  match l.holding with
  | none => { l with shifter := .empty }
  | some c => { l with shifter := .command c false none, holding := l.waiting.head?, waiting := l.waiting.tail }

theorem ExtLink.movedUp_of_none {l : ExtLink} (h : l.holding = none) : l.movedUp = { l with shifter := .empty } := by
  rw [ExtLink.movedUp, h]

theorem ExtLink.movedUp_of_some {l : ExtLink} {c : QueuedCommand} (h : l.holding = some c) : l.movedUp =
    { l with shifter := .command c false none, holding := l.waiting.head?, waiting := l.waiting.tail } := by
  rw [ExtLink.movedUp, h]

/-- No CLOSE_ARMS of an attach waits to be taken up (R130). -/
def ExtLink.noCloseWaits (l : ExtLink) : Prop :=
  l.state = .ready → l.attachPending = true → l.holding.isSome = true →
    ∀ c ∈ l.waiting.head?, c.command ≠ .closeArms

theorem State.shifterEmpties_eq {s : State} (h : s.link.noCloseWaits) :
    s.shifterEmpties = { s with link := s.link.movedUp } := by
  rw [State.shifterEmpties, ExtLink.movedUp]
  cases hc : s.link.holding with
  | none => rfl
  | some c =>
    refine if_neg fun ⟨ready, pending, front⟩ => ?_
    obtain ⟨next, hn, command⟩ := Option.map_eq_some_iff.mp front
    exact h ready pending (by simp [hc]) next hn command

/-- A CLOSE_ARMS taken up from the wait position enters CLOSING (R130). -/
theorem State.shifterEmpties_of_close_waits {s : State} {next : QueuedCommand} (ready : s.link.state = .ready)
    (pending : s.link.attachPending = true) (held : s.link.holding.isSome = true)
    (hn : s.link.waiting.head? = some next) (close : next.command = .closeArms) :
    s.shifterEmpties = { s with link := { s.link.movedUp with
      state := .closing, streamRequested := false, sleepTimer := none } }.addNotice .console .extState := by
  obtain ⟨c, hc⟩ := Option.isSome_iff_exists.mp held
  rw [State.shifterEmpties, ExtLink.movedUp, hc]
  dsimp only
  rw [if_pos ⟨ready, pending, by rw [hn, Option.map_some, close]⟩]
  rfl

end

/-! ## The sequencer takes a change of the link (R37, R48) -/

section
variable {s : State}

theorem State.testAttach_of_other (h : s.link.state ≠ .streaming) (h' : s.link.state ≠ .lost) : s.testAttach = s := by
  unfold State.testAttach
  rw [if_neg h, if_neg h', ite_self]

theorem State.testAttach_of_not_attach (h : s.seq.state ≠ .attach) : s.testAttach = s :=
  if_neg h

theorem State.testEnding_of_not_ending (h : s.seq.state ≠ .ending) : s.testEnding = s := by
  simp [State.testEnding, State.endingSettled, h]

/-- In ENDING a change of the link tests the wait (R48). -/
theorem State.linkChanged_of_ending (h : s.seq.state = .ending) : s.linkChanged = s.testEnding := by
  rw [State.linkChanged, State.testAttach_of_not_attach (by simp [h])]

/-- In ATTACH a change of the link may end it (R37). -/
theorem State.linkChanged_of_attach (h : s.seq.state = .attach) : s.linkChanged = s.testAttach := by
  rw [State.linkChanged, State.testEnding_of_not_ending]
  unfold State.testAttach
  split_ifs <;> simp [State.enterRun, h]

/-- LOST ends ATTACH with RUN on the crosshead and EXT_ATTACH_FAILED (R37). -/
theorem State.linkChanged_of_attach_lost (h : s.seq.state = .attach) (lost : s.link.state = .lost) :
    s.linkChanged = { s with
      strain := { s.strain with source := some .crosshead, delta := 0 }
      seq := { s.seq with state := .run, extAttachFailed := true, releaseSeen := true }
      rate := { s.rate with initPending := true } } := by
  rw [State.linkChanged_of_attach h, State.testAttach, if_pos h, if_neg (by simp [lost]), if_pos lost]
  simp [State.enterRun]

/-- STREAMING ends ATTACH with the zero taken and RUN on the extensometer (R37, R71). -/
theorem State.linkChanged_of_attach_streaming {r : Reading} (h : s.seq.state = .attach)
    (streaming : s.link.state = .streaming) (hr : s.link.latest = some r) :
    s.linkChanged = { s with
      strain := { s.strain with
        zero := some r.elongation, lastUsable := some r.elongation, source := some .extensometer, delta := 0 }
      seq := { s.seq with state := .run }
      rate := { s.rate with initPending := true } } := by
  rw [State.linkChanged_of_attach h, State.testAttach, if_pos h, if_pos streaming, State.takeZero, hr]
  simp [State.enterRun]

/-- A link that neither streams nor is lost reaches the sequencer in ENDING alone. -/
theorem State.linkChanged_of_not_ending (ending : s.seq.state ≠ .ending) (streaming : s.link.state ≠ .streaming)
    (lost : s.link.state ≠ .lost) : s.linkChanged = s := by
  rw [State.linkChanged, State.testAttach_of_other streaming lost, State.testEnding_of_not_ending ending]

theorem State.testEnding_of_settled (state : s.seq.state = .ending) (rest : s.meter.rest = true)
    (link : s.link.state = .ready ∨ s.link.state = .asleep ∨ s.link.state = .lost) :
    s.testEnding = s.completeTest :=
  if_pos (by simpa [State.endingSettled, state, rest, or_assoc] using link)

theorem State.testEnding_of_not_settled (h : s.seq.state ≠ .ending ∨ s.meter.rest = false
    ∨ (s.link.state ≠ .ready ∧ s.link.state ≠ .asleep ∧ s.link.state ≠ .lost)) : s.testEnding = s := by
  refine if_neg fun settled => ?_
  simp only [State.endingSettled, Bool.and_eq_true, Bool.or_eq_true, beq_iff_eq] at settled
  obtain ⟨⟨ending, rest⟩, link⟩ := settled
  simp [ending, rest] at h
  obtain ⟨ready, asleep, lost⟩ := h
  exact link.elim (fun h => h.elim ready asleep) lost

/-! ## The sequencer's state after a completion -/

theorem State.testGripsStart_state : s.testGripsStart.seq.state = s.seq.state ∨ s.testGripsStart.seq.state = .preload := by
  unfold State.testGripsStart
  split
  · rcases s.startTest_cases with same | ⟨started, -⟩
    · exact .inl (by rw [same])
    · exact .inr started
  · exact .inl rfl

theorem State.sequencerRequests_state :
    s.sequencerRequests.seq.state = s.seq.state ∨ s.sequencerRequests.seq.state = .preload := by
  have same {t : State} (h : t.seq = s.seq) : t.seq.state = s.seq.state ∨ t.seq.state = .preload := .inl (by rw [h])
  unfold State.sequencerRequests
  split
  · exact same rfl
  split
  · exact same rfl
  split
  · unfold State.grantSequencer
    refine (State.testGripsStart_state).imp_left fun h => h.trans ?_
    split <;> simp
  · exact same rfl

/-- Auto-arm leaves IDLE for ARMED at most, or for PRELOAD when the grant starts the test. -/
theorem State.examineHead_state :
    s.examineHead.seq.state = s.seq.state ∨ s.examineHead.seq.state = .armed ∨ s.examineHead.seq.state = .preload := by
  unfold State.examineHead
  split
  · cases program : s.headProgram with
    | none => exact .inl (by rw [State.armHead, program])
    | some b =>
      rw [State.armHead_of_program program]
      exact .inr (by simpa [State.headArmed] using State.sequencerRequests_state (s := s.headArmed b))
  · exact .inl rfl

/-- A completion leads to no state in which the sequencer's own attach goes on. -/
theorem State.completeTest_state (h : s.seq.state = .ending) :
    s.completeTest.seq.state ≠ .attach ∧ s.completeTest.seq.state ≠ .run ∧ s.completeTest.seq.state ≠ .hold := by
  unfold State.completeTest
  split
  · rcases State.examineHead_state with same | armed | preload
    · rw [same]
      simp [State.noticeTestEnd]
    · rw [armed]
      simp
    · rw [preload]
      simp
  · simp [h]

/-- The owner of a pending attach is the same after READY has reached the sequencer. -/
theorem State.linkChanged_attachOwner (streaming : s.link.state ≠ .streaming) (lost : s.link.state ≠ .lost) :
    s.linkChanged.attachOwner = s.attachOwner := by
  by_cases ending : s.seq.state = .ending
  · rw [State.linkChanged_of_ending ending]
    unfold State.testEnding
    split
    · obtain ⟨attach, run, hold⟩ := State.completeTest_state ending
      simp [State.attachOwner, State.sequencerAttaching, attach, run, hold, ending]
    · rfl
  · rw [State.linkChanged_of_not_ending ending streaming lost]

theorem State.attachOwner_of_pending (h : s.link.attachPending = true) :
    s.attachOwner = if s.seq.state = .attach
      ∨ ((s.seq.state = .run ∨ s.seq.state = .hold) ∧ s.seq.extAttachFailed = true) then .sequencer else .link := by
  rw [State.attachOwner]
  congr 1
  simp [State.sequencerAttaching, h]

end

/-! ## The arrival in READY (R130) -/

section
variable {s : State}

theorem ExtLink.readied_attachPending (l : ExtLink) : l.readied.attachPending = l.attachPending := by
  rw [ExtLink.readied, ExtLink.hand_eq]

theorem State.arriveReady_of_no_attach (h : s.link.attachPending = false) :
    s.arriveReady = { s with link := s.link.readied }.addNotice .console .extState := by
  rw [State.arriveReady, State.enterReady_eq]
  exact if_neg (by simp [ExtLink.readied_attachPending, h])

/-- An attach goes on from a READY with the holding slot free: CLOSE_ARMS is handed and the link enters CLOSING. -/
theorem State.continueAttach_of_free (owner : CommandOwner) (hh : s.link.holding = none) (hw : s.link.waiting = []) :
    s.continueAttach owner = { s with link := { s.link.hand .closeArms owner with
      streamRequested := false, sleepTimer := none, state := .closing } }.addNotice .console .extState := by
  rw [State.continueAttach]
  dsimp only
  rw [if_neg]
  · rfl
  · by_cases empty : s.link.shifter = .empty
    · simp [ExtLink.hand_of_empty empty, hw]
    · simp [ExtLink.hand_of_free empty hh, hw]

/-- READY with STREAM_OFF on the line: the attach goes on once READY has reached the sequencer. -/
theorem State.arriveReady_of_attach (pending : s.link.attachPending = true) (empty : s.link.shifter = .empty)
    (hh : s.link.holding = none) (hw : s.link.waiting = []) {arrived : State}
    (ha : arrived = { s with link := s.link.readied }.addNotice .console .extState) :
    s.arriveReady = { arrived.linkChanged with link := { s.link.readied with
      state := .closing, holding := some ⟨.closeArms, arrived.attachOwner⟩, streamRequested := false
      sleepTimer := none } }.addNotice .console .extState := by
  have link : arrived.link = s.link.readied := by rw [ha]; rfl
  have handed : s.link.readied.shifter = .command ⟨.streamOff, .link⟩ false none ∧ s.link.readied.holding = none
      ∧ s.link.readied.waiting = [] ∧ s.link.readied.state = .ready := by
    rw [ExtLink.readied, ExtLink.hand_of_empty empty]
    exact ⟨rfl, hh, hw, rfl⟩
  obtain ⟨shifter, holding, waiting, ready⟩ := handed
  have after : arrived.linkChanged.link = s.link.readied := by simp [link]
  rw [State.arriveReady, State.enterReady_eq, ← ha, link, ExtLink.readied_attachPending, if_pos pending,
    State.continueAttach_of_free _ (by rw [after, holding]) (by rw [after, waiting]),
    State.linkChanged_attachOwner (by simp [link, ready]) (by simp [link, ready]), after,
    ExtLink.hand_of_free (by simp [shifter]) holding]

end

end Sys2Proof.Machine
end

section
/-! PROOFS. STATUS frames (R128 to R131, R134, R136, R137, R139): the report, the answer, the further effect by the state
of the link, and the sequencer's part; with them the end of ENDING at READY (R48). -/

namespace Sys2Proof.Machine

/-- The link with the head report renewed (R128). -/
def ExtLink.reported (l : ExtLink) (arms : ArmsState) (fault : Octet) : ExtLink :=
  { l with headReport := some ⟨arms, fault⟩ }

/-- The answer timer of the command on the line runs (R128). -/
def ExtLink.AwaitsAnswer (l : ExtLink) : Prop :=
  ∃ c second n, l.shifter = .command c second (some n)

/-- The link after a frame answered the command on the line, if one was awaited (R128). -/
def ExtLink.answered (l : ExtLink) : ExtLink :=
  match l.shifter with
  | .command _ _ (some _) => l.movedUp
  | _ => l

section
variable {l : ExtLink}

theorem ExtLink.answered_of_awaiting (h : l.AwaitsAnswer) : l.answered = l.movedUp := by
  obtain ⟨c, second, n, h⟩ := h
  rw [ExtLink.answered, h]

theorem ExtLink.answered_of_not_awaiting (h : ∀ c second n, l.shifter ≠ .command c second (some n)) :
    l.answered = l := by
  unfold ExtLink.answered
  split
  next c second n hs => exact absurd hs (h c second n)
  next => rfl

/-- The answer touches the transmit path alone. -/
theorem ExtLink.answered_eq (l : ExtLink) : l.answered =
    { l with shifter := l.answered.shifter, holding := l.answered.holding, waiting := l.answered.waiting } := by
  unfold ExtLink.answered
  split
  · unfold ExtLink.movedUp
    split <;> rfl
  · rfl

theorem ExtLink.sleepAnswered_of_sleep {c : QueuedCommand} {second : Bool} {n : Nat}
    (h : l.shifter = .command c second (some n)) (sleep : c.command = .sleep) : l.sleepAnswered = true := by
  simp [ExtLink.sleepAnswered, h, sleep]

theorem ExtLink.sleepAnswered_of_other {c : QueuedCommand} {second : Bool} {n : Nat}
    (h : l.shifter = .command c second (some n)) (other : c.command ≠ .sleep) : l.sleepAnswered = false := by
  simp [ExtLink.sleepAnswered, h, other]

theorem ExtLink.sleepAnswered_of_not_on_line (h : l.onLine .sleep = false
    ∨ ∀ c second n, l.shifter ≠ .command c second (some n)) : l.sleepAnswered = false := by
  cases hs : l.shifter with
  | empty => simp [ExtLink.sleepAnswered, hs]
  | sendingBreak => simp [ExtLink.sleepAnswered, hs]
  | command c second timer =>
    cases timer with
    | none => simp [ExtLink.sleepAnswered, hs]
    | some n =>
      have away := h.resolve_right fun h => h c second n hs
      simpa [ExtLink.onLine, hs, ExtLink.sleepAnswered] using away

end

section
variable {s : State} {arms : ArmsState} {fault : Octet}

theorem State.answerCommand_eq (h : s.link.noCloseWaits) :
    s.answerCommand = { s with link := s.link.answered } := by
  by_cases awaiting : s.link.AwaitsAnswer
  · rw [ExtLink.answered_of_awaiting awaiting, ← State.shifterEmpties_eq h]
    obtain ⟨c, second, n, hs⟩ := awaiting
    rw [State.answerCommand, hs]
  · have idle : ∀ c second n, s.link.shifter ≠ .command c second (some n) :=
      fun c second n hs => awaiting ⟨c, second, n, hs⟩
    rw [ExtLink.answered_of_not_awaiting idle]
    unfold State.answerCommand
    split
    next c second n hs => exact absurd hs (idle c second n)
    next => rfl

/-- A STATUS frame as its further effect on the link answered. -/
theorem State.takeStatus_eq (h : s.link.noCloseWaits) :
    s.takeStatus arms fault = State.statusActs { s with link := (s.link.reported arms fault).answered }
      s.link.state s.link.sleepAnswered arms fault := by
  have answer := State.answerCommand_eq (s := { s with link := s.link.reported arms fault }) h
  exact congrArg (fun t => State.statusActs t s.link.state s.link.sleepAnswered arms fault) answer

theorem exec_statusFrame (running : s.power = .running) (lock : s.link.lock.isSome = true)
    (discarding : s.link.discarding = false) :
    exec (.statusFrame arms fault) s = .next (s.takeStatus arms fault).linkChanged := by
  rw [exec, execStatusFrame, State.whenRunning, if_pos running, if_pos (by simp [ExtLink.hears, lock, discarding])]

/-- A link as the frame's statement describes it is the link reported and answered. -/
theorem eq_reported_answered {l k : ExtLink}
    (idle : (∀ c second n, k.shifter ≠ .command c second (some n)) →
      l = { k with headReport := some ⟨arms, fault⟩ })
    (awaiting : (∃ c second n, k.shifter = .command c second (some n)) →
      (k.holding = none → l = { k with headReport := some ⟨arms, fault⟩, shifter := .empty })
      ∧ ∀ next, k.holding = some next → l = { k with
          headReport := some ⟨arms, fault⟩, shifter := .command next false none
          holding := k.waiting.head?, waiting := k.waiting.tail }) :
    l = (k.reported arms fault).answered := by
  by_cases h : k.AwaitsAnswer
  · obtain ⟨free, held⟩ := awaiting h
    rw [ExtLink.answered_of_awaiting (l := k.reported arms fault) h]
    cases hh : k.holding with
    | none => exact (free hh).trans (ExtLink.movedUp_of_none (l := k.reported arms fault) hh).symm
    | some next => exact (held next hh).trans (ExtLink.movedUp_of_some (l := k.reported arms fault) hh).symm
  · have none : ∀ c second n, k.shifter ≠ .command c second (some n) := fun c second n hs => h ⟨c, second, n, hs⟩
    rw [ExtLink.answered_of_not_awaiting (l := k.reported arms fault) none]
    exact idle none

/-! ## The further effects -/

theorem ExtLink.noCloseWaits_of_state {l : ExtLink} (h : l.state ≠ .ready) : l.noCloseWaits :=
  fun ready => absurd ready h

theorem ExtLink.noCloseWaits_of_ready {l : ExtLink} (h : l.attachPending = false ∨ l.waiting = []) :
    l.noCloseWaits := by
  rintro - pending - c hc
  rcases h with h | h
  · simp [pending] at h
  · simp [h] at hc

/-- The states and frames that change nothing beside the report and the answer. -/
theorem State.statusActs_of_none {found : LinkState} {slept : Bool}
    (h : (found = .ready ∧ slept = false)
      ∨ (found = .closing ∧ fault = 0 ∧ (arms ≠ .closed ∨ s.link.streamRequested = true))
      ∨ (found = .streaming ∧ fault = 0 ∧ arms = .closed)
      ∨ (found = .opening ∧ fault = 0 ∧ arms ≠ .opened)
      ∨ ((found = .waking ∨ found = .lost) ∧ (arms ≠ .opened ∨ s.link.armsUnknown = false))) :
    s.statusActs found slept arms fault = s := by
  rcases h with ⟨rfl, rfl⟩ | ⟨rfl, rfl, h⟩ | ⟨rfl, rfl, rfl⟩ | ⟨rfl, rfl, h⟩ | ⟨h | h, known⟩
  · rfl
  · rcases h with h | h <;> simp [State.statusActs, h]
  · simp [State.statusActs]
  · simp [State.statusActs, h]
  · subst h
    rcases known with h | h <;> simp [State.statusActs, h]
  · subst h
    rcases known with h | h <;> simp [State.statusActs, h]

/-- The states and frames that lose the link. -/
theorem State.statusActs_of_loss {found : LinkState} (slept : Bool)
    (h : (found = .closing ∧ fault ≠ 0) ∨ (found = .streaming ∧ (fault ≠ 0 ∨ arms ≠ .closed))
      ∨ (found = .opening ∧ fault ≠ 0 ∧ arms ≠ .opened)) :
    s.statusActs found slept arms fault = s.enterLost := by
  rcases h with ⟨rfl, h⟩ | ⟨rfl, h⟩ | ⟨rfl, h, h'⟩
  · exact if_pos h
  · exact if_pos h
  · rw [State.statusActs, if_neg h', if_pos h]

/-- The link that the head has confirmed open, as it stands before READY (R129, R136, R139; log entry 15). -/
def ExtLink.confirmedOpen (l : ExtLink) : ExtLink :=
  if l.state = .opening then { l with operationTimer := if l.attachPending then some 0 else none }
  else { l with armsUnknown := false }

theorem State.statusActs_of_opened {found : LinkState} (slept : Bool) (hf : s.link.state = found)
    (h : found = .opening ∨ ((found = .waking ∨ found = .lost) ∧ s.link.armsUnknown = true)) :
    s.statusActs found slept .opened fault = State.arriveReady { s with link := s.link.confirmedOpen } := by
  rcases h with rfl | ⟨rfl | rfl, unknown⟩
  · rw [ExtLink.confirmedOpen, if_pos hf, State.statusActs, if_pos rfl, State.armsOpened]
  · rw [ExtLink.confirmedOpen, if_neg (by simp [hf]), State.statusActs, if_pos ⟨unknown, rfl⟩,
      State.armsConfirmedOpen]
  · rw [ExtLink.confirmedOpen, if_neg (by simp [hf]), State.statusActs, if_pos ⟨unknown, rfl⟩,
      State.armsConfirmedOpen]

/-- READY after the arms were confirmed open, in the words of its writes. -/
theorem ExtLink.confirmedOpen_readied (l : ExtLink) : l.confirmedOpen.readied = { l.hand .streamOff .link with
    state := .ready, armsUnknown := if l.state = .opening then l.armsUnknown else false
    wake := none, syncWindow := none, recoveryTimer := none, staleness := 0, sleepTimer := some 0
    operationTimer :=
      if l.attachPending then (if l.state = .opening then some 0 else l.operationTimer) else none } := by
  unfold ExtLink.confirmedOpen
  split
  next h => cases pending : l.attachPending <;> simp [ExtLink.readied, ExtLink.hand_eq, pending]
  next h => simp [ExtLink.readied, ExtLink.hand_eq]

theorem ExtLink.confirmedOpen_attachPending (l : ExtLink) : l.confirmedOpen.attachPending = l.attachPending := by
  unfold ExtLink.confirmedOpen
  split <;> rfl

/-- The transmit path of a link confirmed open is the one it had. -/
theorem ExtLink.confirmedOpen_path (l : ExtLink) : l.confirmedOpen.shifter = l.shifter
    ∧ l.confirmedOpen.holding = l.holding ∧ l.confirmedOpen.waiting = l.waiting := by
  unfold ExtLink.confirmedOpen
  split <;> exact ⟨rfl, rfl, rfl⟩

theorem State.arriveAsleep_of_no_attach (h : s.link.attachPending = false) :
    s.arriveAsleep = { s with link := s.link.slept }.addNotice .console .extState := by
  rw [State.arriveAsleep, State.enterAsleep_eq]
  exact if_neg (by simp [ExtLink.slept, h])

theorem State.arriveAsleep_of_attach (h : s.link.attachPending = true) {arrived : State}
    (ha : arrived = { s with link := s.link.slept }.addNotice .console .extState) :
    s.arriveAsleep = { arrived.linkChanged with link := s.link.slept.woken }.addNotice .console .extState := by
  have link : arrived.link = s.link.slept := by rw [ha]; rfl
  rw [State.arriveAsleep, State.enterAsleep_eq, ← ha, link, if_pos (by simpa [ExtLink.slept] using h),
    State.beginWake_eq]
  simp only [State.linkChanged_frame, link]

theorem State.statusActs_of_slept : s.statusActs .ready true arms fault = s.arriveAsleep := rfl

/-- A frame in READY whose answer takes up the CLOSE_ARMS of an attach from the wait position (R130). -/
theorem State.takeStatus_of_close_waits {c next : QueuedCommand} {second : Bool} {n : Nat}
    (ready : s.link.state = .ready) (pending : s.link.attachPending = true)
    (hs : s.link.shifter = .command c second (some n)) (other : c.command ≠ .sleep)
    (held : s.link.holding.isSome = true) (hn : s.link.waiting.head? = some next)
    (close : next.command = .closeArms) :
    s.takeStatus arms fault = { s with link := { (s.link.reported arms fault).movedUp with
      state := .closing, streamRequested := false, sleepTimer := none } }.addNotice .console .extState := by
  have empties := State.shifterEmpties_of_close_waits (s := { s with link := s.link.reported arms fault }) ready
    pending held hn close
  have answer : State.answerCommand { s with link := s.link.reported arms fault }
      = State.shifterEmpties { s with link := s.link.reported arms fault } := by
    rw [State.answerCommand]
    dsimp only [ExtLink.reported]
    rw [hs]
  have taken : s.takeStatus arms fault = (State.answerCommand { s with link := s.link.reported arms fault }).statusActs
      s.link.state s.link.sleepAnswered arms fault := rfl
  rw [taken, answer, empties, ExtLink.sleepAnswered_of_other hs other, ready]
  rfl

/-- A frame that confirms the arms open, from its effect to the sequencer's part: READY without an attach, and CLOSING
on its way with one. -/
theorem State.statusActs_of_opened_arrives (slept : Bool)
    (h : s.link.state = .opening
      ∨ ((s.link.state = .waking ∨ s.link.state = .lost) ∧ s.link.armsUnknown = true))
    {ready : ExtLink} {arrived : State} (hr : ready = s.link.confirmedOpen.readied)
    (ha : arrived = { s with link := ready }.addNotice .console .extState) :
    (s.link.attachPending = false →
      (s.statusActs s.link.state slept .opened fault).linkChanged = arrived.linkChanged)
    ∧ (s.link.attachPending = true → s.link.shifter = .empty → s.link.holding = none → s.link.waiting = [] →
      (s.statusActs s.link.state slept .opened fault).linkChanged =
        { arrived.linkChanged with link := { ready with
          state := .closing, holding := some ⟨.closeArms, arrived.attachOwner⟩, streamRequested := false
          sleepTimer := none } }.addNotice .console .extState) := by
  obtain ⟨shifter, holding, waiting⟩ := s.link.confirmedOpen_path
  have pendings := s.link.confirmedOpen_attachPending
  subst hr
  rw [State.statusActs_of_opened slept rfl h]
  refine ⟨fun pending => ?_, fun pending empty free none => ?_⟩
  · rw [State.arriveReady_of_no_attach (pendings.trans pending), ha]
  · rw [State.arriveReady_of_attach (s := { s with link := s.link.confirmedOpen }) (pendings.trans pending)
      (shifter.trans empty) (holding.trans free) (waiting.trans none) ha]
    exact State.linkChanged_of_link_under_way _ (Or.inl rfl)

end

/-- Settles O39: the report and the answer make `l`; from there the frame acts by the state it found. -/
theorem statusFrameByLinkState : Obligations.StatusFrameByLinkState := by
  intro s l arms fault running lock discarding idle awaiting
  have hl := eq_reported_answered idle awaiting
  have path := ExtLink.answered_eq (s.link.reported arms fault)
  rw [← hl] at path
  have state : l.state = s.link.state := by rw [path]; rfl
  have unknown : l.armsUnknown = s.link.armsUnknown := by rw [path]; rfl
  have pendings : l.attachPending = s.link.attachPending := by rw [path]; rfl
  have timer : l.operationTimer = s.link.operationTimer := by rw [path]; rfl
  have streams : l.streamRequested = s.link.streamRequested := by rw [path]; rfl
  have reports : l.headReport = some ⟨arms, fault⟩ := by rw [path]; rfl
  have taken (h : s.link.noCloseWaits) : exec (.statusFrame arms fault) s
      = .next ((State.statusActs { s with link := l } s.link.state s.link.sleepAnswered arms fault).linkChanged) := by
    rw [exec_statusFrame running lock discarding, State.takeStatus_eq h, hl]
  have elsewhere (h : s.link.state ≠ .ready) := taken (ExtLink.noCloseWaits_of_state h)
  have slept (h : s.link.onLine .sleep = false ∨ ∀ c second n, s.link.shifter ≠ .command c second (some n)) :=
    ExtLink.sleepAnswered_of_not_on_line h
  refine ⟨fun h => ?_, fun closing none closed requested => ?_, fun h => ?_, fun h opened ready arrived hr ha => ?_,
    fun ready pending c second n next hs other held hn close => ?_, fun ready c second n hs sleep arrived ha =>
      ⟨fun pending => ?_, fun pending waiting => ?_⟩⟩
  · have quiet : s.link.noCloseWaits := by
      by_cases ready : s.link.state = .ready
      · simp only [ready, true_and, reduceCtorEq, false_and, or_false] at h
        exact ExtLink.noCloseWaits_of_ready h.2
      · exact ExtLink.noCloseWaits_of_state ready
    rw [taken quiet, State.statusActs_of_none (s := { s with link := l })]
    dsimp only
    rw [streams, unknown]
    exact h.imp_left fun ⟨ready, away, _⟩ => ⟨ready, slept away⟩
  · rw [elsewhere (by simp [closing]), closing, none, closed]
    have acts : State.statusActs { s with link := l } .closing s.link.sleepAnswered .closed 0
        = State.handStreamOn { s with link := l } := by
      simp [State.statusActs, streams, requested]
    rw [acts]
    rfl
  · have outside : s.link.state ≠ .ready := by
      rcases h with ⟨h, -⟩ | ⟨h, -⟩ | ⟨h, -⟩ <;> simp [h]
    have arms_unknown : l.unknownOnLoss = true := by
      rw [ExtLink.unknownOnLoss, state]
      rcases h with ⟨h, -⟩ | ⟨h, -⟩ | ⟨h, -⟩ <;> simp [h]
    refine ⟨_, by rw [elsewhere outside, State.statusActs_of_loss _ h, State.enterLost_eq], rfl, rfl, arms_unknown,
      if_pos arms_unknown, reports⟩
  · have outside : s.link.state ≠ .ready := by
      rcases h with h | ⟨h | h, -⟩ <;> simp [h]
    have opens := State.statusActs_of_opened_arrives (s := { s with link := l }) (fault := fault)
      s.link.sleepAnswered (ready := ready) (arrived := arrived) (by simpa [state, unknown] using h)
      (by rw [hr, ExtLink.confirmedOpen_readied, state, unknown, pendings, timer]) ha
    dsimp only at opens
    rw [state, pendings] at opens
    obtain ⟨settles, goesOn⟩ := opens
    rw [elsewhere outside, opened]
    refine ⟨fun pending => by rw [settles pending], fun pending empty free none owner ho => ?_⟩
    have ready_pending : ready.attachPending = true := by
      rw [hr, ExtLink.hand_eq]
      exact pendings.trans pending
    rw [goesOn pending empty free none, ho, State.attachOwner_of_pending (by rw [ha]; exact ready_pending), ha]
    rfl
  · have answer : s.link.AwaitsAnswer := ⟨c, second, n, hs⟩
    have moved : l = (s.link.reported arms fault).movedUp := by
      rw [hl, ExtLink.answered_of_awaiting (l := s.link.reported arms fault) answer]
    rw [exec_statusFrame running lock discarding,
      State.takeStatus_of_close_waits ready pending hs other held hn close, ← moved]
  · have quiet : s.link.noCloseWaits := ExtLink.noCloseWaits_of_ready (Or.inl pending)
    have arrives := State.arriveAsleep_of_no_attach (s := { s with link := l }) (pendings.trans pending)
    have asleep : l.slept = { l with
        state := .asleep, lock := none, sleepTimer := none, syncWindow := none
        operationTimer := if s.link.attachPending then s.link.operationTimer else none } := by
      rw [ExtLink.slept, pendings, timer]
    rw [taken quiet, ExtLink.sleepAnswered_of_sleep hs sleep, ready, State.statusActs_of_slept, arrives, ha, asleep]
  · have quiet : s.link.noCloseWaits := ExtLink.noCloseWaits_of_ready (Or.inr waiting)
    have asleep : l.slept = { l with
        state := .asleep, lock := none, sleepTimer := none, syncWindow := none
        operationTimer := if s.link.attachPending then s.link.operationTimer else none } := by
      rw [ExtLink.slept, pendings, timer]
    have arrives := State.arriveAsleep_of_attach (s := { s with link := l }) (pendings.trans pending)
      (arrived := arrived) (by rw [ha, asleep])
    have woken : l.slept.woken = { s.link with
        headReport := some ⟨arms, fault⟩
        state := .waking, lock := none, shifter := .sendingBreak, holding := none, waiting := []
        wake := some ⟨1, 0⟩, syncWindow := none, recoveryTimer := none, sleepTimer := none } := by
      rw [asleep, path, if_pos pending]
      rfl
    rw [taken quiet, ExtLink.sleepAnswered_of_sleep hs sleep, ready, State.statusActs_of_slept, arrives, woken]
    exact congrArg _ (State.linkChanged_of_link_under_way _ (Or.inr rfl))

/-! ## The end of ENDING (R48) -/

/-- Settles O27: the wait by its two conditions, the expiry as a note and the completion, and READY out of OPENING as an
arrival with an attach pending. -/
theorem endingWaitsThenCompletes : Obligations.EndingWaitsThenCompletes := by
  intro s running
  have tested : exec .testCompletion s = .next s.testEnding := by
    rw [exec, execTestCompletion, State.whenRunning, if_pos running]
  refine ⟨fun ending rest link => ?_, fun h => ?_, fun ending => ?_, fun h => ?_,
    fun ending opening pending lock discarding empty free none fault ready t hr ht => ?_⟩
  · have settled := State.testEnding_of_settled ending rest link
    exact ⟨by rw [tested, settled], settled, by rw [State.linkChanged_of_ending ending, settled]⟩
  · have waits := State.testEnding_of_not_settled h
    exact ⟨by rw [tested, waits], waits, fun ending => by rw [State.linkChanged_of_ending ending, waits]⟩
  · have noted : s.addNote .endingTimeout = { s with seq := { s.seq with note := s.seq.note.or (some .endingTimeout) } } := by
      unfold State.addNote
      cases h : s.seq.note with
      | none => rfl
      | some c => rw [if_neg (by simp), Option.some_or, ← h]
    rw [exec, execEndingTimerExpiry, State.whenRunning, if_pos running, if_pos ending, noted]
  · rw [exec, execEndingTimerExpiry, State.whenRunning, if_pos running, if_neg h]
  · have quiet : s.link.noCloseWaits := ExtLink.noCloseWaits_of_state (by simp [opening])
    have idle : ∀ c second n, (s.link.reported .opened fault).shifter ≠ .command c second (some n) := by
      intro c second n h
      exact absurd (empty.symm.trans h) (by simp)
    have link : ready.link = (s.link.reported .opened fault).confirmedOpen.readied := by
      rw [hr, ExtLink.confirmedOpen_readied, ExtLink.hand_of_empty (l := s.link.reported .opened fault) empty,
        if_pos (show (s.link.reported .opened fault).state = .opening from opening),
        if_pos (show (s.link.reported .opened fault).attachPending = true from pending),
        if_pos (show (s.link.reported .opened fault).state = .opening from opening)]
      rfl
    have arrived : ready
        = { s with link := (s.link.reported .opened fault).confirmedOpen.readied }.addNotice .console .extState := by
      rw [← link, hr]
      rfl
    have opens := (State.statusActs_of_opened_arrives (s := { s with link := s.link.reported .opened fault })
      (fault := fault) s.link.sleepAnswered (Or.inl opening) rfl arrived).2 pending empty free none
    have waited : ready.linkChanged = t := by
      have state : ready.seq.state = .ending := by rw [hr]; exact ending
      have still : ready.link.state = .ready := by rw [hr]; rfl
      have rested : ready.meter.rest = s.meter.rest := by rw [hr]; rfl
      rw [State.linkChanged_of_ending state, ht, ← rested]
      cases rest : ready.meter.rest with
      | true => exact State.testEnding_of_settled state rest (Or.inl still)
      | false => exact State.testEnding_of_not_settled (Or.inr (Or.inl rest))
    have owner : ready.attachOwner = .link := by
      have pends : ready.link.attachPending = true := by rw [hr]; exact pending
      have state : ready.seq.state = .ending := by rw [hr]; exact ending
      rw [State.attachOwner_of_pending pends, if_neg (by simp [state])]
    rw [exec_statusFrame running lock discarding, State.takeStatus_eq quiet, ExtLink.answered_of_not_awaiting idle]
    refine congrArg _ (opens.trans ?_)
    rw [waited, owner, ← link]

end Sys2Proof.Machine
end

section
/-! PROOFS. Reading frames (R132), the line's own events (R125, R126, R128), the attempts of a wake and of a recovery (R129,
R139), and the losses of the link (R138). -/

namespace Sys2Proof.Machine

/-! ## Reading frames (R132) -/

section
variable {s : State} {r : Reading}

theorem State.takeReading_of_not_taken (h : s.link.state ≠ .streaming)
    (h' : s.link.state = .closing → s.link.streamRequested = false) : s.takeReading r = s := by
  refine if_pos fun takes => ?_
  simp only [ExtLink.takesReadings, Bool.or_eq_true, beq_iff_eq, Bool.and_eq_true] at takes
  obtain streaming | ⟨closing, requested⟩ := takes
  · exact h streaming
  · simp [h' closing] at requested

section
variable (taken : s.link.state = .streaming ∨ (s.link.state = .closing ∧ s.link.streamRequested = true))
include taken

theorem ExtLink.takesReadings_of_state : s.link.takesReadings = true := by
  simpa [ExtLink.takesReadings] using taken

theorem State.takeReading_of_fault (h : r.fault = true) : s.takeReading r = s.enterLost := by
  rw [State.takeReading, if_neg (by simp [ExtLink.takesReadings_of_state taken]), if_pos h]

variable (sound : r.fault = false)
include sound

theorem State.takeReading_of_repeat (h : s.link.lastSequence = some r.sequence) : s.takeReading r = s := by
  rw [State.takeReading, if_neg (by simp [ExtLink.takesReadings_of_state taken]), if_neg (by simp [sound]), if_pos h]

theorem State.takeReading_of_new (h : s.link.lastSequence ≠ some r.sequence) :
    s.takeReading r =
      if s.link.state = .closing then (s.acceptReading r).enterStreaming else s.acceptReading r := by
  rw [State.takeReading, if_neg (by simp [ExtLink.takesReadings_of_state taken]), if_neg (by simp [sound]), if_neg h]

end

theorem exec_readingFrame {sequence : Octet} {elongation : Word24} {status : Octet} (running : s.power = .running)
    (lock : s.link.lock.isSome = true) (discarding : s.link.discarding = false) :
    exec (.readingFrame sequence elongation status) s
      = .next (s.takeReading (Reading.ofFrame sequence elongation status)).linkChanged := by
  rw [exec, execReadingFrame, State.whenRunning, if_pos running, if_pos (by simp [ExtLink.hears, lock, discarding])]

end

/-- Settles O40: by whether readings are taken, the fault, the repeat, and the state of the link. -/
theorem readingFrameByLinkState : Obligations.ReadingFrameByLinkState := by
  intro s sequence elongation status running lock discarding
  have taken := exec_readingFrame (sequence := sequence) (elongation := elongation) (status := status) running lock
    discarding
  refine ⟨fun h h' => by rw [taken, State.takeReading_of_not_taken h h'], fun h => ⟨fun fault => ?_, fun sound =>
    ⟨fun again => by rw [taken, State.takeReading_of_repeat h sound again], fun other r renewed hr hs => ?_⟩⟩⟩
  · have unknown : s.link.unknownOnLoss = true := by
      rw [ExtLink.unknownOnLoss]
      rcases h with h | ⟨h, -⟩ <;> simp [h]
    refine ⟨s.enterLost, by rw [taken, State.takeReading_of_fault h fault], ?_, ?_, ?_, ?_⟩
    all_goals rw [State.enterLost_eq]
    exacts [rfl, rfl, unknown, rfl]
  · have reading : Reading.ofFrame sequence elongation status = r := by
      rw [hr, Reading.ofFrame, sound]
    have renews : s.strain.renew r = renewed := by
      rw [hs, hr, StrainUnit.renew]
      simp
    rw [taken, State.takeReading_of_new h sound other, reading, State.acceptReading, renews]
    refine ⟨fun streaming => ?_, fun closing => ?_⟩
    · rw [if_neg (by simp [streaming]), hr]
    · rw [if_pos closing, hr]
      rfl

/-! ## The line's own events -/

/-- Settles O41, each event by the shifter or the reason it finds. -/
theorem lineEventsOfTheLink : Obligations.LineEventsOfTheLink := by
  intro s running
  refine ⟨fun c second timer hs => ?_, fun c n hs => ?_, fun hs hh => ?_, fun reason lock discarding =>
    ⟨fun h => ?_, fun h => ?_⟩, ?_⟩
  · rw [exec, execCommandSent, State.whenRunning, if_pos running, hs]
  · rw [exec, execAnswerTimeout, State.whenRunning, if_pos running, hs]
  · have quiet : s.link.noCloseWaits := fun _ _ held => by simp [hh] at held
    rw [exec, execBreakEnd, State.whenRunning, if_pos running, if_pos hs, State.shifterEmpties_eq quiet,
      ExtLink.movedUp_of_none hh]
  · have holds : DiscardReason.holdsOn reason = true := by rcases h with rfl | rfl <;> rfl
    rw [exec, execFrameDiscarded, State.whenRunning, if_pos running,
      if_pos ⟨by simp [ExtLink.hears, lock, discarding], holds⟩]
  · have ends : DiscardReason.holdsOn reason = false := by rcases h with rfl | rfl | rfl <;> rfl
    rw [exec, execFrameDiscarded, State.whenRunning, if_pos running, if_neg (by simp [ends])]
  · rw [exec, execLineRestedHigh, State.whenRunning, if_pos running]

/-! ## The attempts of a wake and of a recovery -/

section
variable {s : State}

/-- The link once the lock is held at `count` (R126). -/
def ExtLink.locked (l : ExtLink) (count : Nat) : ExtLink :=
  { l with lock := some count, syncWindow := none, discarding := false }

theorem State.lockTaken_of_known {count : Nat} (waking : s.link.state = .waking) (known : s.link.armsUnknown = false) :
    s.lockTaken count = State.arriveReady { s with link := s.link.locked count } := by
  rw [State.lockTaken]
  dsimp only
  rw [waking, known]
  simp [ExtLink.locked, waking, known]

/-- With the arms unknown, and in a recovery, the lock hands OPEN_ARMS (R129, R139). -/
theorem State.lockTaken_of_unknown {count : Nat}
    (h : (s.link.state = .waking ∧ s.link.armsUnknown = true) ∨ s.link.state = .lost) :
    s.lockTaken count = { s with link := (s.link.locked count).hand .openArms .link } := by
  rw [State.lockTaken]
  dsimp only
  rcases h with ⟨waking, unknown⟩ | lost
  · rw [waking, unknown]
    simp [ExtLink.locked, waking, unknown]
  · rw [lost]
    simp [ExtLink.locked, lost]

/-- An attempt that fails without ending the wake leaves the lock unlocked and the window closed (R129, R139). -/
theorem State.attemptFails_of_more (lock : s.link.lock = none)
    (h : s.link.state ≠ .waking ∨ ∀ w ∈ s.link.wake, w.number < 3) :
    s.attemptFails = { s with link := { s.link with syncWindow := none } } := by
  rw [State.attemptFails]
  dsimp only
  split
  next w waking hw =>
    have more := h.resolve_left (not_not.mpr waking) w hw
    rw [if_neg (by omega)]
    rw [← lock]
  next => rw [← lock]

/-- The third failure of a wake enters LOST (R129). -/
theorem State.attemptFails_of_third {w : WakeAttempt} (waking : s.link.state = .waking)
    (hw : s.link.wake = some w) (third : 3 ≤ w.number) :
    s.attemptFails = State.enterLost { s with link := { s.link with lock := none, syncWindow := none } } := by
  rw [State.attemptFails]
  dsimp only
  rw [waking, hw]
  exact if_pos third

section
variable (running : s.power = .running) (window : s.link.syncWindow.isSome = true) (lock : s.link.lock = none)
include running window lock

theorem exec_syncCharacter_of_lock {count : Nat} (lower : 78 ≤ count) (upper : count ≤ 82) :
    exec (.syncCharacter count 0x55) s = .next (s.lockTaken count).linkChanged := by
  rw [exec, execSyncCharacter, State.whenRunning, if_pos running, if_pos (by simp [ExtLink.awaitsSync, window, lock]),
    if_pos (by simp [syncLocks, lower, upper])]

theorem exec_syncCharacter_of_other {count : Nat} {character : Octet}
    (h : count < 78 ∨ 82 < count ∨ character ≠ 0x55) :
    exec (.syncCharacter count character) s = .next s.attemptFails.linkChanged := by
  have fails : ¬ syncLocks count character = true := by
    simp only [syncLocks, Bool.and_eq_true, decide_eq_true_eq, beq_iff_eq]
    rintro ⟨⟨lower, upper⟩, same⟩
    exact h.elim (by omega) fun h => h.elim (by omega) (· same)
  rw [exec, execSyncCharacter, State.whenRunning, if_pos running, if_pos (by simp [ExtLink.awaitsSync, window, lock]),
    if_neg fails]

theorem exec_syncWindowTimeout : exec .syncWindowTimeout s = .next s.attemptFails.linkChanged := by
  rw [exec, execSyncWindowTimeout, State.whenRunning, if_pos running,
    if_pos (by simp [ExtLink.awaitsSync, window, lock])]

end

/-- READY as a lock with known arms reaches it, the shifter empty. -/
theorem ExtLink.locked_readied {l : ExtLink} {count : Nat} (empty : l.shifter = .empty) :
    (l.locked count).readied = { l with
      state := .ready, lock := some count, discarding := false
      shifter := .command ⟨.streamOff, .link⟩ false none
      wake := none, syncWindow := none, recoveryTimer := none, staleness := 0, sleepTimer := some 0
      operationTimer := if l.attachPending then l.operationTimer else none } := by
  rw [ExtLink.readied, ExtLink.hand_of_empty (l := l.locked count) empty]
  rfl

theorem ExtLink.locked_hand {l : ExtLink} {count : Nat} (empty : l.shifter = .empty) :
    (l.locked count).hand .openArms .link = { l with
      lock := some count, syncWindow := none, discarding := false
      shifter := .command ⟨.openArms, .link⟩ false none } := by
  rw [ExtLink.hand_of_empty (l := l.locked count) empty]
  rfl

end

/-- Settles O42: a lock by what is known of the arms and by a pending attach, a failure by the attempt's number. -/
theorem wakeAttemptsLockOrFail : Obligations.WakeAttemptsLockOrFail := by
  refine ⟨fun s w running waking hw lock empty => ⟨fun window => ⟨?_, ?_, ?_, ?_, ?_⟩, fun window more => ?_⟩,
    fun s running lost window lock empty => ⟨?_, ?_, ?_⟩⟩
  · intro count lower upper known ready arrived hr ha
    have link : ready = (s.link.locked count).readied := hr.trans (ExtLink.locked_readied empty).symm
    rw [exec_syncCharacter_of_lock running window lock lower upper, State.lockTaken_of_known waking known]
    refine ⟨fun pending => ?_, fun pending free none owner ho => ?_⟩
    · rw [State.arriveReady_of_no_attach (s := { s with link := s.link.locked count }) pending, ha, link]
    · have pends : arrived.link.attachPending = true := by rw [ha, hr]; exact pending
      rw [State.arriveReady_of_attach (s := { s with link := s.link.locked count }) (arrived := arrived) pending empty
        free none (by rw [ha, link]), ← link, State.attachOwner_of_pending pends, ho, ha]
      exact congrArg _ (State.linkChanged_of_link_under_way _ (Or.inl rfl))
  · intro count lower upper unknown
    rw [exec_syncCharacter_of_lock running window lock lower upper,
      State.lockTaken_of_unknown (Or.inl ⟨waking, unknown⟩), ExtLink.locked_hand empty]
  · intro count character h
    rw [exec_syncCharacter_of_other running window lock h, exec_syncWindowTimeout running window lock]
  · intro more
    rw [exec_syncWindowTimeout running window lock,
      State.attemptFails_of_more lock (Or.inr fun w' hw' => by rw [hw] at hw'; cases hw'; exact more)]
  · intro third
    refine ⟨_, by rw [exec_syncWindowTimeout running window lock, State.attemptFails_of_third waking hw third,
      State.enterLost_eq], rfl, rfl, ?_, rfl⟩
    simp [ExtLink.fallen, ExtLink.unknownOnLoss, waking]
  · rw [exec, execWakeRetry, State.whenRunning, if_pos running, hw]
    dsimp only
    rw [if_pos ⟨by simp [ExtLink.attemptOver, waking, empty, window, lock], more⟩]
  · intro count lower upper
    rw [exec_syncCharacter_of_lock running window lock lower upper, State.lockTaken_of_unknown (Or.inr lost),
      ExtLink.locked_hand empty]
  · intro count character h
    rw [exec_syncCharacter_of_other running window lock h, State.attemptFails_of_more lock (Or.inl (by simp [lost]))]
  · rw [exec_syncWindowTimeout running window lock, State.attemptFails_of_more lock (Or.inl (by simp [lost]))]

/-! ## The losses of the link -/

section
variable {s : State}

theorem exec_answerTimeout_of_second {c : QueuedCommand} {n : Nat} (running : s.power = .running)
    (hs : s.link.shifter = .command c true (some n)) :
    exec .answerTimeout s = .next (s.commandMissed c).linkChanged := by
  rw [exec, execAnswerTimeout, State.whenRunning, if_pos running, hs]

/-- A miss outside ASLEEP and LOST loses the link, but for SLEEP's under an attach (R128). -/
theorem State.commandMissed_of_loss {c : QueuedCommand} (asleep : s.link.state ≠ .asleep) (lost : s.link.state ≠ .lost)
    (h : s.link.state = .ready → c.command = .sleep → s.link.attachPending = false) :
    s.commandMissed c = s.enterLost := by
  unfold State.commandMissed
  split
  next state => exact absurd state asleep
  next state => exact absurd state lost
  next ready =>
    refine if_neg fun ⟨sleep, pending⟩ => ?_
    simp [h ready sleep] at pending
  next => rfl

theorem State.commandMissed_of_sleep {c : QueuedCommand} (ready : s.link.state = .ready) (sleep : c.command = .sleep)
    (pending : s.link.attachPending = true) : s.commandMissed c = s.sleepMissed := by
  rw [State.commandMissed, ready]
  exact if_pos ⟨sleep, pending⟩

/-- SLEEP's miss under an attach: LOST reaches the sequencer, and the wake begins under the attach's timer (R137). -/
theorem State.sleepMissed_eq {lost : State} (hl : lost = { s with link := s.link.fallen }.addNotice .console .extState) :
    s.sleepMissed = { lost.linkChanged with link := { s.link.fallen.woken with
      attachPending := true, operationTimer := s.link.operationTimer } }.addNotice .console .extState := by
  have link : lost.linkChanged.link = s.link.fallen := by simp [hl]
  rw [State.sleepMissed]
  dsimp only
  rw [State.enterLost_eq, ← hl, State.beginWake_eq, link]
  rfl

end

/-- Settles O43: each loss as the entry to LOST with the sequencer's part, and SLEEP's miss by the state of the
sequencer that LOST reaches. -/
theorem lossesOfTheLink : Obligations.LossesOfTheLink := by
  refine ⟨fun s running => ⟨fun asleep awake lost unknown hu hl => ?_, fun lost c n hs => ?_, fun asleep c n hs hh => ?_,
    fun ready timer empty away => ?_, fun lost unknown timer => ?_⟩, ?_⟩
  · have fallen : s.link.fallen = lost := by rw [hl, hu]; rfl
    refine ⟨fun timer => ?_, fun streaming stale => ?_, fun c n hs sleep => ?_⟩
    · rw [exec, execOperationTimeout, State.whenRunning, if_pos running, if_pos timer, State.enterLost_eq, fallen]
    · rw [exec, execStalenessLost, State.whenRunning, if_pos running,
        if_pos ⟨streaming, by rw [stale]; exact le_rfl⟩, State.enterLost_eq, fallen]
    · rw [exec_answerTimeout_of_second running hs, State.commandMissed_of_loss asleep awake sleep,
        State.enterLost_eq, fallen]
  · rw [exec_answerTimeout_of_second running hs, State.commandMissed, lost]
    simp only [ExtLink.emptyPath, lost]
  · have quiet : s.link.noCloseWaits := ExtLink.noCloseWaits_of_state (by simp [asleep])
    have empties : s.commandMissed c = s.shifterEmpties := by rw [State.commandMissed, asleep]
    rw [exec_answerTimeout_of_second running hs, empties, State.shifterEmpties_eq quiet, ExtLink.movedUp_of_none hh]
  · rw [exec, execSleepTimeout, State.whenRunning, if_pos running,
      if_pos ⟨ready, timer, by simp [ExtLink.onLine, empty], by simp [away]⟩, ExtLink.hand_of_empty empty]
  · rw [exec, execRecoveryTimeout, State.whenRunning, if_pos running, if_pos ⟨lost, unknown, timer⟩]
    rfl
  · intro s c n waking running ready hs sleep pending hw
    have unknown : s.link.unknownOnLoss = s.link.armsUnknown := by simp [ExtLink.unknownOnLoss, ready]
    have woken : { s.link.fallen.woken with attachPending := true, operationTimer := s.link.operationTimer } = waking := by
      simp [hw, ExtLink.woken, ExtLink.fallen, unknown, pending]
    have missed (lost : State) (hl : lost = { s with link := s.link.fallen }.addNotice .console .extState) :
        exec .answerTimeout s = .next ({ lost.linkChanged with link := waking }.addNotice .console .extState) := by
      rw [exec_answerTimeout_of_second running hs, State.commandMissed_of_sleep ready sleep pending,
        State.sleepMissed_eq hl, woken]
      exact congrArg _ (State.linkChanged_of_link_under_way _ (Or.inr (by rw [hw]; rfl)))
    refine ⟨fun ending lost t hl ht => ?_, fun attach ending => ?_, fun attach => ?_⟩
    · have fallen : lost = { s with link := s.link.fallen }.addNotice .console .extState := by
        rw [hl, ExtLink.fallen, unknown]
      have state : lost.seq.state = .ending := by rw [hl]; exact ending
      have away : lost.link.state = .lost := by rw [hl]; rfl
      have rested : lost.meter.rest = s.meter.rest := by rw [hl]; rfl
      have waited : lost.linkChanged = t := by
        rw [State.linkChanged_of_ending state, ht, ← rested]
        cases rest : lost.meter.rest with
        | true => exact State.testEnding_of_settled state rest (Or.inr (Or.inr away))
        | false => exact State.testEnding_of_not_settled (Or.inr (Or.inl rest))
      rw [missed lost fallen, waited]
    · have unmoved := State.linkChanged_of_not_waiting ({ s with link := s.link.fallen }.addNotice .console .extState)
        attach ending
      rw [missed _ rfl, unmoved]
      exact congrArg _ (State.addNotice_addNotice { s with link := waking } .console .extState)
    · have ended := State.linkChanged_of_attach_lost
        (s := { s with link := s.link.fallen }.addNotice .console .extState) attach rfl
      rw [missed _ rfl, ended]
      exact congrArg _ (State.addNotice_addNotice { s with
        link := waking
        strain := { s.strain with source := some .crosshead, delta := 0 }
        seq := { s.seq with state := .run, extAttachFailed := true, releaseSeen := true }
        rate := { s.rate with initPending := true } } .console .extState)

end Sys2Proof.Machine
end

section
/-! PROOFS. EXT_ATTACH and EXT_DETACH (R130, R135, R140). -/

namespace Sys2Proof.Machine

/-! ## The attach request (R130) -/

section
variable {s : State} {owner : CommandOwner}

/-- The link with an attach pending under a timer that begins (R130). -/
def ExtLink.attaching (l : ExtLink) : ExtLink :=
  { l with attachPending := true, operationTimer := some 0 }

theorem State.requestAttach_of_down (h : s.link.state = .asleep ∨ s.link.state = .lost) :
    s.requestAttach owner = { s with link := s.link.attaching.woken }.addNotice .console .extState := by
  rw [State.requestAttach]
  rcases h with h | h
  all_goals rw [h]; rfl

theorem State.requestAttach_of_opening (h : s.link.state = .opening) :
    s.requestAttach owner = { s with link := s.link.attaching } := by
  rw [State.requestAttach, h]
  rfl

theorem State.requestAttach_of_waking (h : s.link.state = .waking) :
    s.requestAttach owner = { s with link := { s.link with
      attachPending := true
      operationTimer := if s.link.attachPending then s.link.operationTimer else some 0 } } := by
  rw [State.requestAttach, h]
  dsimp only
  by_cases pending : s.link.attachPending = true
  · rw [if_pos pending, if_pos pending]
    simp only [← pending]
  · rw [if_neg pending, if_neg pending]

theorem State.requestAttach_of_attached (h : s.link.state = .closing ∨ s.link.state = .streaming) :
    s.requestAttach owner = s := by
  rw [State.requestAttach]
  rcases h with h | h
  all_goals rw [h]

section
variable (ready : s.link.state = .ready)
include ready

/-- In READY a request that finds SLEEP on the line waits for its answer (R130). -/
theorem State.requestAttach_of_sleep (sleep : s.link.onLine .sleep = true) :
    s.requestAttach owner = { s with link := s.link.attaching } := by
  have away : ¬ s.link.attachHands = true := by simp [ExtLink.attachHands, sleep]
  rw [State.requestAttach, ready]
  dsimp only
  rw [if_neg away, if_pos sleep]
  rfl

theorem State.requestAttach_of_hands (hands : s.link.attachHands = true) :
    s.requestAttach owner = State.continueAttach { s with link := s.link.attaching } owner := by
  rw [State.requestAttach, ready]
  exact if_pos hands

theorem State.requestAttach_of_queued (sleep : s.link.onLine .sleep = false) (pending : s.link.attachPending = true)
    (queued : s.link.queued .closeArms = true) : s.requestAttach owner = s := by
  have away : ¬ s.link.attachHands = true := by simp [ExtLink.attachHands, pending, queued]
  rw [State.requestAttach, ready]
  dsimp only
  rw [if_neg away, if_neg (by simp [sleep])]

theorem ExtLink.attachHands_of_ready (sleep : s.link.onLine .sleep = false) (pending : s.link.attachPending = false) :
    s.link.attachHands = true := by
  simp [ExtLink.attachHands, ready, sleep, pending]

/-- A handed CLOSE_ARMS with an empty shifter goes onto the line at once (R127, R130). -/
theorem State.requestAttach_of_hands_empty (hands : s.link.attachHands = true) (waiting : s.link.waiting = [])
    (empty : s.link.shifter = .empty) :
    s.requestAttach owner = { s with link := { s.link with
      state := .closing, shifter := .command ⟨.closeArms, owner⟩ false none
      attachPending := true, operationTimer := some 0, streamRequested := false
      sleepTimer := none } }.addNotice .console .extState := by
  rw [State.requestAttach_of_hands ready hands, State.continueAttach]
  dsimp only
  rw [ExtLink.hand_of_empty (l := s.link.attaching) empty, if_neg (by simp [ExtLink.attaching, waiting])]
  rfl

/-- Behind a busy shifter it takes the holding slot (R127, R130). -/
theorem State.requestAttach_of_hands_busy (hands : s.link.attachHands = true) (waiting : s.link.waiting = [])
    (busy : s.link.shifter ≠ .empty) (free : s.link.holding = none) :
    s.requestAttach owner = { s with link := { s.link with
      state := .closing, holding := some ⟨.closeArms, owner⟩
      attachPending := true, operationTimer := some 0, streamRequested := false
      sleepTimer := none } }.addNotice .console .extState := by
  rw [State.requestAttach_of_hands ready hands,
    State.continueAttach_of_free (s := { s with link := s.link.attaching }) owner free waiting,
    ExtLink.hand_of_free (l := s.link.attaching) busy free]
  rfl

end

end

/-! ## The two requests by the state of the sequencer -/

section
variable {s : State} (ht : s.takes .console = true)
include ht

theorem exec_extAttach_of_not_idle (h : s.seq.state ≠ .idle) :
    exec (.extAttach .console) s = .next (s.answer .console .extAttach .wrongState []) := by
  rw [exec, execExtAttach, State.request_of_takes _ _ ht rfl, if_pos h, State.refuse]

theorem exec_extDetach_of_not_idle (h : s.seq.state ≠ .idle) :
    exec (.extDetach .console) s = .next (s.answer .console .extDetach .wrongState []) := by
  rw [exec, execExtDetach, State.request_of_takes _ _ ht rfl, if_pos h, State.refuse]

variable (idle : s.seq.state = .idle)
include idle

theorem exec_extAttach_of_busy (hands : s.link.attachHands = true) (full : s.link.pathFull = true) :
    exec (.extAttach .console) s = .next (s.answer .console .extAttach .busy []) := by
  rw [exec, execExtAttach, State.request_of_takes _ _ ht rfl, if_neg (not_not.mpr idle), if_pos ⟨hands, full⟩,
    State.refuse]

/-- An EXT_ATTACH outside OPENING that is not BUSY. -/
theorem exec_extAttach_of_taken (open_ : s.link.state ≠ .opening)
    (h : s.link.attachHands = false ∨ s.link.pathFull = false) {accepted : Bool} (ha : s.attachAccepted = accepted) :
    exec (.extAttach .console) s
      = .next ((s.requestAttach .console).answer .console .extAttach (acceptedOr accepted) []) := by
  have admitted : ¬ (s.link.attachHands = true ∧ s.link.pathFull = true) := by
    rintro ⟨hands, full⟩
    simp [hands, full] at h
  have counted : s.countFree (s.link.state == .opening) = s := by simp [State.countFree, open_]
  rw [exec, execExtAttach, State.request_of_takes _ _ ht rfl, if_neg (not_not.mpr idle), if_neg admitted, counted, ha]

/-- In OPENING the answer is a free value (log entry 8). -/
theorem exec_extAttach_of_opening (h : s.link.state = .opening) :
    exec (.extAttach .console) s = .next
      ((State.requestAttach { s with freeCount := s.freeCount + 1 } .console).answer .console .extAttach
        (acceptedOr (Config.attachInOpeningAccepted s.freeCount)) []) := by
  have admitted : ¬ (s.link.attachHands = true ∧ s.link.pathFull = true) := by
    rintro ⟨hands, -⟩
    simp [ExtLink.attachHands, h] at hands
  have accepted : s.attachAccepted = Config.attachInOpeningAccepted s.freeCount := by
    rw [State.attachAccepted, h]
  rw [exec, execExtAttach, State.request_of_takes _ _ ht rfl, if_neg (not_not.mpr idle), if_neg admitted, accepted, h]
  rfl

theorem exec_extDetach_of_busy (hands : s.link.detachHands = true) (full : (s.link.withdraw .streamOn).pathFull = true) :
    exec (.extDetach .console) s = .next (s.answer .console .extDetach .busy []) := by
  rw [exec, execExtDetach, State.request_of_takes _ _ ht rfl, if_neg (not_not.mpr idle), if_pos ⟨hands, full⟩,
    State.refuse]

theorem exec_extDetach_of_taken {hands : Bool} (hd : s.link.detachHands = hands)
    (h : hands = false ∨ (s.link.withdraw .streamOn).pathFull = false) :
    exec (.extDetach .console) s
      = .next ((s.requestDetach .console).answer .console .extDetach (acceptedOr hands) []) := by
  have admitted : ¬ (s.link.detachHands = true ∧ (s.link.withdraw .streamOn).pathFull = true) := by
    rintro ⟨hands, full⟩
    simp [← hd, hands, full] at h
  rw [exec, execExtDetach, State.request_of_takes _ _ ht rfl, if_neg (not_not.mpr idle), if_neg admitted, hd]

/-- Where no OPEN_ARMS is handed the detach is answered OK. -/
theorem exec_extDetach_of_ok (hd : s.link.detachHands = false) :
    exec (.extDetach .console) s = .next ((s.requestDetach .console).answer .console .extDetach .ok []) :=
  exec_extDetach_of_taken ht idle hd (Or.inl rfl)

theorem exec_extAttach_of_ok (open_ : s.link.state ≠ .opening) (hands : s.link.attachHands = false)
    (ha : s.attachAccepted = false) :
    exec (.extAttach .console) s = .next ((s.requestAttach .console).answer .console .extAttach .ok []) :=
  exec_extAttach_of_taken ht idle open_ (Or.inl hands) ha

end

/-! ## The detach behind a STREAM_ON -/

/-- A path that holds at most a STREAM_ON is empty behind the shifter once that is withdrawn (R135; log entry 42). -/
theorem ExtLink.withdraw_streamOn {l : ExtLink} (waiting : l.waiting = [])
    (h : ∀ c ∈ l.holding, c.command = .streamOn) :
    l.withdraw .streamOn = { l with holding := none, waiting := [] } := by
  have rest : (l.holding.toList ++ l.waiting).filter (fun c => c.command != .streamOn) = [] := by
    rw [waiting, List.append_nil, List.filter_eq_nil_iff]
    intro c hc
    simp [h c (by simpa using hc)]
  rw [ExtLink.withdraw, rest]
  rfl

/-- A command other than STREAM_ON stays in the holding slot. -/
theorem ExtLink.withdraw_streamOn_holding {l : ExtLink} (h : ∃ c ∈ l.holding, c.command ≠ .streamOn) :
    (l.withdraw .streamOn).holding.isSome = true := by
  obtain ⟨c, hc, other⟩ := h
  rw [Option.mem_def] at hc
  simp [ExtLink.withdraw, hc, other]

/-- Settles O38, by the state of the sequencer, of the link, and of its transmit path. -/
theorem attachAndDetachByLinkState : Obligations.AttachAndDetachByLinkState := by
  intro s ht
  refine ⟨fun h => ⟨exec_extAttach_of_not_idle ht h, exec_extDetach_of_not_idle ht h⟩, fun idle => ?_⟩
  have stays (closing : s.link.state ≠ .closing) (streaming : s.link.state ≠ .streaming) :
      s.link.detachHands = false := by simp [ExtLink.detachHands, closing, streaming]
  refine ⟨fun down => ⟨?_, ?_⟩, fun ready pending waiting => ⟨fun sleep => ?_, fun empty => ?_, fun busy sleep free => ?_,
    fun busy sleep full => ?_, ?_⟩, fun ready pending => ⟨fun sleep queued => ⟨?_, ?_⟩, fun sleep queued => ⟨?_, ?_⟩⟩,
    fun waking => ⟨?_, ?_⟩, fun opening => ⟨⟨acceptedOr (Config.attachInOpeningAccepted s.freeCount), ?_, ?_⟩, ?_⟩,
    fun attached => ?_, fun closing queued => ?_,
    fun attached => ⟨fun busy held => ?_, fun empty waiting held => ?_, fun busy waiting held => ?_⟩⟩
  · have accepted : s.attachAccepted = true := by
      rw [State.attachAccepted]
      rcases down with h | h <;> rw [h]
    have hands : s.link.attachHands = false := by
      rcases down with h | h <;> simp [ExtLink.attachHands, h]
    rw [exec_extAttach_of_taken ht idle (by rcases down with h | h <;> simp [h]) (Or.inl hands) accepted,
      State.requestAttach_of_down down]
    rfl
  · rw [exec_extDetach_of_ok ht idle (stays (by rcases down with h | h <;> simp [h])
      (by rcases down with h | h <;> simp [h])), State.requestDetach_of_settled (by tauto)]
  · have hands : s.link.attachHands = false := by simp [ExtLink.attachHands, sleep]
    have accepted : s.attachAccepted = true := by simp [State.attachAccepted, ready, sleep, pending]
    rw [exec_extAttach_of_taken ht idle (by simp [ready]) (Or.inl hands) accepted,
      State.requestAttach_of_sleep ready sleep]
    rfl
  · have sleep : s.link.onLine .sleep = false := by simp [ExtLink.onLine, empty]
    have hands := ExtLink.attachHands_of_ready ready sleep pending
    have accepted : s.attachAccepted = true := by simp [State.attachAccepted, ready, hands]
    rw [exec_extAttach_of_taken ht idle (by simp [ready]) (Or.inr (by simp [ExtLink.pathFull, empty])) accepted,
      State.requestAttach_of_hands_empty ready hands waiting empty]
    rfl
  · have hands := ExtLink.attachHands_of_ready ready sleep pending
    have accepted : s.attachAccepted = true := by simp [State.attachAccepted, ready, hands]
    rw [exec_extAttach_of_taken ht idle (by simp [ready]) (Or.inr (by simp [ExtLink.pathFull, free])) accepted,
      State.requestAttach_of_hands_busy ready hands waiting busy free]
    rfl
  · exact exec_extAttach_of_busy ht idle (ExtLink.attachHands_of_ready ready sleep pending)
      (by simp [ExtLink.pathFull, busy, full])
  · rw [exec_extDetach_of_ok ht idle (stays (by simp [ready]) (by simp [ready])), State.requestDetach_of_ready ready,
      if_neg (by simp [pending])]
  · have hands : s.link.attachHands = false := by simp [ExtLink.attachHands, sleep]
    have accepted : s.attachAccepted = false := by simp [State.attachAccepted, ready, hands, pending]
    rw [exec_extAttach_of_ok ht idle (by simp [ready]) hands accepted, State.requestAttach_of_sleep ready sleep,
      ExtLink.attaching, ← pending]
  · rw [exec_extDetach_of_ok ht idle (stays (by simp [ready]) (by simp [ready])), State.requestDetach_of_ready ready,
      if_pos pending, if_neg (by simp [queued])]
  · have hands : s.link.attachHands = false := by simp [ExtLink.attachHands, pending, queued]
    have accepted : s.attachAccepted = false := by simp [State.attachAccepted, ready, hands, pending]
    rw [exec_extAttach_of_ok ht idle (by simp [ready]) hands accepted,
      State.requestAttach_of_queued ready sleep pending queued]
  · rw [exec_extDetach_of_ok ht idle (stays (by simp [ready]) (by simp [ready])), State.requestDetach_of_ready ready,
      if_pos pending, if_pos queued]
  · rw [exec_extAttach_of_ok ht idle (by simp [waking]) (by simp [ExtLink.attachHands, waking])
      (by rw [State.attachAccepted, waking]), State.requestAttach_of_waking waking]
  · rw [exec_extDetach_of_ok ht idle (stays (by simp [waking]) (by simp [waking])), State.requestDetach_of_waking waking]
  · cases h : Config.attachInOpeningAccepted s.freeCount
    · exact Or.inl rfl
    · exact Or.inr rfl
  · rw [exec_extAttach_of_opening ht idle opening,
      State.requestAttach_of_opening (s := { s with freeCount := s.freeCount + 1 }) opening]
    rfl
  · rw [exec_extDetach_of_ok ht idle (stays (by simp [opening]) (by simp [opening])),
      State.requestDetach_of_settled (Or.inr (Or.inl opening))]
  · have accepted : s.attachAccepted = false := by
      rw [State.attachAccepted]
      rcases attached with h | h <;> rw [h]
    have hands : s.link.attachHands = false := by
      rcases attached with h | h <;> simp [ExtLink.attachHands, h]
    rw [exec_extAttach_of_ok ht idle (by rcases attached with h | h <;> simp [h]) hands accepted,
      State.requestAttach_of_attached attached]
  · rw [exec_extDetach_of_ok ht idle (by simp [ExtLink.detachHands, closing, queued]),
      State.requestDetach_of_closing_queued closing queued]
  · have full : (s.link.withdraw .streamOn).pathFull = true := by
      rw [ExtLink.pathFull, ExtLink.withdraw_streamOn_holding held]
      simpa [ExtLink.withdraw] using busy
    exact exec_extDetach_of_busy ht idle (ExtLink.detachHands_iff.mpr attached) full
  · have hands := ExtLink.detachHands_iff.mpr attached
    have path := ExtLink.withdraw_streamOn waiting held
    rw [exec_extDetach_of_taken ht idle hands (Or.inr (by simp [path, ExtLink.pathFull])),
      State.requestDetach_of_hands hands, path, ExtLink.hand_of_empty (l := { s.link with holding := none, waiting := [] })
      empty, ← waiting]
    rfl
  · have hands := ExtLink.detachHands_iff.mpr attached
    have path := ExtLink.withdraw_streamOn waiting held
    rw [exec_extDetach_of_taken ht idle hands (Or.inr (by simp [path, ExtLink.pathFull])),
      State.requestDetach_of_hands hands, path, ExtLink.hand_of_free (l := { s.link with holding := none, waiting := [] })
      busy rfl, ← waiting]
    rfl

end Sys2Proof.Machine
end

section
/-! PROOFS. The rounded division (00_scope), and the strain and stress of one sample (R72 to R77). -/

namespace Sys2Proof.Machine

/-! ## The division -/

section
variable {n m d : Int}

/-- Of a nonnegative number by a positive one it is a whole division of the doubled values. -/
theorem roundDiv_of_nonneg (hn : 0 ≤ n) (hd : 0 < d) : roundDiv n d = (2 * n + d) / (2 * d) := by
  have hd' : ¬ d < 0 := by omega
  obtain ⟨a, rfl⟩ := Int.eq_ofNat_of_zero_le hn
  obtain ⟨b, rfl⟩ := Int.eq_ofNat_of_zero_le hd.le
  rw [roundDiv, if_neg (by omega), if_neg hd']
  simp

theorem roundDiv_neg_left (n : Int) (hd : 0 < d) : roundDiv (-n) d = -roundDiv n d := by
  have hd' : ¬ d < 0 := by omega
  rcases lt_trichotomy n 0 with hn | rfl | hn
  · simp [roundDiv, hd', hn, not_lt.mpr hn.le]
  · have zero : d.natAbs / (2 * d.natAbs) = 0 := Nat.div_eq_of_lt (by omega)
    simp only [roundDiv, neg_zero, Int.natAbs_zero, mul_zero, zero_add, zero]
    simp [hd']
  · simp [roundDiv, hd', hn, not_lt.mpr hn.le]

theorem roundDiv_neg_right (n : Int) (hd : 0 < d) : roundDiv n (-d) = -roundDiv n d := by
  have hd' : ¬ d < 0 := by omega
  unfold roundDiv
  dsimp only
  rw [if_pos (show -d < 0 by omega), if_pos (show -d < 0 by omega), if_neg hd', if_neg hd']
  simp only [Int.natAbs_neg]
  split_ifs <;> simp

/-- The rounding error of a nonnegative number, doubled: at least −d and less than d. -/
theorem roundDiv_bounds (hn : 0 ≤ n) (hd : 0 < d) :
    0 ≤ roundDiv n d ∧ 2 * (roundDiv n d * d) ≤ 2 * n + d ∧ 2 * n < 2 * (roundDiv n d * d) + d := by
  rw [roundDiv_of_nonneg hn hd]
  have below := Int.ediv_mul_le (2 * n + d) (show 2 * d ≠ 0 by omega)
  have above := Int.lt_ediv_add_one_mul_self (2 * n + d) (show 0 < 2 * d by omega)
  have place : (2 * n + d) / (2 * d) * (2 * d) = 2 * ((2 * n + d) / (2 * d) * d) := by ring
  have next : ((2 * n + d) / (2 * d) + 1) * (2 * d) = 2 * ((2 * n + d) / (2 * d) * d) + 2 * d := by ring
  rw [place] at below
  rw [next] at above
  exact ⟨Int.ediv_nonneg (by omega) (by omega), by omega, by omega⟩

theorem roundDiv_nonneg (hn : 0 ≤ n) (hd : 0 < d) : 0 ≤ roundDiv n d := (roundDiv_bounds hn hd).1

theorem roundDiv_mono (hd : 0 < d) (h : m ≤ n) : roundDiv m d ≤ roundDiv n d := by
  have grows {a b : Int} (ha : 0 ≤ a) (hab : a ≤ b) : roundDiv a d ≤ roundDiv b d := by
    rw [roundDiv_of_nonneg ha hd, roundDiv_of_nonneg (ha.trans hab) hd]
    exact Int.ediv_le_ediv (by omega) (by omega)
  have sign (a : Int) := roundDiv_neg_left a hd
  rcases le_or_gt 0 m with hm | hm
  · exact grows hm h
  · rcases le_or_gt 0 n with hn | hn
    · have negative := roundDiv_nonneg (n := -m) (by omega) hd
      have positive := roundDiv_nonneg hn hd
      rw [sign] at negative
      omega
    · have turned := grows (a := -n) (b := -m) (by omega) (by omega)
      rw [sign, sign] at turned
      omega

/-- The nearest whole number, and of two the greater in magnitude. -/
theorem roundDiv_nearest (n : Int) (hd : 0 < d) :
    2 * |n - roundDiv n d * d| ≤ d ∧ (2 * |n - roundDiv n d * d| = d → |n| < |roundDiv n d| * d) := by
  have nonneg {a : Int} (ha : 0 ≤ a) : 2 * |a - roundDiv a d * d| ≤ d
      ∧ (2 * |a - roundDiv a d * d| = d → |a| < |roundDiv a d| * d) := by
    obtain ⟨sign, below, above⟩ := roundDiv_bounds ha hd
    rw [abs_of_nonneg ha, abs_of_nonneg sign]
    rcases abs_cases (a - roundDiv a d * d) with ⟨h, -⟩ | ⟨h, -⟩ <;> rw [h] <;> omega
  rcases le_or_gt 0 n with hn | hn
  · exact nonneg hn
  · have turned := nonneg (a := -n) (by omega)
    rw [roundDiv_neg_left n hd, abs_neg, abs_neg] at turned
    have same : |-n - -roundDiv n d * d| = |n - roundDiv n d * d| := by
      rw [← abs_neg]
      congr 1
      ring
    rwa [same] at turned

end

/-- Settles O34. -/
theorem divisionRoundsHalfAwayFromZero : Obligations.DivisionRoundsHalfAwayFromZero := fun n _ hd =>
  ⟨(roundDiv_nearest n hd).1, (roundDiv_nearest n hd).2, roundDiv_neg_left n hd, roundDiv_neg_right n hd,
    fun _ h => roundDiv_mono hd h⟩

/-! ## One sample's strain and stress (R72 to R77) -/

section
variable {u : StrainUnit} {force area parallel fPre crosshead : Int} {p p0 : Word32}

/-- The unit after one sample's computation, with the crosshead strain at hand (R69). -/
theorem StrainUnit.compute_eq (ha : u.area = some area) (hl : u.parallel = some parallel) (hp : u.p0 = some p0)
    (hf : u.fPre = some fPre)
    (hc : crossheadStrainOf p p0 u.frame.compliance force fPre parallel = crosshead) :
    u.compute force p = { u with
      sigma := some (stressOf force area), epsilonE := u.extStrain, epsilonC := some crosshead
      epsilon := some (clampInt (-2000000) 2000000 (u.unclamped u.extStrain crosshead)) } := by
  rw [StrainUnit.compute, ha, hl, hp, hf]
  dsimp only
  rw [hc]

/-- The reported strain's clamp (R76). -/
theorem clampInt_strain (x : Int) : clampInt (-2000000) 2000000 x = max (-2000000) (min 2000000 x) :=
  clampInt_eq_max_min (by decide) x

end

/-- Settles O35: the unit's fields by `compute_eq`, and after the hand-off the crosshead strain with δ is εe again. -/
theorem handOffLeavesNoStep : Obligations.HandOffLeavesNoStep := by
  intro u force p p0 area parallel fPre crosshead ha hl hp hf hc
  have computed := StrainUnit.compute_eq ha hl hp hf (show crossheadStrainOf p p0 u.frame.compliance force fPre parallel
    = crosshead from hc.symm)
  rw [computed]
  refine ⟨rfl, rfl, rfl, fun hz => ?_, fun hs => ?_, fun hs => ?_, fun r z g hr hz hg => ⟨?_, fun hs => ?_⟩, ?_⟩
  · simp [StrainUnit.extStrain, hz]
  · simp [StrainUnit.unclamped, hs, clampInt_strain]
  · simp [StrainUnit.unclamped, hs, clampInt_strain]
  · simp [StrainUnit.extStrain, hr, hz, hg, extStrainOf]
  · have ext : u.extStrain = some (extStrainOf r z g) := by simp [StrainUnit.extStrain, hr, hz, hg]
    have reported : u.unclamped u.extStrain crosshead = extStrainOf r z g := by
      simp [StrainUnit.unclamped, hs, ext]
    rw [reported, ext]
    refine ⟨rfl, ?_, rfl, rfl⟩
    have again := StrainUnit.compute_eq (u := StrainUnit.handOff { u with
        sigma := some (stressOf force area), epsilonE := some (extStrainOf r z g), epsilonC := some crosshead
        epsilon := some (clampInt (-2000000) 2000000 (extStrainOf r z g)) })
      (force := force) (p := p) ha hl hp hf (show crossheadStrainOf p p0 u.frame.compliance force fPre parallel
        = crosshead from hc.symm)
    rw [again]
    simp [StrainUnit.unclamped, StrainUnit.handOff]
  · rintro e he
    cases he
    rw [clampInt_strain]
    omega

end Sys2Proof.Machine
end

section
/-! PROOFS. MOVE_TO, MOVE_BY, JOG and STOP_MOVE (R149, R150, R154 to R156): the speed written by its period, the record,
and a target that is reached already. -/

namespace Sys2Proof.Machine

/-! ## A velocity within the drive's limits (R149) -/

/-- The period of a speed, before it is judged against the longest one (R149). -/
def rawTicks (step v : Int) : Int := roundDiv (1000000000 * step) v

section
variable {step v : Int}

/-- The speeds and steps the drive admits have periods above the shortest one (R149, R152). -/
theorem rawTicks_ge (hs : 1 ≤ step) (hv : 1 ≤ v) (hv' : v ≤ 2000000) : 20 ≤ rawTicks step v := by
  have bounds := (roundDiv_bounds (n := 1000000000 * step) (d := v) (by omega) (by omega)).2.2
  by_contra short
  have most : rawTicks step v * v ≤ 19 * v := Int.mul_le_mul_of_nonneg_right (by omega) (by omega)
  rw [rawTicks] at most
  omega

theorem periodTicks_eq (hs : 1 ≤ step) (hv : 1 ≤ v) (hv' : v ≤ 2000000) (dir : Direction) :
    periodTicks step (signOf dir * v) =
      if 16777215 < rawTicks step v then none else some (rawTicks step v).toNat := by
  have nonzero : signOf dir * v ≠ 0 := by cases dir <;> simp only [signOf] <;> omega
  have magnitude : ((signOf dir * v).natAbs : Int) = v := by cases dir <;> simp only [signOf] <;> omega
  have long : ¬ rawTicks step v < 20 := not_lt.mpr (rawTicks_ge hs hv hv')
  rw [periodTicks, if_neg nonzero]
  dsimp only
  rw [magnitude]
  change (if rawTicks step v > 16777215 then _ else if rawTicks step v < 20 then _ else _) = _
  rw [if_neg long]
  rfl

/-- The drive after a speed is written in a direction by a move (R149, R150, R154). -/
def Drive.driven (d : Drive) (dir : Direction) (v : Int) : Drive :=
  { d with
    source := .move
    velocity := if 16777215 < rawTicks d.config.step v then 0 else signOf dir * v
    buffer :=
      if 16777215 < rawTicks d.config.step v ∨ d.generator = none then none
      else some (rawTicks d.config.step v).toNat
    generator :=
      if 16777215 < rawTicks d.config.step v then none
      else d.generator.or (some ⟨(rawTicks d.config.step v).toNat, 0, dir⟩) }

/-- The direction of a move from the position `here`: a jog's own, else that toward the target (R150, R154). -/
def MoveRecord.directionFrom (m : MoveRecord) (here : Word32) : Direction :=
  match m.kind with
  | .jog dir => dir
  | _ => directionToward here m.target

theorem MoveRecord.directionFrom_of_jog {m : MoveRecord} {dir : Direction} (h : m.kind = .jog dir) (here : Word32) :
    m.directionFrom here = dir := by
  rw [MoveRecord.directionFrom, h]

theorem MoveRecord.directionFrom_of_target {m : MoveRecord} (h : m.kind = .moveTo ∨ m.kind = .moveBy)
    (here : Word32) : m.directionFrom here = directionToward here m.target := by
  rw [MoveRecord.directionFrom]
  rcases h with h | h <;> rw [h]

/-- Under a move the direction of a period is the move's own (R150). -/
theorem Drive.periodDirection_of_move {d : Drive} {m : MoveRecord} (hs : d.source = .move) (hm : d.move = some m) :
    d.periodDirection = m.directionFrom d.commanded := by
  cases hk : m.kind <;> simp [Drive.periodDirection, MoveRecord.directionFrom, hs, hm, hk]

theorem State.writeVelocity_move {s : State} {m : MoveRecord} {dir : Direction} (hs : 1 ≤ s.drive.config.step)
    (hv : 1 ≤ v) (hv' : v ≤ 2000000) (limit : v ≤ s.drive.config.vmax) (hm : s.drive.move = some m)
    (hd : m.directionFrom s.drive.commanded = dir) :
    s.writeVelocity .move (signOf dir * v) = { s with drive := s.drive.driven dir v } := by
  have lo : -s.drive.config.vmax ≤ signOf dir * v := by cases dir <;> simp only [signOf] <;> omega
  have hi : signOf dir * v ≤ s.drive.config.vmax := by cases dir <;> simp only [signOf] <;> omega
  have ticks := periodTicks_eq hs hv hv' dir
  by_cases long : 16777215 < rawTicks s.drive.config.step v
  · rw [if_pos long] at ticks
    rw [State.writeVelocity_of_stop_value lo hi ticks]
    simp [Drive.driven, long]
  · rw [if_neg long] at ticks
    by_cases stopped : s.drive.generator = none
    · have direction := Drive.periodDirection_of_move
        (d := { s.drive with source := .move, velocity := signOf dir * v }) (m := m) rfl hm
      rw [State.writeVelocity_of_stopped lo hi ticks stopped, direction, hd]
      simp [Drive.driven, long, stopped]
    · rw [State.writeVelocity_of_running lo hi ticks stopped]
      obtain ⟨g, hg⟩ := Option.ne_none_iff_exists'.mp stopped
      simp [Drive.driven, long, hg]

end

/-! ## The record of a move (R154, R156) -/

section
variable {s : State}

/-- The drive once a move in flight, if there is one, has ended (R156). -/
def Drive.moveEnded (d : Drive) (cause : Option MoveEndCause) : Drive :=
  { d with
    move := none, source := if d.move.isSome then .none else d.source
    lastOutcome := d.outcomeAfter cause }

theorem State.endMove_eq (cause : Option MoveEndCause) :
    s.endMove cause = { s with ports := (s.endMove cause).ports, drive := s.drive.moveEnded cause } := by
  refine State.eq_of_blocks rfl ?_
  cases hm : s.drive.move with
  | none =>
    rw [State.endMove_of_none hm]
    simp [Drive.moveEnded, Drive.outcomeAfter, hm]
    rw [← hm]
  | some m =>
    rw [State.endMove_of_some hm]
    simp [Drive.moveEnded, Drive.outcomeAfter, hm]

/-- The issuer of a move that ends with a cause is told (R156). -/
theorem State.endMove_hasNotice {m : MoveRecord} {c : MoveEndCause} (hm : s.drive.move = some m) :
    ((s.endMove (some c)).ports.get m.issuer).hasNotice .moveStopped = true := by
  rw [State.endMove_of_some hm]
  exact State.addNotice_hasNotice _ _ _

/-- The drive with a new move recorded, the one in flight replaced (R154, R156). -/
def Drive.recorded (d : Drive) (p : Role) (kind : MoveKind) (target : Word32) (v : Int) (clamped : Bool) : Drive :=
  { d with
    source := if d.move.isSome then .none else d.source
    lastOutcome := d.outcomeAfter (some .replaced)
    moveCounter := d.moveCounter + 1
    move := some ⟨d.moveCounter + 1, kind, p, target, v, clamped, .travelling⟩ }

variable (p : Role) (kind : MoveKind) (target : Word32) (v : Int) (clamped : Bool)

theorem State.recordMove_eq : s.recordMove p kind target v clamped = { s with
    ports := (s.endMove (some .replaced)).ports, drive := s.drive.recorded p kind target v clamped } := by
  have ended := congrArg State.drive (State.endMove_eq (s := s) (some .replaced))
  refine State.eq_of_blocks rfl ?_
  simp [State.recordMove, ended, Drive.recorded, Drive.moveEnded]

end

/-! ## STOP_MOVE (R155) -/

section
variable {p : Role} {s : State}

theorem exec_stopMove_of_not_holder (hp : p ≠ .quality) (ht : s.takes p = true) (hh : s.portHolds p = false) :
    exec (.stopMove p) s = .next (s.answer p .stopMove .notHolder []) := by
  rw [exec, execStopMove, State.request_of_takes .stopMove _ ht (rolesCL_mem_of_ne hp), if_pos (by simp [hh]),
    State.refuse]

theorem exec_stopMove_of_holder (hp : p ≠ .quality) (ht : s.takes p = true) (hh : s.portHolds p = true) :
    exec (.stopMove p) s
      = .next ((s.stopGenerator.endMove (some .replaced)).answer p .stopMove .ok []) := by
  rw [exec, execStopMove, State.request_of_takes .stopMove _ ht (rolesCL_mem_of_ne hp), if_neg (by simp [hh])]

/-! ## JOG (R154) -/

section
variable {direction : Octet} {speed : Word32} (hp : p ≠ .quality) (ht : s.takes p = true)
include hp ht

theorem jog_reaches_drive (own : State → State) : s.request p .jog own = own s :=
  State.request_of_takes .jog own ht (rolesCL_mem_of_ne hp)

theorem exec_jog_of_not_holder (hh : s.portHolds p = false) :
    exec (.jog p direction speed) s = .next (s.answer p .jog .notHolder []) := by
  rw [exec, execJog, jog_reaches_drive hp ht, if_pos (by simp [hh]), State.refuse]

variable (hh : s.portHolds p = true)
include hh

theorem exec_jog_of_bad_direction (hd : directionOfOctet direction = none) :
    exec (.jog p direction speed) s = .next (s.answer p .jog .invalidField [1]) := by
  rw [exec, execJog, jog_reaches_drive hp ht, if_neg (by simp [hh]), hd]
  rfl

theorem exec_jog_of_bad_speed {dir : Direction} (hd : directionOfOctet direction = some dir)
    (hv : speed.toInt < 1000 ∨ 2000000 < speed.toInt) :
    exec (.jog p direction speed) s = .next (s.answer p .jog .invalidField [2]) := by
  have bad : within 1000 2000000 speed.toInt = false := by
    rw [Bool.eq_false_iff, ne_eq, within_eq_true_iff]
    omega
  rw [exec, execJog, jog_reaches_drive hp ht, if_neg (by simp [hh]), hd]
  simp [moveChecks, lowestFailing, bad, State.refuseField]
  rfl

theorem exec_jog_of_passes {dir : Direction} (hd : directionOfOctet direction = some dir)
    (hv : 1000 ≤ speed.toInt) (hv' : speed.toInt ≤ 2000000) :
    exec (.jog p direction speed) s = .next (s.takeJog p dir speed.toInt) := by
  have good : within 1000 2000000 speed.toInt = true := (within_eq_true_iff _ _ _).mpr ⟨hv, hv'⟩
  rw [exec, execJog, jog_reaches_drive hp ht, if_neg (by simp [hh]), hd]
  simp [moveChecks, lowestFailing, good]

end

end

/-- The speed in effect of a move the drive admits (R154). -/
theorem Drive.speedInEffect_jog (d : Drive) (speed : Int) :
    d.speedInEffect true speed = min (min speed d.config.vmax) d.config.jogLimit := by
  simp [Drive.speedInEffect]

theorem Drive.speedInEffect_move (d : Drive) (speed : Int) :
    d.speedInEffect false speed =
      if d.referenced then min speed d.config.vmax else min (min speed d.config.vmax) d.config.jogLimit := by
  cases h : d.referenced <;> simp [Drive.speedInEffect, h]

/-- An accepted JOG: the record, then the speed in its direction. -/
theorem State.takeJog_eq {s : State} {p : Role} {dir : Direction} {speed v : Int}
    (he : s.drive.speedInEffect true speed = v) (hs : 1 ≤ s.drive.config.step) (hv : 1 ≤ v) (hv' : v ≤ 2000000)
    (limit : v ≤ s.drive.config.vmax) :
    s.takeJog p dir speed = State.answer { s with
      ports := (s.endMove (some .replaced)).ports, freeCount := s.freeCount + 1
      drive := (s.drive.recorded p (.jog dir) (Config.jogTarget s.freeCount) v false).driven dir v }
      p .jog .ok (moveBody (s.drive.moveCounter + 1) (Config.jogTarget s.freeCount) v false) := by
  have recorded := State.recordMove_eq (s := { s with freeCount := s.freeCount + 1 }) p (.jog dir)
    (Config.jogTarget s.freeCount) v false
  have ended : (State.endMove { s with freeCount := s.freeCount + 1 } (some .replaced)).ports
      = (s.endMove (some .replaced)).ports := by
    cases hm : s.drive.move with
    | none => rw [State.endMove_of_none hm, State.endMove_of_none (by exact hm)]
    | some m => rw [State.endMove_of_some hm, State.endMove_of_some (by exact hm)]; rfl
  rw [State.takeJog, he, recorded, ended]
  have written := State.writeVelocity_move (s := { s with
    ports := (s.endMove (some .replaced)).ports, freeCount := s.freeCount + 1
    drive := s.drive.recorded p (.jog dir) (Config.jogTarget s.freeCount) v false }) (v := v) (dir := dir) hs hv hv'
    limit rfl rfl
  rw [written]
  rfl

/-- Settles O46: the refusals in their order, an accepted JOG by `takeJog_eq`, and STOP_MOVE as the stop and the move's
end. -/
theorem jogRunsUntilStopped : Obligations.JogRunsUntilStopped := by
  intro p s direction speed hp ht
  refine ⟨fun hh => ⟨exec_jog_of_not_holder hp ht hh, exec_stopMove_of_not_holder hp ht hh⟩, fun hh =>
    ⟨fun h0 h1 => exec_jog_of_bad_direction hp ht hh ?_, fun h hv => ?_, ?_, ?_⟩⟩
  · rw [directionOfOctet, if_neg h0, if_neg h1]
  · rcases h with rfl | rfl
    · exact exec_jog_of_bad_speed hp ht hh rfl hv
    · exact exec_jog_of_bad_speed hp ht hh rfl hv
  · intro h hv hv' step _ vmax vmax' jog v ticks hs hticks
    obtain ⟨dir, hd, hdir⟩ : ∃ dir, directionOfOctet direction = some dir
        ∧ dir = (if direction = 0 then .opening else .closing) := by
      rcases h with rfl | rfl
      · exact ⟨.opening, rfl, rfl⟩
      · exact ⟨.closing, rfl, rfl⟩
    have sign : signOf dir * v = if direction = 0 then v else -v := by
      rw [hdir]
      split_ifs <;> simp [signOf]
    have taken := State.takeJog_eq (s := s) (p := p) (dir := dir) ((Drive.speedInEffect_jog _ _).trans hs.symm) step
      (by omega) (by omega) (by omega)
    refine ⟨_, Config.jogTarget s.freeCount, dir, (exec_jog_of_passes hp ht hh hd hv hv').trans (by rw [taken]), hdir,
      ?_, fun m hm => ?_, ?_⟩
    · refine State.eq_of_blocks rfl ?_
      simp only [State.answer_frame, Drive.driven, Drive.recorded, sign, hticks, rawTicks]
      simp only [and_true, true_and]
      rfl
    · rw [State.answer_hasNotice]
      exact State.endMove_hasNotice hm
    · rw [State.answer_get_self]
      rfl
  · refine ⟨_, exec_stopMove_of_holder hp ht hh, ?_, ?_, fun m hm => ?_⟩
    · have ended := congrArg State.drive (State.endMove_eq (s := s.stopGenerator) (some .replaced))
      refine State.eq_of_blocks rfl ?_
      simp only [State.answer_frame, State.endMove_frame, ended]
      exact ⟨rfl, rfl, rfl, rfl, rfl, rfl, rfl, rfl, rfl, rfl, rfl, rfl, rfl, rfl, rfl, rfl, rfl, rfl⟩
    · rw [State.answer_get_self]
      rfl
    · rw [State.answer_hasNotice]
      exact State.endMove_hasNotice (s := s.stopGenerator) hm

end Sys2Proof.Machine
end

section
/-! PROOFS. MOVE_TO and MOVE_BY (R154): the step grid, the settling of a move at its target, and the two requests. -/

namespace Sys2Proof.Machine

/-! ## The step grid (R154) -/

/-- Counted toward a distance in whole steps, the count falls short by less than one step. -/
theorem tdiv_mul_bounds (ahead : Int) {step : Int} (hs : 0 < step) :
    |ahead.tdiv step * step| ≤ |ahead| ∧ |ahead| < |ahead.tdiv step * step| + step
      ∧ 0 ≤ ahead.tdiv step * ahead := by
  have nonneg {x : Int} (hx : 0 ≤ x) : |x.tdiv step * step| ≤ |x| ∧ |x| < |x.tdiv step * step| + step
      ∧ 0 ≤ x.tdiv step * x := by
    have quotient : x.tdiv step = x / step := Int.tdiv_eq_ediv_of_nonneg hx
    have sign : 0 ≤ x / step := Int.ediv_nonneg hx hs.le
    have below := Int.ediv_mul_le x hs.ne'
    have above := Int.lt_ediv_add_one_mul_self x hs
    rw [quotient, abs_of_nonneg hx, abs_of_nonneg (mul_nonneg sign hs.le)]
    exact ⟨below, by linarith, mul_nonneg sign hx⟩
  rcases le_or_gt 0 ahead with h | h
  · exact nonneg h
  · have turned := nonneg (x := -ahead) (by omega)
    rwa [Int.neg_tdiv, abs_neg, neg_mul, abs_neg, neg_mul_neg] at turned

/-- A target on the grid (R154). -/
theorem Drive.onGrid_steps (d : Drive) (target : Word32) (hs : 1 ≤ d.config.step) :
    ∃ k : Int, d.onGrid target = d.commanded + BitVec.ofInt 32 (k * d.config.step)
      ∧ |k * d.config.step| ≤ |(target - d.commanded).toInt|
      ∧ |(target - d.commanded).toInt| < |k * d.config.step| + d.config.step
      ∧ 0 ≤ k * (target - d.commanded).toInt :=
  ⟨_, rfl, tdiv_mul_bounds _ (by omega)⟩

/-! ## A move at its target (R154, R155) -/

section
variable {s : State} {m : MoveRecord} (hm : s.drive.move = some m)
include hm

theorem State.settleMove_of_moving (rest : s.meter.rest = false) :
    s.settleMove = { s with drive := { s.drive with
      generator := none, buffer := none, velocity := 0, source := .move
      move := some { m with phase := .settling } } } := by
  simp [State.settleMove, State.stopGenerator, State.completeSettledMove, hm, rest]

/-- At rest the move ends DONE at once. -/
theorem State.settleMove_of_rest (rest : s.meter.rest = true) :
    s.settleMove = { s with drive := { s.drive with
      generator := none, buffer := none, velocity := 0, source := .none, move := none
      lastOutcome := some (s.drive.outcomeOf none m) } }.addNotice m.issuer .moveDone := by
  simp [State.settleMove, State.stopGenerator, State.completeSettledMove, hm, rest, State.endMove, Drive.outcomeOf]

end

/-! ## An accepted move -/

/-- The state of an accepted move before its reply (R154). -/
def State.moved (s : State) (p : Role) (kind : MoveKind) (target : Word32) (v : Int) (clamped : Bool) : State :=
  let recorded := s.recordMove p kind target v clamped
  if target = s.drive.commanded then recorded.settleMove
  else recorded.writeVelocity .move (signOf (directionToward s.drive.commanded target) * v)

section
variable {s : State} {p : Role} {kind : MoveKind} {target : Word32} {v : Int} {clamped : Bool}

theorem State.takeMove_eq (k : RequestKind) {raw speed limited : Int} (hl : s.drive.clampTarget raw = limited)
    (ht : s.drive.onGrid (BitVec.ofInt 32 limited) = target) (hv : s.drive.speedInEffect false speed = v)
    (hc : (limited != raw) = clamped) :
    s.takeMove p k kind raw speed =
      (s.moved p kind target v clamped).answer p k .ok (moveBody (s.drive.moveCounter + 1) target v clamped) := by
  rw [State.takeMove, hl]
  rw [ht, hv, hc, State.recordMove_eq, State.moved, State.recordMove_eq]
  rfl

theorem State.moved_of_target (h : target = s.drive.commanded) :
    s.moved p kind target v clamped = (s.recordMove p kind target v clamped).settleMove :=
  if_pos h

theorem State.moved_of_away (hk : kind = .moveTo ∨ kind = .moveBy) (h : target ≠ s.drive.commanded)
    (hs : 1 ≤ s.drive.config.step) (hv : 1 ≤ v) (hv' : v ≤ 2000000) (limit : v ≤ s.drive.config.vmax) :
    s.moved p kind target v clamped = { s with
      ports := (s.endMove (some .replaced)).ports
      drive := (s.drive.recorded p kind target v clamped).driven (directionToward s.drive.commanded target) v } := by
  have recorded := State.recordMove_eq (s := s) p kind target v clamped
  rw [State.moved, recorded]
  rw [if_neg h]
  exact State.writeVelocity_move (s := { s with
    ports := (s.endMove (some .replaced)).ports, drive := s.drive.recorded p kind target v clamped }) hs hv hv' limit
    rfl (MoveRecord.directionFrom_of_target hk _)

/-- An accepted move changes the ports and the drive alone. -/
theorem State.moved_eq : s.moved p kind target v clamped = { s with
    ports := (s.moved p kind target v clamped).ports, drive := (s.moved p kind target v clamped).drive } := by
  refine State.eq_of_blocks rfl ?_
  unfold State.moved
  dsimp only
  split <;> simp

/-- The notice of the move replaced stays. -/
theorem State.moved_stay : NoticesStay (s.endMove (some .replaced)) (s.moved p kind target v clamped) := by
  have recorded := State.recordMove_eq (s := s) p kind target v clamped
  have record : NoticesStay (s.endMove (some .replaced)) (s.recordMove p kind target v clamped) :=
    .of_ports (by rw [recorded])
  unfold State.moved
  dsimp only
  split
  · refine record.trans ?_
    have hm : (s.recordMove p kind target v clamped).drive.move.isSome = true := by rw [recorded]; rfl
    obtain ⟨m, hm⟩ := Option.isSome_iff_exists.mp hm
    cases rest : (s.recordMove p kind target v clamped).meter.rest with
    | false => rw [State.settleMove_of_moving hm rest]; exact .of_ports rfl
    | true =>
      rw [State.settleMove_of_rest hm rest]
      exact .trans (.of_ports rfl) (State.addNotice_stay _ _ _)
  · exact record.trans (.of_ports (by simp))

end

/-! ## The two requests -/

section
variable {p : Role} {s : State} {x speed : Word32} (hp : p ≠ .quality) (ht : s.takes p = true)
include hp ht

theorem moveTo_reaches_drive (own : State → State) : s.request p .moveTo own = own s :=
  State.request_of_takes .moveTo own ht (rolesCL_mem_of_ne hp)

theorem moveBy_reaches_drive (own : State → State) : s.request p .moveBy own = own s :=
  State.request_of_takes .moveBy own ht (rolesCL_mem_of_ne hp)

theorem exec_moveTo_of_not_holder (hh : s.portHolds p = false) :
    exec (.moveTo p x speed) s = .next (s.answer p .moveTo .notHolder []) := by
  rw [exec, execMoveTo, moveTo_reaches_drive hp ht, if_pos (by simp [hh]), State.refuse]

theorem exec_moveBy_of_not_holder (hh : s.portHolds p = false) :
    exec (.moveBy p x speed) s = .next (s.answer p .moveBy .notHolder []) := by
  rw [exec, execMoveBy, moveBy_reaches_drive hp ht, if_pos (by simp [hh]), State.refuse]

variable (hh : s.portHolds p = true)
include hh

theorem exec_moveTo_of_unreferenced (hr : s.drive.referenced = false) :
    exec (.moveTo p x speed) s = .next (s.answer p .moveTo .unreferenced []) := by
  rw [exec, execMoveTo, moveTo_reaches_drive hp ht, if_neg (by simp [hh]), if_pos (by simp [hr]), State.refuse]

theorem exec_moveTo_of_failure {i : Nat} (hr : s.drive.referenced = true)
    (hf : lowestFailing (moveChecks true speed.toInt) = some i) :
    exec (.moveTo p x speed) s = .next (s.answer p .moveTo .invalidField (num1 i)) := by
  rw [exec, execMoveTo, moveTo_reaches_drive hp ht, if_neg (by simp [hh]), if_neg (by simp [hr]), hf]
  rfl

theorem exec_moveTo_of_passes (hr : s.drive.referenced = true)
    (hf : lowestFailing (moveChecks true speed.toInt) = none) :
    exec (.moveTo p x speed) s = .next (s.takeMove p .moveTo .moveTo x.toInt speed.toInt) := by
  rw [exec, execMoveTo, moveTo_reaches_drive hp ht, if_neg (by simp [hh]), if_neg (by simp [hr]), hf]

theorem exec_moveBy_of_failure {i : Nat}
    (hf : lowestFailing (moveChecks (within (-100000000) 100000000 x.toInt) speed.toInt) = some i) :
    exec (.moveBy p x speed) s = .next (s.answer p .moveBy .invalidField (num1 i)) := by
  rw [exec, execMoveBy, moveBy_reaches_drive hp ht, if_neg (by simp [hh]), hf]
  rfl

theorem exec_moveBy_of_passes
    (hf : lowestFailing (moveChecks (within (-100000000) 100000000 x.toInt) speed.toInt) = none) :
    exec (.moveBy p x speed) s
      = .next (s.takeMove p .moveBy .moveBy (s.drive.commanded.toInt + x.toInt) speed.toInt) := by
  rw [exec, execMoveBy, moveBy_reaches_drive hp ht, if_neg (by simp [hh]), hf]

end

theorem within_eq_false_iff (lo hi x : Int) : within lo hi x = false ↔ x < lo ∨ hi < x := by
  rw [Bool.eq_false_iff, ne_eq, within_eq_true_iff]
  omega

/-- Settles O45: the refusals in their order; an accepted move by `takeMove_eq`, its drive by whether the target is
reached and, if so, by the rest flag. -/
theorem movesAreRecordedAndStarted : Obligations.MovesAreRecordedAndStarted := by
  intro p s x speed hp ht
  refine ⟨fun hh => ⟨exec_moveTo_of_not_holder hp ht hh, exec_moveBy_of_not_holder hp ht hh⟩, fun hh =>
    ⟨exec_moveTo_of_unreferenced hp ht hh, fun hr hv => ?_, fun hx => ?_, fun lo hi hv => ?_, ?_⟩⟩
  · have bad := (within_eq_false_iff 1000 2000000 speed.toInt).mpr hv
    exact exec_moveTo_of_failure hp ht hh hr (by simp [moveChecks, lowestFailing, bad])
  · have bad := (within_eq_false_iff (-100000000) 100000000 x.toInt).mpr hx
    exact exec_moveBy_of_failure hp ht hh (by simp [moveChecks, lowestFailing, bad])
  · have good := (within_eq_true_iff (-100000000) 100000000 x.toInt).mpr ⟨lo, hi⟩
    have bad := (within_eq_false_iff 1000 2000000 speed.toInt).mpr hv
    exact exec_moveBy_of_failure hp ht hh (by simp [moveChecks, lowestFailing, good, bad])
  intro step step' vmax vmax' jog hv hv' limits i code kind raw limited v ticks clamped hi hl hvv hc hticks
  have good := (within_eq_true_iff 1000 2000000 speed.toInt).mpr ⟨hv, hv'⟩
  obtain ⟨k, hcode, hkind, hexec⟩ : ∃ k : RequestKind, k.code = code ∧ (kind = .moveTo ∨ kind = .moveBy)
      ∧ exec i s = .next (s.takeMove p k kind raw speed.toInt) := by
    rcases hi with ⟨rfl, rfl, rfl, rfl, hr⟩ | ⟨rfl, rfl, rfl, rfl, lo, hi⟩
    · exact ⟨.moveTo, rfl, .inl rfl, exec_moveTo_of_passes hp ht hh hr (by simp [moveChecks, lowestFailing, good])⟩
    · have near := (within_eq_true_iff (-100000000) 100000000 x.toInt).mpr ⟨lo, hi⟩
      exact ⟨.moveBy, rfl, .inr rfl, exec_moveBy_of_passes hp ht hh (by simp [moveChecks, lowestFailing, near, good])⟩
  have clamps : s.drive.clampTarget raw = limited := by
    rw [hl, Drive.clampTarget, clampInt_eq_max_min limits]
  have speeds : s.drive.speedInEffect false speed.toInt = v := (Drive.speedInEffect_move _ _).trans hvv.symm
  have positive : 1 ≤ v ∧ v ≤ 2000000 ∧ v ≤ s.drive.config.vmax := by
    rw [hvv]
    split_ifs <;> omega
  obtain ⟨lower, upper, within⟩ := positive
  have taken := State.takeMove_eq (p := p) (kind := kind) k clamps rfl speeds (show (limited != raw) = clamped by
    rw [hc]; simp [bne, beq_eq_decide])
  generalize htarget : s.drive.onGrid (BitVec.ofInt 32 limited) = target at taken
  have record := congrArg State.drive (State.recordMove_eq (s := s) p kind target v clamped)
  have rested : (s.recordMove p kind target v clamped).meter.rest = s.meter.rest := by simp
  refine ⟨_, target, s.drive.moveCounter + 1, s.drive.outcomeAfter (some .replaced), by rw [hexec, taken], ?_, rfl, rfl,
    ?_, fun reached rest => ?_, fun reached rest => ⟨?_, ?_⟩, fun away => ?_, fun m hm => ?_, ?_⟩
  · rw [← htarget]
    exact s.drive.onGrid_steps _ step
  · conv_lhs => rw [State.answer, State.answerKind, State.onPort, State.moved_eq]
    rfl
  · have settles := State.settleMove_of_moving (s := s.recordMove p kind target v clamped) (congrArg Drive.move record)
      (rested.trans rest)
    simp only [State.answer_frame, State.moved_of_target reached, settles, record]
    rfl
  · have settles := State.settleMove_of_rest (s := s.recordMove p kind target v clamped) (congrArg Drive.move record)
      (rested.trans rest)
    simp only [State.answer_frame, State.moved_of_target reached, settles, State.addNotice_frame, record]
    rfl
  · have settles := State.settleMove_of_rest (s := s.recordMove p kind target v clamped) (congrArg Drive.move record)
      (rested.trans rest)
    rw [State.answer_hasNotice, State.moved_of_target reached, settles]
    exact State.addNotice_hasNotice _ _ _
  · have sign : signOf (directionToward s.drive.commanded target) * v
        = if 0 ≤ (target - s.drive.commanded).toInt then v else -v := by
      rw [directionToward]
      split_ifs <;> simp [signOf]
    simp only [State.answer_frame, State.moved_of_away hkind away step lower upper within, Drive.driven,
      Drive.recorded, sign, hticks, rawTicks]
    rfl
  · rw [State.answer_hasNotice]
    exact State.moved_stay _ _ (State.endMove_hasNotice hm)
  · rw [State.answer_get_self, hcode]
    rfl

end Sys2Proof.Machine
end

section
/-! PROOFS. SET_POSITION and WRITE_DRIVE_CONFIG (R152, R153): the checks in their order, and what a request that passes
replaces. -/

namespace Sys2Proof.Machine

/-! ## SET_POSITION (R153) -/

section
variable {s : State} {x : Word32} (ht : s.takes .console = true)
include ht

theorem exec_setPosition_of_not_holder (hh : s.arbiter.holder ≠ some .console) :
    exec (.setPosition .console x) s = .next (s.answer .console .setPosition .notHolder []) := by
  rw [exec, execSetPosition, State.request_of_takes .setPosition _ ht (by decide),
    if_pos (by simpa [State.portHolds, partyOf] using hh), State.refuse]

variable (hh : s.arbiter.holder = some .console)
include hh

theorem setPosition_reaches_drive (own : State → State) (refused : State → State) :
    s.request .console .setPosition (fun s => if ¬ s.portHolds .console then refused s else own s) = own s := by
  rw [State.request_of_takes .setPosition _ ht (by decide), if_neg (by simp [State.portHolds, partyOf, hh])]

theorem exec_setPosition_of_busy (busy : s.drive.busy = true) :
    exec (.setPosition .console x) s = .next (s.answer .console .setPosition .wrongState []) := by
  rw [exec, execSetPosition, setPosition_reaches_drive ht hh, if_pos busy, State.refuse]

variable (free : ¬ s.drive.busy = true)
include free

theorem exec_setPosition_of_outside (outside : s.drive.config.contains x.toInt = false) :
    exec (.setPosition .console x) s = .next (s.answer .console .setPosition .invalidField [1]) := by
  rw [exec, execSetPosition, setPosition_reaches_drive ht hh, if_neg free, if_pos (by simp [outside])]
  rfl

theorem exec_setPosition_of_inside (inside : s.drive.config.contains x.toInt = true) :
    exec (.setPosition .console x) s = .next
      (State.answer { s with drive := { s.drive with encoder := x, commanded := x, referenced := true } } .console
        .setPosition .ok []).examineHead := by
  rw [exec, execSetPosition, setPosition_reaches_drive ht hh, if_neg free, if_neg (by simp [inside])]

end

/-! ## WRITE_DRIVE_CONFIG (R152) -/

theorem Drive.busy_iff (d : Drive) : d.busy = true ↔ d.generator.isSome = true ∨ d.move.isSome = true :=
  iff_of_eq (Bool.or_eq_true _ _)

theorem Drive.not_busy {d : Drive} (hg : d.generator = none) (hm : d.move = none) : ¬ d.busy = true := by
  simp [Drive.busy_iff, hg, hm]

/-- The lowest failing field of a drive configuration, 0 for none (R152). -/
theorem lowestFailing_driveConfigChecks (c : DriveConfig) (index : Nat) (h : index = (
      if ¬ (1 ≤ c.step ∧ c.step ≤ 100) then 1
      else if ¬ (1000 ≤ c.vmax ∧ c.vmax ≤ 2000000) then 2
      else if ¬ (1000 ≤ c.jogLimit ∧ c.jogLimit ≤ 500000) then 3
      else if c.upper.toInt ≤ c.lower.toInt then 5
      else if ¬ (10 ≤ c.following ∧ c.following ≤ 100000) then 6
      else 0)) :
    lowestFailing (driveConfigChecks c) = if index = 0 then none else some index := by
  subst h
  simp only [driveConfigChecks, lowestFailing, within_eq_true_iff, decide_eq_true_eq]
  split_ifs <;> simp_all <;> omega

section
variable {s : State} {step : Octet} {vmax jog lower upper following : Word32} {c : DriveConfig}
  (ht : s.takes .console = true) (hc : c = ⟨step.toNat, vmax.toInt, jog.toInt, lower, upper, following.toInt⟩)
include ht

theorem writeDriveConfig_reaches_drive (own : State → State) : s.request .console .writeDriveConfig own = own s :=
  State.request_of_takes .writeDriveConfig own ht (by decide)

theorem exec_writeDriveConfig_of_not_idle (hi : s.seq.state ≠ .idle) :
    exec (.writeDriveConfig .console step vmax jog lower upper following) s
      = .next (s.answer .console .writeDriveConfig .wrongState []) := by
  rw [exec, execWriteDriveConfig, writeDriveConfig_reaches_drive ht, if_pos hi, State.refuse]

variable (hi : s.seq.state = .idle)
include hi

theorem exec_writeDriveConfig_of_store (store : s.config.inFlight.isSome = true) :
    exec (.writeDriveConfig .console step vmax jog lower upper following) s
      = .next (s.answer .console .writeDriveConfig .busy []) := by
  rw [exec, execWriteDriveConfig, writeDriveConfig_reaches_drive ht, if_neg (by simp [hi]), if_pos store, State.refuse]

variable (store : s.config.inFlight = none)
include store

theorem exec_writeDriveConfig_of_busy (busy : s.drive.busy = true) :
    exec (.writeDriveConfig .console step vmax jog lower upper following) s
      = .next (s.answer .console .writeDriveConfig .wrongState []) := by
  rw [exec, execWriteDriveConfig, writeDriveConfig_reaches_drive ht, if_neg (by simp [hi]),
    if_neg (by simp [store]), if_pos busy, State.refuse]

variable (free : ¬ s.drive.busy = true)
include hc free

theorem exec_writeDriveConfig_of_bad_field {index : Nat} (bad : lowestFailing (driveConfigChecks c) = some index) :
    exec (.writeDriveConfig .console step vmax jog lower upper following) s
      = .next (s.answer .console .writeDriveConfig .invalidField [BitVec.ofNat 8 index]) := by
  rw [exec, execWriteDriveConfig, writeDriveConfig_reaches_drive ht, if_neg (by simp [hi]), if_neg (by simp [store]),
    if_neg free, ← hc, bad]
  rfl

variable (good : lowestFailing (driveConfigChecks c) = none)
include good

theorem exec_writeDriveConfig_of_bad_limit {index : Nat} (bad : lowestFailing (s.drive.limitChecks c) = some index) :
    exec (.writeDriveConfig .console step vmax jog lower upper following) s
      = .next (s.answer .console .writeDriveConfig .invalidField [BitVec.ofNat 8 index]) := by
  rw [exec, execWriteDriveConfig, writeDriveConfig_reaches_drive ht, if_neg (by simp [hi]), if_neg (by simp [store]),
    if_neg free, ← hc, good, bad]
  rfl

theorem exec_writeDriveConfig_of_passes (fits : lowestFailing (s.drive.limitChecks c) = none) :
    exec (.writeDriveConfig .console step vmax jog lower upper following) s = .next
      (State.answer { s with drive := { s.drive with config := c } } .console .writeDriveConfig .ok []) := by
  rw [exec, execWriteDriveConfig, writeDriveConfig_reaches_drive ht, if_neg (by simp [hi]), if_neg (by simp [store]),
    if_neg free, ← hc, good, fits]

end

/-- Settles O47: each check by its own lemma, in the order of R152 and R153. -/
theorem positionAndConfigurationAreSet : Obligations.PositionAndConfigurationAreSet := by
  refine ⟨fun s x ht => ⟨exec_setPosition_of_not_holder ht, fun hh => ⟨fun busy =>
    exec_setPosition_of_busy ht hh (s.drive.busy_iff.mpr busy), fun hg hm => ⟨fun outside => ?_, fun lo hi => ?_⟩⟩⟩,
    ?_⟩
  · exact exec_setPosition_of_outside ht hh (Drive.not_busy hg hm) ((within_eq_false_iff _ _ _).mpr outside)
  · exact exec_setPosition_of_inside ht hh (Drive.not_busy hg hm) ((within_eq_true_iff _ _ _).mpr ⟨lo, hi⟩)
  rintro s step vmax jog lower upper following c i index ht hc rfl hindex
  have limits : c.lower = lower ∧ c.upper = upper := by rw [hc]; exact ⟨rfl, rfl⟩
  obtain ⟨hlower, hupper⟩ := limits
  have checks := lowestFailing_driveConfigChecks c index (by rw [hlower, hupper]; exact hindex)
  refine ⟨exec_writeDriveConfig_of_not_idle ht, exec_writeDriveConfig_of_store ht, fun hi store =>
    ⟨fun busy => exec_writeDriveConfig_of_busy ht hi store (s.drive.busy_iff.mpr busy), fun hg hm =>
      ⟨fun bad => ?_, fun zero => ?_⟩⟩⟩
  · exact exec_writeDriveConfig_of_bad_field ht hc hi store (Drive.not_busy hg hm) (checks.trans (if_neg bad))
  have good := checks.trans (if_pos zero)
  have rising : lower.toInt < upper.toInt := by
    have := (lowestFailing_eq_none_iff _).mp good (5, decide (c.lower.toInt < c.upper.toInt)) (by simp [driveConfigChecks])
    simpa [hlower, hupper] using this
  refine ⟨fun hr below => ?_, fun hr above => ?_, fun fits => ?_⟩
  · exact exec_writeDriveConfig_of_bad_limit ht hc hi store (Drive.not_busy hg hm) good
      (by simp [Drive.limitChecks, lowestFailing, hr, hlower, below])
  · have notBelow : lower.toInt ≤ s.drive.commanded.toInt := by omega
    exact exec_writeDriveConfig_of_bad_limit ht hc hi store (Drive.not_busy hg hm) good
      (by simp [Drive.limitChecks, lowestFailing, hr, hlower, hupper, notBelow, above])
  · refine exec_writeDriveConfig_of_passes ht hc hi store (Drive.not_busy hg hm) good ?_
    rcases fits with hr | ⟨lo, hi⟩
    · simp [Drive.limitChecks, lowestFailing, hr]
    · simp [Drive.limitChecks, lowestFailing, hlower, hupper, lo, hi]

end Sys2Proof.Machine
end

section
/-! PROOFS. The end of a period (R149, R151, R155): the pulse and the next period, the soft-limit stop, and the move
that reaches its target. -/

namespace Sys2Proof.Machine

/-! ## A fault at the sequencer (R46) -/

section
variable {s : State} (cause : Cause)

theorem State.whenRunning_of_running (h : s.power = .running) (act : State → State) : s.whenRunning act = act s :=
  if_pos h

theorem State.addNote_eq (s : State) :
    s.addNote cause = { s with seq := { s.seq with note := s.seq.note.or (some cause) } } := by
  rw [State.addNote]
  cases h : s.seq.note with
  | none => rw [if_pos rfl]; rfl
  | some c =>
    rw [if_neg (by simp), Option.some_or, ← h]

theorem State.reportFault_of_test (h : s.seq.state.underTest = true) :
    s.reportFault cause = s.enterEnding .aborted (some cause) := by
  rw [State.reportFault, if_pos h]

theorem State.reportFault_of_ending (h : s.seq.state = .ending) :
    s.reportFault cause = { s with seq := { s.seq with note := s.seq.note.or (some cause) } } := by
  rw [State.reportFault, if_neg (by simp [h, SeqState.underTest]), if_pos h, State.addNote_eq]

theorem State.reportFault_of_no_test (h : s.seq.state = .idle ∨ s.seq.state = .armed) :
    s.reportFault cause = s := by
  rw [State.reportFault]
  rcases h with h | h <;> simp [h, SeqState.underTest]

end

/-! ## The pulse (R149, R151) -/

section
variable {s : State} {g : Period}

theorem Drive.atTarget_of_jog {d : Drive} (h : ∀ m ∈ d.move, ∃ dir, m.kind = .jog dir) : d.atTarget = false := by
  cases hm : d.move with
  | none => simp [Drive.atTarget, hm]
  | some m =>
    obtain ⟨dir, hd⟩ := h m hm
    simp [Drive.atTarget, hm, hd]

theorem Drive.atTarget_of_away {d : Drive} (h : ∀ m ∈ d.move, m.target ≠ d.commanded) : d.atTarget = false := by
  cases hm : d.move with
  | none => simp [Drive.atTarget, hm]
  | some m =>
    have := h m hm
    cases hk : m.kind <;> simp [Drive.atTarget, hm, hk, this]

theorem Drive.atTarget_of_reached {d : Drive} {m : MoveRecord} (hm : d.move = some m)
    (hk : m.kind = .moveTo ∨ m.kind = .moveBy) (h : m.target = d.commanded) : d.atTarget = true := by
  rcases hk with hk | hk <;> simp [Drive.atTarget, hm, hk, h]

theorem Drive.followingExceeded_of_within {d : Drive} (h : |(d.commanded - d.encoder).toInt| ≤ d.config.following) :
    d.followingExceeded = false := by
  rw [Int.abs_eq_natAbs] at h
  exact decide_eq_false (not_lt.mpr h)

variable (hg : s.drive.generator = some g)
include hg

theorem State.periodEnd_of_free (away : s.drive.atTarget = false) (inside : s.drive.limitStops g.direction = false)
    (follows : (s.pulse g.direction).drive.followingExceeded = false)
    (short : (s.pulse g.direction).drive.atTarget = false) :
    s.periodEnd = (s.pulse g.direction).nextPeriod g := by
  rw [State.periodEnd, hg]
  simp [away, inside, follows, short]

theorem State.periodEnd_of_limit (away : s.drive.atTarget = false) (outside : s.drive.limitStops g.direction = true) :
    s.periodEnd = s.limitStop := by
  rw [State.periodEnd, hg]
  simp [away, outside]

theorem State.periodEnd_of_reached (away : s.drive.atTarget = false) (inside : s.drive.limitStops g.direction = false)
    (follows : (s.pulse g.direction).drive.followingExceeded = false)
    (reached : (s.pulse g.direction).drive.atTarget = true) :
    s.periodEnd = (s.pulse g.direction).settleMove := by
  rw [State.periodEnd, hg]
  simp [away, inside, follows, reached]

end

section
variable {d : Drive} {dir : Direction}

theorem Drive.limitStops_of_inside (h : d.referenced = false ∨ (d.config.lower.toInt ≤ d.commanded.toInt + d.pulseStep dir
    ∧ d.commanded.toInt + d.pulseStep dir ≤ d.config.upper.toInt)) : d.limitStops dir = false := by
  rw [Drive.limitStops, DriveConfig.contains]
  rcases h with h | ⟨lo, hi⟩
  · simp [h]
  · simp [(within_eq_true_iff _ _ _).mpr ⟨lo, hi⟩]

theorem Drive.limitStops_of_outside (hr : d.referenced = true)
    (h : d.commanded.toInt + d.pulseStep dir < d.config.lower.toInt
      ∨ d.config.upper.toInt < d.commanded.toInt + d.pulseStep dir) : d.limitStops dir = true := by
  rw [Drive.limitStops, DriveConfig.contains, hr, (within_eq_false_iff _ _ _).mpr h]
  rfl

end

/-! ## The soft-limit stop (R151) -/

section
variable {s : State}

theorem State.limitStop_of_move {m : MoveRecord} (hm : s.drive.move = some m) (hs : s.drive.source = .move) :
    s.limitStop = { s with drive := { s.drive with
      generator := none, buffer := none, velocity := 0, source := .none, move := none
      lastOutcome := some (s.drive.outcomeOf (some .limit) m) } }.addNotice m.issuer .moveStopped := by
  have ended := State.endMove_of_some (s := s.stopGenerator) (m := m) hm (some .limit)
  rw [State.limitStop, hs, ended]
  rfl

theorem State.limitStop_of_sequencer (hm : s.drive.move = none) (hs : s.drive.source = .sequencer) :
    s.limitStop = (s.stopGenerator.reportFault .travelLimit).testEnding := by
  rw [State.limitStop, hs, State.endMove_of_none (s := s.stopGenerator) hm]
  rfl

end

theorem exec_periodEnd {s : State} (h : s.power = .running) : exec .periodEnd s = .next s.periodEnd :=
  congrArg Host.Outcome.next (State.whenRunning_of_running h _)

theorem exec_moveCompletion {s : State} (h : s.power = .running) :
    exec .moveCompletion s = .next s.completeSettledMove :=
  congrArg Host.Outcome.next (State.whenRunning_of_running h _)

theorem State.completeSettledMove_of_settled {s : State} {m : MoveRecord} (hm : s.drive.move = some m)
    (settling : m.phase = .settling) (rest : s.meter.rest = true) :
    s.completeSettledMove = { s with drive := { s.drive with
      move := none, source := .none, lastOutcome := some (s.drive.outcomeOf none m) } }.addNotice m.issuer .moveDone := by
  simp only [State.completeSettledMove, hm]
  rw [if_pos ⟨settling, rest⟩, State.endMove_of_some hm]
  rfl

/-- Settles O48: the four branches of `periodEnd` by their lemmas, and the settled move by its own. -/
theorem periodEndEmitsOnePulse : Obligations.PeriodEndEmitsOnePulse := by
  refine ⟨fun d g hg => ?_, fun s g stepped exact hp hg hstepped hexact => ?_⟩
  · rw [Drive.dirPin, hg, Option.map_some]
    cases g.direction <;> rfl
  have pulses : (s.pulse g.direction).drive = { s.drive with commanded := stepped } := by
    rw [hstepped]
    cases hd : g.direction <;> simp [State.pulse, Drive.pulseStep]
  have wholly : exact = s.drive.commanded.toInt + s.drive.pulseStep g.direction := by
    rw [hexact]
    cases hd : g.direction <;> simp [Drive.pulseStep]
  have pulsed : s.pulse g.direction = { s with drive := { s.drive with commanded := stepped } } := by
    rw [← pulses]
    rfl
  subst wholly
  rw [exec_periodEnd hp]
  refine ⟨fun inside follows away => ?_, fun referenced outside => ⟨fun m hm away source => ?_,
    fun hm source stopped hstopped => ?_⟩, fun m hm kind reached apart inside follows => ⟨fun rest => ?_,
    fun rest => ?_, ?_⟩⟩
  · have follows := Drive.followingExceeded_of_within (d := { s.drive with commanded := stepped }) follows
    have notHere : s.drive.atTarget = false ∧ Drive.atTarget { s.drive with commanded := stepped } = false := by
      rcases away with jog | away
      · exact ⟨Drive.atTarget_of_jog jog, Drive.atTarget_of_jog jog⟩
      · exact ⟨Drive.atTarget_of_away fun m hm => (away m hm).1, Drive.atTarget_of_away fun m hm => (away m hm).2⟩
    obtain ⟨here, there⟩ := notHere
    refine ⟨Drive.periodDirection { s.drive with commanded := stepped }, ?_, fun source => ?_, fun source m j hm hk => ?_,
      fun source m hm hk => ?_⟩
    · rw [State.periodEnd_of_free hg here (Drive.limitStops_of_inside inside) (by rw [pulses]; exact follows)
        (by rw [pulses]; exact there), pulsed]
      rfl
    · rw [Drive.periodDirection, source]
    · exact (Drive.periodDirection_of_move (d := { s.drive with commanded := stepped }) source hm).trans
        (MoveRecord.directionFrom_of_jog hk _)
    · exact (Drive.periodDirection_of_move (d := { s.drive with commanded := stepped }) source hm).trans
        (MoveRecord.directionFrom_of_target hk _)
  · have here : s.drive.atTarget = false := by
      rcases away with jog | away
      · exact Drive.atTarget_of_jog fun m' hm' => Option.some.inj (hm.symm.trans hm') ▸ jog
      · exact Drive.atTarget_of_away fun m' hm' => Option.some.inj (hm.symm.trans hm') ▸ away
    rw [State.periodEnd_of_limit hg here (Drive.limitStops_of_outside referenced outside),
      State.limitStop_of_move hm source]
    refine ⟨_, rfl, rfl, ?_⟩
    rw [State.addNotice_notices, if_pos rfl]
  · have here : s.drive.atTarget = false := Drive.atTarget_of_jog (by simp [hm])
    rw [State.periodEnd_of_limit hg here (Drive.limitStops_of_outside referenced outside),
      State.limitStop_of_sequencer hm source]
    have stops : s.stopGenerator = stopped := hstopped.symm
    have state : stopped.seq = s.seq := by rw [hstopped]
    rw [stops]
    refine ⟨fun test => ?_, fun ending => ?_, fun quiet => ?_⟩
    · rw [State.reportFault_of_test _ (by rw [state]; exact test)]
    · rw [State.reportFault_of_ending _ (by rw [state]; exact ending), state]
    · rw [← state] at quiet
      rw [State.reportFault_of_no_test _ quiet,
        State.testEnding_of_not_ending (by rcases quiet with h | h <;> simp [h])]
  · have here : s.drive.atTarget = false := Drive.atTarget_of_away fun m' hm' => by
      rw [← Option.some.inj (hm.symm.trans hm'), reached]
      exact apart.symm
    have there : Drive.atTarget { s.drive with commanded := stepped } = true :=
      Drive.atTarget_of_reached (m := m) hm kind reached
    rw [State.periodEnd_of_reached hg here (Drive.limitStops_of_inside inside)
      (by rw [pulses]; exact Drive.followingExceeded_of_within follows) (by rw [pulses]; exact there), pulsed]
    exact congrArg Host.Outcome.next (State.settleMove_of_moving hm rest)
  · have here : s.drive.atTarget = false := Drive.atTarget_of_away fun m' hm' => by
      rw [← Option.some.inj (hm.symm.trans hm'), reached]
      exact apart.symm
    have there : Drive.atTarget { s.drive with commanded := stepped } = true :=
      Drive.atTarget_of_reached (m := m) hm kind reached
    rw [State.periodEnd_of_reached hg here (Drive.limitStops_of_inside inside)
      (by rw [pulses]; exact Drive.followingExceeded_of_within follows) (by rw [pulses]; exact there), pulsed]
    exact congrArg Host.Outcome.next (State.settleMove_of_rest hm rest)
  · intro t ht
    have power : t.power = .running := by rw [ht]; exact hp
    have move : t.drive.move = some { m with phase := .settling } := by rw [ht]
    have rest : t.meter.rest = true := by rw [ht]
    have outcome : t.drive.outcomeOf none { m with phase := .settling }
        = ⟨m.number, m.kind, none, stepped, s.drive.encoder⟩ := by rw [ht]; rfl
    rw [exec_moveCompletion power, State.completeSettledMove_of_settled move rfl rest, outcome]

end Sys2Proof.Machine
end

section
/-! PROOFS. A conversion slot at the load unit (R104, R110 to R117): the sample each kind of slot delivers, the step-up
and the reports, and what the rest of the slot leaves of the sample. -/

namespace Sys2Proof.Machine

/-! ## The sample of a slot (R104, R110, R111) -/

/-- The load unit after a slot whose sample is held. -/
def LoadUnit.held (l : LoadUnit) : LoadUnit :=
  { l with slotNumber := l.slotNumber + 1, settling := false, last := ⟨l.heldForce, true, l.activeRange⟩ }

/-- The clamped force of a raw count on the active range (R110, R111). -/
def LoadUnit.convertedForce (l : LoadUnit) (r : Int) : Option Int :=
  (l.convert r).map fun (t, f) => clampInt (-t.fullScale) t.fullScale f

/-- The load unit after a slot whose sample is converted. -/
def LoadUnit.converted (l : LoadUnit) (r : Int) : LoadUnit :=
  { l with
    slotNumber := l.slotNumber + 1, settling := false, last := ⟨l.convertedForce r, false, l.activeRange⟩ }

section
variable {l : LoadUnit} {r : Int}

theorem LoadUnit.convert_of_unwritten (h : l.tables.get l.activeRange = none) : l.convert r = none := by
  rw [LoadUnit.convert, h]
  rfl

theorem LoadUnit.convert_of_written {table : RangeTable} {f : Int} (ht : l.tables.get l.activeRange = some table)
    (hf : unclampedForce table.points (r - l.offsets.get l.activeRange) = some f) : l.convert r = some (table, f) := by
  rw [LoadUnit.convert, ht, Option.bind_some, hf]
  rfl

theorem LoadUnit.convertedForce_of_unwritten (h : l.tables.get l.activeRange = none) : l.convertedForce r = none := by
  rw [LoadUnit.convertedForce, LoadUnit.convert_of_unwritten h]
  rfl

theorem LoadUnit.convertedForce_of_written {table : RangeTable} {f : Int}
    (ht : l.tables.get l.activeRange = some table)
    (hf : unclampedForce table.points (r - l.offsets.get l.activeRange) = some f) :
    l.convertedForce r = some (clampInt (-table.fullScale) table.fullScale f) := by
  rw [LoadUnit.convertedForce, LoadUnit.convert_of_written ht hf]
  rfl

/-- Overrange (R112). -/
theorem LoadUnit.overranges_iff {table : RangeTable} {f : Int} (ht : l.tables.get l.activeRange = some table)
    (hf : unclampedForce table.points (r - l.offsets.get l.activeRange) = some f) :
    l.overranges r = true ↔ r = 8388607 ∨ r = -8388608 ∨ 98 * table.fullScale ≤ 100 * |f| := by
  rw [LoadUnit.overranges, LoadUnit.convert_of_written ht hf, Int.abs_eq_natAbs]
  simp [overrange, saturated, or_assoc, Int.mul_comm]

/-- A clamped force lies within the full scale (R111). -/
theorem clampInt_abs_le {fullScale f : Int} (h : 0 ≤ fullScale) : |clampInt (-fullScale) fullScale f| ≤ fullScale := by
  rw [clampInt_eq_max_min (by omega), abs_le]
  omega

theorem LoadUnit.heldForce_le {table : RangeTable} (ht : l.tables.get l.activeRange = some table)
    (h : 0 ≤ table.fullScale) : ∀ f ∈ l.heldForce, |f| ≤ table.fullScale := by
  intro f hf
  rw [LoadUnit.heldForce, ht] at hf
  cases hl : l.last.force with
  | none => simp [hl] at hf
  | some before =>
    simp only [hl, Option.mem_some_iff] at hf
    exact hf ▸ clampInt_abs_le h

theorem LoadUnit.convertedForce_le {table : RangeTable} (ht : l.tables.get l.activeRange = some table)
    (h : 0 ≤ table.fullScale) : ∀ f ∈ l.convertedForce r, |f| ≤ table.fullScale := by
  intro f hf
  rw [LoadUnit.convertedForce, LoadUnit.convert, ht] at hf
  simp only [Option.bind_some, Option.map_map, Option.mem_def, Option.map_eq_some_iff] at hf
  obtain ⟨unclamped, -, rfl⟩ := hf
  exact clampInt_abs_le h

theorem LoadUnit.heldForce_of_unwritten (h : l.tables.get l.activeRange = none) : l.heldForce = none := by
  rw [LoadUnit.heldForce, h]

end

/-! ## Overrange and the reference check (R113, R114, R117) -/

section
variable {s : State} {r : Int}

theorem State.overrangeActs_of_no_test (h : s.seq.state = .idle ∨ s.seq.state = .armed) : s.overrangeActs = s := by
  rw [State.overrangeActs, if_neg]
  rcases h with h | h <;> simp [h, SeqState.inTest, SeqState.underTest]

theorem State.overrangeActs_of_widest (test : s.seq.state.inTest = true) (h : s.load.activeRange = 0) :
    s.overrangeActs = s.reportFault .loadOverrange := by
  rw [State.overrangeActs, if_pos test, if_pos h]

theorem State.overrangeActs_of_narrower (test : s.seq.state.inTest = true) {k : Fin 4}
    (h : s.load.activeRange.val = k.val + 1) :
    s.overrangeActs = { s with
      load := { s.load with activeRange := k, settling := true }
      seq := { s.seq with rangeSwitches := s.seq.rangeSwitches + 1 } } := by
  have wider : widerRange s.load.activeRange = k := by
    revert h
    generalize s.load.activeRange = active
    revert active k
    decide
  have narrower : s.load.activeRange ≠ 0 := fun zero => by simp [zero] at h
  have moves : k ≠ s.load.activeRange := fun same => by rw [same] at h; omega
  rw [State.overrangeActs, if_pos test, if_neg narrower, wider, LoadUnit.setRange_of_ne moves]

theorem State.failTare_of_none (h : s.load.tare = none) : s.failTare = s := by
  rw [State.failTare, h]

theorem State.checkReference_of_unwritten (h : s.load.reference = none) : s.checkReference r = s := by
  rw [State.checkReference, h]

variable {e : ReferenceExpectation} (he : s.load.reference = some e)
include he

theorem State.checkReference_of_within (h : |r - e.expected| ≤ e.tolerance) :
    s.checkReference r = { s with load := { s.load with referenceFault := false } } := by
  rw [Int.abs_eq_natAbs] at h
  rw [State.checkReference, he]
  exact if_neg (by simpa [outOfTolerance] using h)

variable (h : e.tolerance < |r - e.expected|)
include h

theorem State.checkReference_of_outside :
    s.checkReference r = (if s.load.referenceFault = true
      then { s with load := { s.load with referenceFault := true } }
      else { s with load := { s.load with referenceFault := true } }.reportFault .loadReferenceFault).failTare := by
  rw [Int.abs_eq_natAbs] at h
  rw [State.checkReference, he]
  refine (if_pos (by simpa [outOfTolerance] using h)).trans ?_
  cases s.load.referenceFault <;> rfl

/-- A fault found again, or found where the sequencer is told nothing. -/
theorem State.checkReference_of_unreported
    (quiet : s.load.referenceFault = true ∨ s.seq.state = .idle ∨ s.seq.state = .armed) :
    s.checkReference r = State.failTare { s with load := { s.load with referenceFault := true } } := by
  rw [State.checkReference_of_outside he h]
  rcases quiet with fault | quiet
  · rw [if_pos fault]
  · rw [State.reportFault_of_no_test _ (s := { s with load := { s.load with referenceFault := true } }) quiet, ite_self]

theorem State.checkReference_of_reported (clear : s.load.referenceFault = false) (none : s.load.tare = none) :
    s.checkReference r = State.reportFault { s with load := { s.load with referenceFault := true } }
      .loadReferenceFault := by
  rw [State.checkReference_of_outside he h, if_neg (by simp [clear]), State.failTare_of_none (by simpa using none)]

end

/-! ## The slot by its kind -/

section
variable {s : State} {r : Int}

theorem LoadUnit.beginSlot_deliverConverted (l : LoadUnit) : l.beginSlot.deliverConverted r = l.converted r := rfl

theorem State.loadSlot_of_reference (h : s.load.slotNumber + 1 = 0) :
    s.loadSlot r = State.checkReference { s with load := s.load.held } r := by
  simp only [State.loadSlot, LoadUnit.nextKind, LoadUnit.nextSlot, h, if_pos]
  rfl

variable (hn : s.load.slotNumber + 1 ≠ 0)
include hn

theorem State.loadSlot_of_settling (h : s.load.settling = true) : s.loadSlot r = { s with load := s.load.held } := by
  simp only [State.loadSlot, LoadUnit.nextKind, LoadUnit.nextSlot, if_neg hn, h, if_pos]
  rfl

variable (hs : s.load.settling = false)
include hs

theorem State.loadSlot_of_tare {w : TareWalk} (h : s.load.tare = some w) :
    s.loadSlot r = State.tareSlot { s with load := s.load.beginSlot } w r := by
  have walk : s.load.beginSlot.tare = some w := h
  simp only [State.loadSlot, LoadUnit.nextKind, LoadUnit.nextSlot, if_neg hn, hs, Bool.false_eq_true, if_false, walk]

theorem State.loadSlot_of_converted (h : s.load.tare = none) :
    s.loadSlot r = if s.load.overranges r = true then State.overrangeActs { s with load := s.load.converted r }
      else { s with load := s.load.converted r } := by
  have walk : s.load.beginSlot.tare = none := h
  simp only [State.loadSlot, LoadUnit.nextKind, LoadUnit.nextSlot, if_neg hn, hs, Bool.false_eq_true, if_false, walk,
    LoadUnit.beginSlot_deliverConverted]
  rfl

end

/-- Settles O6: the three kinds of slot by their lemmas, then what overrange and the reference check do. -/
theorem overrangeAndReferenceReachTheTest : Obligations.OverrangeAndReferenceReachTheTest := by
  intro s r noTare
  refine ⟨?_, ?_, fun hn hs => State.loadSlot_of_settling hn hs⟩
  · intro table f load exceeds hn hs ht hf hload hexceeds
    rw [← LoadUnit.overranges_iff ht hf] at hexceeds
    have delivered : s.load.converted r = load := by
      simp [hload, LoadUnit.converted, LoadUnit.convertedForce_of_written ht hf, hs]
    have slot := State.loadSlot_of_converted (r := r) hn hs noTare
    rw [delivered] at slot
    have range : load.activeRange = s.load.activeRange := by rw [hload]
    refine ⟨fun quiet => ?_, fun past test => ⟨fun k hk => ?_, fun hk => ⟨fun under => ?_, fun ending => ?_⟩⟩⟩
    · by_cases past : exceeds
      · rw [slot, if_pos (hexceeds.mp past)]
        exact State.overrangeActs_of_no_test (quiet.resolve_left (not_not.mpr past))
      · rw [slot, if_neg (fun o => past (hexceeds.mpr o))]
    · rw [slot, if_pos (hexceeds.mp past)]
      exact State.overrangeActs_of_narrower (s := { s with load := load }) test (range ▸ hk)
    · rw [slot, if_pos (hexceeds.mp past), State.overrangeActs_of_widest (s := { s with load := load }) test (range ▸ hk)]
      exact State.reportFault_of_test (s := { s with load := load }) _ under
    · rw [slot, if_pos (hexceeds.mp past), State.overrangeActs_of_widest (s := { s with load := load }) test (range ▸ hk)]
      exact State.reportFault_of_ending (s := { s with load := load }) _ ending
  · intro e load hn he hload
    have delivered : s.load.held = load := by rw [hload, LoadUnit.held, hn]
    rw [State.loadSlot_of_reference hn, delivered]
    have written : load.reference = some e := by rw [hload]; exact he
    have noWalk : load.tare = none := by rw [hload]; exact noTare
    have fault : load.referenceFault = s.load.referenceFault := by rw [hload]
    refine ⟨State.checkReference_of_within (s := { s with load := load }) written, fun outside => ⟨fun quiet => ?_,
      fun clear => ⟨fun test => ?_, fun ending => ?_⟩⟩⟩
    · rw [State.checkReference_of_unreported (s := { s with load := load }) written outside (fault ▸ quiet),
        State.failTare_of_none noWalk]
    · rw [State.checkReference_of_reported (s := { s with load := load }) written outside (fault ▸ clear) noWalk]
      exact State.reportFault_of_test (s := { s with load := { load with referenceFault := true } }) _ test
    · rw [State.checkReference_of_reported (s := { s with load := load }) written outside (fault ▸ clear) noWalk]
      exact State.reportFault_of_ending (s := { s with load := { load with referenceFault := true } }) _ ending

end Sys2Proof.Machine
end

section
/-! PROOFS. A whole conversion slot (R104, R111): what the part makes of the delivered sample leaves it as it is, and a
slot outside a test and a tare. -/

namespace Sys2Proof.Machine

/-! ## The delivered sample stays (R111) -/

/-- The last sample and the tables stay. -/
def LoadUnit.sampleStays (l m : LoadUnit) : Prop :=
  m.last = l.last ∧ m.tables = l.tables

section
variable {l m n : LoadUnit} {s t : State}

theorem LoadUnit.sampleStays_refl : l.sampleStays l := ⟨rfl, rfl⟩

theorem LoadUnit.sampleStays_trans (h : l.sampleStays m) (k : m.sampleStays n) : l.sampleStays n :=
  ⟨k.1.trans h.1, k.2.trans h.2⟩

theorem LoadUnit.sampleStays_of_eq (h : m = l) : l.sampleStays m := by rw [h]; exact LoadUnit.sampleStays_refl

theorem LoadUnit.setRange_sampleStays (l : LoadUnit) (k : Fin 4) : l.sampleStays (l.setRange k) := by
  rw [LoadUnit.setRange_eq]
  exact LoadUnit.sampleStays_refl

theorem LoadUnit.endTare_sampleStays (l : LoadUnit) (w : TareWalk) : l.sampleStays (l.endTare w) :=
  l.setRange_sampleStays w.returnRange

theorem State.failTare_sampleStays (s : State) : s.load.sampleStays s.failTare.load := by
  rw [State.failTare]
  split
  · exact LoadUnit.sampleStays_refl
  next w _ =>
    simp only [State.addNotice_frame]
    exact s.load.endTare_sampleStays w

theorem State.checkReference_sampleStays (s : State) (r : Int) : s.load.sampleStays (s.checkReference r).load := by
  rw [State.checkReference]
  split
  · exact LoadUnit.sampleStays_refl
  · split
    · dsimp only
      refine LoadUnit.sampleStays_trans ?_ (State.failTare_sampleStays _)
      split
      · simp only [State.reportFault_frame]
        exact LoadUnit.sampleStays_refl
      · exact LoadUnit.sampleStays_refl
    · exact LoadUnit.sampleStays_refl

theorem State.advanceTare_sampleStays (s : State) : s.load.sampleStays s.advanceTare.load := by
  rw [State.advanceTare]
  split
  · exact LoadUnit.sampleStays_refl
  next w _ =>
    split
    · exact LoadUnit.sampleStays_refl
    · split
      · exact s.load.setRange_sampleStays 1
      · exact s.load.setRange_sampleStays 2
      · exact s.load.setRange_sampleStays 3
      · simp only [State.addNotice_frame]
        exact s.load.endTare_sampleStays w

theorem State.tareSlot_sampleStays (s : State) (w : TareWalk) (r : Int) :
    s.load.deliverHeld.sampleStays (s.tareSlot w r).load := by
  rw [State.tareSlot]
  dsimp only
  split
  · exact State.failTare_sampleStays { s with load := s.load.deliverHeld }
  · exact State.advanceTare_sampleStays { s with
      load := { s.load.deliverHeld with tare := some { w with count := w.count + 1, sum := w.sum + r } } }

theorem State.overrangeActs_sampleStays (s : State) : s.load.sampleStays s.overrangeActs.load := by
  rw [State.overrangeActs]
  split
  · split
    · simp only [State.reportFault_frame]
      exact LoadUnit.sampleStays_refl
    · exact s.load.setRange_sampleStays _
  · exact LoadUnit.sampleStays_refl

/-- The sample a slot delivers is held or converted. -/
theorem State.loadSlot_sample (s : State) (r : Int) :
    s.load.held.sampleStays (s.loadSlot r).load ∨ (s.load.converted r).sampleStays (s.loadSlot r).load := by
  by_cases hn : s.load.slotNumber + 1 = 0
  · rw [State.loadSlot_of_reference hn]
    exact .inl (State.checkReference_sampleStays { s with load := s.load.held } r)
  cases hs : s.load.settling with
  | true =>
    rw [State.loadSlot_of_settling hn hs]
    exact .inl LoadUnit.sampleStays_refl
  | false =>
    cases ht : s.load.tare with
    | some w =>
      rw [State.loadSlot_of_tare hn hs ht]
      exact .inl (State.tareSlot_sampleStays { s with load := s.load.beginSlot } w r)
    | none =>
      rw [State.loadSlot_of_converted hn hs ht]
      split
      · exact .inr (State.overrangeActs_sampleStays { s with load := s.load.converted r })
      · exact .inr LoadUnit.sampleStays_refl

theorem State.armHead_sampleStays (s : State) : s.load.sampleStays s.armHead.load := by
  rw [State.armHead]
  split
  · exact LoadUnit.sampleStays_refl
  next b =>
    simp only [State.addNotice_frame, State.sequencerRequests_frame, State.setHeadState_frame]
    exact s.load.setRange_sampleStays _

theorem State.examineHead_sampleStays (s : State) : s.load.sampleStays s.examineHead.load := by
  rw [State.examineHead]
  split
  · exact s.armHead_sampleStays
  · exact LoadUnit.sampleStays_refl

theorem State.linkChanged_sampleStays (s : State) : s.load.sampleStays s.linkChanged.load := by
  rw [State.linkChanged, State.testEnding]
  split
  · rw [State.completeTest]
    split
    next e outcome =>
      refine LoadUnit.sampleStays_trans (LoadUnit.sampleStays_of_eq ?_) (State.examineHead_sampleStays _)
      simp
    · simp only [State.testAttach_frame]
      exact LoadUnit.sampleStays_refl
  · simp only [State.testAttach_frame]
    exact LoadUnit.sampleStays_refl

theorem State.afterLoadEvent_sampleStays (s : State) (before : LoadUnit) :
    s.load.sampleStays (s.afterLoadEvent before).load := by
  rw [State.afterLoadEvent]
  split
  · simp only [State.testGripsStart_frame]
    exact s.examineHead_sampleStays
  · exact LoadUnit.sampleStays_refl

/-- The sample a whole slot delivers. -/
theorem State.conversionSlot_sample (s : State) (r : Int) :
    s.load.held.sampleStays (s.conversionSlot r).load
      ∨ (s.load.converted r).sampleStays (s.conversionSlot r).load := by
  have rest : (s.countDuration.countStaleness.loadSlot r).load.sampleStays (s.conversionSlot r).load := by
    rw [State.conversionSlot]
    refine LoadUnit.sampleStays_trans ?_ (State.afterLoadEvent_sampleStays _ _)
    refine LoadUnit.sampleStays_trans (LoadUnit.sampleStays_of_eq ?_) (State.linkChanged_sampleStays _)
    simp
  have sample := s.countDuration.countStaleness.loadSlot_sample r
  simp only [State.countStaleness_frame, State.countDuration_frame] at sample
  exact sample.imp (LoadUnit.sampleStays_trans · rest) (LoadUnit.sampleStays_trans · rest)

end

theorem exec_conversionSlot {s : State} (h : s.power = .running) (r : Word24) :
    exec (.conversionSlot r) s = .next (s.conversionSlot r.toInt) :=
  congrArg Host.Outcome.next (State.whenRunning_of_running h _)

/-- Settles O33: the delivered force is the held or the converted one, both clamped, and stays to the end of the
slot. -/
theorem forceStaysWithinFullScale : Obligations.ForceStaysWithinFullScale := by
  intro s t r hp h
  rw [exec_conversionSlot hp] at h
  obtain rfl := Host.Outcome.next.inj h
  rcases s.conversionSlot_sample r.toInt with ⟨last, tables⟩ | ⟨last, tables⟩
  · rw [last]
    exact ⟨rfl, tables, fun none => LoadUnit.heldForce_of_unwritten none, fun table ht scale =>
      LoadUnit.heldForce_le ht scale⟩
  · rw [last]
    exact ⟨rfl, tables, fun none => LoadUnit.convertedForce_of_unwritten none, fun table ht scale =>
      LoadUnit.convertedForce_le ht scale⟩

/-! ## A slot outside a test (R104, R133) -/

section
variable {s : State}

theorem State.countDuration_of_no_test (h : s.seq.state.underTest = false) : s.countDuration = s := by
  rw [State.countDuration, if_neg (by simp [h])]

/-- The delivery counts a sample of a STREAMING link below the limit (R133). -/
theorem State.countStaleness_of_fresh (h : s.link.state = .streaming → s.link.staleness + 1 < 8) :
    s.countStaleness = { s with link := { s.link with
      staleness := if s.link.state = .streaming then s.link.staleness + 1 else s.link.staleness } } := by
  rw [State.countStaleness]
  split
  next streaming =>
    exact if_neg (not_le.mpr (h streaming))
  next elsewhere => rfl

theorem State.sampleTest_of_idle (h : s.seq.state = .idle) : s.sampleTest = s := by
  rw [State.sampleTest, h]
  cases s.load.last.force <;> cases s.headProgram <;> simp [State.absentSample, h]

theorem State.sampleTest_of_armed (h : s.seq.state = .armed) : s.sampleTest = s.seqWrite 0 := by
  rw [State.sampleTest, h]

theorem State.linkChanged_of_no_test (h : s.seq.state = .idle ∨ s.seq.state = .armed) : s.linkChanged = s := by
  have attach : s.seq.state ≠ .attach := by rcases h with h | h <;> simp [h]
  have ending : s.seq.state ≠ .ending := by rcases h with h | h <;> simp [h]
  rw [State.linkChanged, State.testAttach_of_not_attach attach, State.testEnding_of_not_ending ending]

theorem State.examineHead_of_not_ready (h : ¬ s.autoArmReady = true) : s.examineHead = s :=
  if_neg h

/-- No event of the load unit has happened. -/
theorem State.afterLoadEvent_of_none {before : LoadUnit} (tare : before.tare = none ∨ s.load.tare ≠ none)
    (fault : before.referenceFault = true → s.load.referenceFault = true) : s.afterLoadEvent before = s := by
  rw [State.afterLoadEvent, if_neg]
  rintro (⟨began, ended⟩ | ⟨was, clear⟩)
  · rcases tare with none | on
    · simp [none] at began
    · exact on (Option.isNone_iff_eq_none.mp ended)
  · exact clear (fault was)

/-- With auto-arm OFF and no head armed the events of the load unit start nothing. -/
theorem State.afterLoadEvent_of_off (before : LoadUnit) (idle : s.seq.state = .idle) (off : s.seq.autoArm = false) :
    s.afterLoadEvent before = s := by
  have examined : s.examineHead = s := State.examineHead_of_not_ready (by simp [State.autoArmReady, off])
  rw [State.afterLoadEvent, examined, State.testGripsStart_of_not_ready (by simp [State.gripsStartReady, idle]), ite_self]

/-- What the load unit makes of a slot outside a test and a tare. -/
def LoadUnit.judged (l : LoadUnit) (r : Int) : LoadUnit :=
  if l.slotNumber + 1 = 0 then
    { l.held with referenceFault := (l.reference.map (outOfTolerance · r)).getD l.referenceFault }
  else if l.settling then l.held else l.converted r

theorem State.loadSlot_of_quiet (idle : s.seq.state = .idle) (tare : s.load.tare = none) (r : Int) :
    s.loadSlot r = { s with load := s.load.judged r } := by
  rw [LoadUnit.judged]
  by_cases hn : s.load.slotNumber + 1 = 0
  · rw [if_pos hn, State.loadSlot_of_reference hn]
    cases he : s.load.reference with
    | none => exact State.checkReference_of_unwritten (s := { s with load := s.load.held }) he
    | some e =>
      rcases le_or_gt |r - e.expected| e.tolerance with h | h
      · have within : outOfTolerance e r = false := by
          rw [Int.abs_eq_natAbs] at h
          simpa [outOfTolerance] using h
        rw [State.checkReference_of_within (s := { s with load := s.load.held }) he h, Option.map_some, within]
        rfl
      · have outside : outOfTolerance e r = true := by
          rw [Int.abs_eq_natAbs] at h
          simpa [outOfTolerance] using h
        have judged := State.checkReference_of_unreported (s := { s with load := s.load.held }) he h (.inr (.inl idle))
        have noWalk := State.failTare_of_none (s := { s with load := { s.load.held with referenceFault := true } }) tare
        rw [Option.map_some, outside]
        exact judged.trans noWalk
  · rw [if_neg hn]
    cases hs : s.load.settling with
    | true => rw [State.loadSlot_of_settling hn hs, if_pos rfl]
    | false =>
      rw [State.loadSlot_of_converted hn hs tare, if_neg Bool.false_ne_true,
        State.overrangeActs_of_no_test (s := { s with load := s.load.converted r }) (.inl idle), ite_self]

end

/-- Settles O32: the parts of a slot one after the other, most of them without effect in IDLE. -/
theorem conversionSlotDeliversOneSample : Obligations.ConversionSlotDeliversOneSample := by
  intro s r hp idle off tare fresh
  have slot : s.conversionSlot r.toInt = { s with
      load := s.load.judged r.toInt
      link := { s.link with
        staleness := if s.link.state = .streaming then s.link.staleness + 1 else s.link.staleness } } := by
    rw [State.conversionSlot, State.countDuration_of_no_test (by rw [idle]; rfl), State.countStaleness_of_fresh fresh]
    dsimp only
    rw [State.loadSlot_of_quiet (by exact idle) (by exact tare), State.sampleTest_of_idle (by exact idle),
      State.linkChanged_of_no_test (.inl (by exact idle)), State.afterLoadEvent_of_off _ (by exact idle) (by exact off)]
  refine ⟨_, (exec_conversionSlot hp r).trans (by rw [slot]), ?_, fun hn => ?_, fun hn he => ?_, fun hn e he => ?_,
    fun held => ?_, fun hn hs => ⟨fun none => ?_, fun table f ht hf => ?_⟩⟩
  · simp only [LoadUnit.judged]
    split_ifs <;> rfl
  · simp only [LoadUnit.judged, if_neg hn]
    split_ifs <;> rfl
  · simp only [LoadUnit.judged, if_pos hn, he]
    rfl
  · simp only [LoadUnit.judged, if_pos hn, he, Int.abs_eq_natAbs]
    simp [outOfTolerance]
  · simp only [LoadUnit.judged]
    rcases held with hn | hs
    · rw [if_pos hn]
      rfl
    · simp only [hs, if_true]
      split_ifs <;> rfl
  · simp only [LoadUnit.judged, if_neg hn, hs, Bool.false_eq_true, if_false, LoadUnit.converted,
      LoadUnit.convertedForce_of_unwritten none]
  · simp only [LoadUnit.judged, if_neg hn, hs, Bool.false_eq_true, if_false, LoadUnit.converted,
      LoadUnit.convertedForce_of_written ht hf]

end Sys2Proof.Machine
end

section
/-! PROOFS. The tare walk (R119 to R121): its ranges, its commit and its failure, in a slot and by its own events. -/

namespace Sys2Proof.Machine

/-! ## The walk at the load unit -/

section
variable {s : State} {w : TareWalk} {r : Int}

/-- The load unit when the walk goes on to range `k` (R115, R119). -/
theorem LoadUnit.nextTareRange_eq (l : LoadUnit) (w : TareWalk) (k : Fin 4) :
    l.nextTareRange w k = { l with
      activeRange := k
      settling := l.settling || k != l.activeRange
      tare := some { w with range := k, count := 0, sum := 0, found := w.found ++ [roundDiv w.sum 64] } } := by
  rw [LoadUnit.nextTareRange, LoadUnit.setRange_eq, bne_comm]
  rfl

theorem LoadUnit.endTare_eq (l : LoadUnit) (w : TareWalk) :
    l.endTare w = { l with
      activeRange := w.returnRange, settling := l.settling || w.returnRange != l.activeRange, tare := none } := by
  rw [LoadUnit.endTare, LoadUnit.setRange_eq, bne_comm]

theorem LoadUnit.commitTare_eq (l : LoadUnit) {w : TareWalk} {a b c : Int} (h : w.found = [a, b, c]) :
    l.commitTare w = { l with
      offsets := ⟨a, b, c, roundDiv w.sum 64⟩
      activeRange := w.returnRange, settling := l.settling || w.returnRange != l.activeRange, tare := none } := by
  rw [LoadUnit.commitTare, LoadUnit.endTare_eq, h]
  rfl

theorem State.failTare_of_walk (h : s.load.tare = some w) :
    s.failTare = State.addNotice { s with load := s.load.endTare w } .console .tareFailed := by
  rw [State.failTare, h]

theorem State.advanceTare_of_counting (h : s.load.tare = some w) (few : w.count < 64) : s.advanceTare = s := by
  rw [State.advanceTare, h]
  exact if_pos few

theorem State.advanceTare_of_next (h : s.load.tare = some w) (done : 64 ≤ w.count) {k : Fin 4}
    (hk : k.val = w.range.val + 1) : s.advanceTare = { s with load := s.load.nextTareRange w k } := by
  rw [State.advanceTare, h]
  refine (if_neg (not_lt.mpr done)).trans ?_
  split
  next zero => rw [show k = 1 from Fin.ext (by simp [hk, zero])]
  next one => rw [show k = 2 from Fin.ext (by simp [hk, one])]
  next two => rw [show k = 3 from Fin.ext (by simp [hk, two])]
  next three =>
    rw [three] at hk
    exact absurd k.isLt (by omega)

theorem State.advanceTare_of_last (h : s.load.tare = some w) (done : 64 ≤ w.count) (last : w.range = 3) :
    s.advanceTare = State.addNotice { s with load := s.load.commitTare w } .console .tareDone := by
  rw [State.advanceTare, h]
  refine (if_neg (not_lt.mpr done)).trans ?_
  rw [last]

theorem State.tareSlot_of_saturated (h : r = 8388607 ∨ r = -8388608) :
    s.tareSlot w r = State.failTare { s with load := s.load.deliverHeld } :=
  if_pos (by simpa [saturated] using h)

theorem State.tareSlot_of_counted (h : r ≠ 8388607) (h' : r ≠ -8388608) :
    s.tareSlot w r = State.advanceTare { s with
      load := { s.load.deliverHeld with tare := some { w with count := w.count + 1, sum := w.sum + r } } } :=
  if_neg (by simp [saturated, h, h'])

end

/-! ## The slot outside a test (R25, R133) -/

section
variable {s : State}

/-- The drive when a slot ends in IDLE or ARMED: in ARMED a holding SEQUENCER has written 0 (R25). -/
def State.restedDrive (s : State) : Drive :=
  if s.seq.state = .armed ∧ s.arbiter.holder = some .sequencer then
    { s.drive with generator := none, buffer := none, velocity := 0, source := .sequencer } else s.drive

/-- The link when a slot has delivered its sample (R133). -/
def ExtLink.counted (l : ExtLink) : ExtLink :=
  { l with staleness := if l.state = .streaming then l.staleness + 1 else l.staleness }

theorem State.sampleTest_of_no_test (h : s.seq.state = .idle ∨ s.seq.state = .armed) (hv : 0 ≤ s.drive.config.vmax) :
    s.sampleTest = { s with drive := s.restedDrive } := by
  rw [State.restedDrive]
  rcases h with h | h
  · rw [State.sampleTest_of_idle h, if_neg (by simp [h])]
  · rw [State.sampleTest_of_armed h]
    by_cases hh : s.arbiter.holder = some .sequencer
    · rw [State.seqWrite_zero hh hv, if_pos ⟨h, hh⟩]
    · rw [State.seqWrite, if_neg hh, if_neg (fun both => hh both.2)]

/-- A slot in IDLE or ARMED, the load unit's part given. -/
theorem State.conversionSlot_of_no_test (h : s.seq.state = .idle ∨ s.seq.state = .armed)
    (hv : 0 ≤ s.drive.config.vmax) (fresh : s.link.state = .streaming → s.link.staleness + 1 < 8) {r : Int}
    {ports : PerRole Port} {load : LoadUnit}
    (slot : State.loadSlot { s with link := s.link.counted } r
      = { s with ports := ports, load := load, link := s.link.counted }) :
    s.conversionSlot r = State.afterLoadEvent { s with
      ports := ports, drive := s.restedDrive, load := load, link := s.link.counted } s.load := by
  have duration : s.countDuration = s :=
    State.countDuration_of_no_test (by rcases h with h | h <;> rw [h] <;> rfl)
  have counted : s.countStaleness = { s with link := s.link.counted } := State.countStaleness_of_fresh fresh
  have sample := State.sampleTest_of_no_test
    (s := { s with ports := ports, load := load, link := s.link.counted }) h hv
  have waits := State.linkChanged_of_no_test
    (s := { s with ports := ports, drive := s.restedDrive, load := load, link := s.link.counted }) h
  rw [State.conversionSlot, duration, counted, slot, sample]
  exact congrArg (State.afterLoadEvent · s.load) waits

/-- A tare in flight and a reference fault keep auto-arm and the grips start waiting (R27, R33). -/
theorem State.starts_of_blocked (h : s.load.tare ≠ none ∨ s.load.referenceFault = true) :
    s.examineHead.testGripsStart = s := by
  have unexamined : s.examineHead = s := State.examineHead_of_not_ready (by
    rw [State.autoArmReady_iff]
    rintro ⟨-, -, -, -, -, -, -, clear, free, -⟩
    rcases h with walk | fault
    · exact walk free
    · simp [clear] at fault)
  rw [unexamined, State.testGripsStart_of_not_ready]
  simp only [State.gripsStartReady, Bool.and_eq_true]
  rintro ⟨⟨-, free⟩, clear⟩
  rcases h with walk | fault
  · exact walk (Option.isNone_iff_eq_none.mp free)
  · simp [fault] at clear

theorem State.afterLoadEvent_of_blocked (before : LoadUnit)
    (h : s.load.tare ≠ none ∨ s.load.referenceFault = true) : s.afterLoadEvent before = s := by
  rw [State.afterLoadEvent, State.starts_of_blocked h, ite_self]

theorem State.afterLoadEvent_of_tareEnd {before : LoadUnit} {w : TareWalk} (began : before.tare = some w)
    (ended : s.load.tare = none) : s.afterLoadEvent before = s.examineHead.testGripsStart :=
  if_pos (.inl ⟨by rw [began]; rfl, by rw [ended]; rfl⟩)

/-- A slot that ends neither the walk nor the wait for the reference. -/
theorem State.conversionSlot_of_walk (h : s.seq.state = .idle ∨ s.seq.state = .armed)
    (hv : 0 ≤ s.drive.config.vmax) (fresh : s.link.state = .streaming → s.link.staleness + 1 < 8) {r : Int}
    {ports : PerRole Port} {load : LoadUnit}
    (slot : State.loadSlot { s with link := s.link.counted } r
      = { s with ports := ports, load := load, link := s.link.counted })
    (blocked : load.tare ≠ none ∨ load.referenceFault = true) :
    s.conversionSlot r = { s with
      ports := ports, drive := s.restedDrive, load := load, link := s.link.counted } := by
  rw [State.conversionSlot_of_no_test h hv fresh slot]
  exact State.afterLoadEvent_of_blocked _ blocked

/-- A slot that ends the walk. -/
theorem State.conversionSlot_of_tareEnd (h : s.seq.state = .idle ∨ s.seq.state = .armed)
    (hv : 0 ≤ s.drive.config.vmax) (fresh : s.link.state = .streaming → s.link.staleness + 1 < 8) {r : Int}
    {ports : PerRole Port} {load : LoadUnit} {w : TareWalk}
    (slot : State.loadSlot { s with link := s.link.counted } r
      = { s with ports := ports, load := load, link := s.link.counted })
    (began : s.load.tare = some w) (ended : load.tare = none) :
    s.conversionSlot r = (State.examineHead { s with
      ports := ports, drive := s.restedDrive, load := load, link := s.link.counted }).testGripsStart := by
  rw [State.conversionSlot_of_no_test h hv fresh slot]
  exact State.afterLoadEvent_of_tareEnd began ended

end

/-! ## The kinds of slot in the walk -/

section
variable {s : State} {w : TareWalk} {r : Int} (tare : s.load.tare = some w)
include tare

section
variable (hn : s.load.slotNumber + 1 ≠ 0) (hs : s.load.settling = false)
include hn hs

/-- A count added to the walk. -/
theorem State.loadSlot_of_counted (h : r ≠ 8388607) (h' : r ≠ -8388608) :
    s.loadSlot r = State.advanceTare { s with
      load := { s.load.held with tare := some { w with count := w.count + 1, sum := w.sum + r } } } :=
  (State.loadSlot_of_tare hn hs tare).trans (State.tareSlot_of_counted h h')

theorem State.loadSlot_of_saturated (h : r = 8388607 ∨ r = -8388608) :
    s.loadSlot r = State.addNotice { s with load := s.load.held.endTare w } .console .tareFailed := by
  rw [State.loadSlot_of_tare hn hs tare, State.tareSlot_of_saturated h]
  exact State.failTare_of_walk (s := { s with load := s.load.held }) tare

end

theorem State.loadSlot_of_bad_reference (quiet : s.seq.state = .idle ∨ s.seq.state = .armed)
    (hn : s.load.slotNumber + 1 = 0) {e : ReferenceExpectation} (he : s.load.reference = some e)
    (h : e.tolerance < |r - e.expected|) :
    s.loadSlot r = State.addNotice { s with load := LoadUnit.endTare { s.load.held with referenceFault := true } w }
      .console .tareFailed := by
  rw [State.loadSlot_of_reference hn]
  exact (State.checkReference_of_unreported (s := { s with load := s.load.held }) he h (.inr quiet)).trans
    (State.failTare_of_walk (s := { s with load := { s.load.held with referenceFault := true } }) tare)

end

theorem exec_tareRangeComplete {s : State} {w : TareWalk} (hp : s.power = .running) (tare : s.load.tare = some w) :
    exec .tareRangeComplete s = .next (if w.range = 3 then s else s.advanceTare) := by
  rw [exec, execTareRangeComplete, State.whenRunning_of_running hp, tare]

theorem exec_tareCommit {s : State} {w : TareWalk} (hp : s.power = .running) (tare : s.load.tare = some w) :
    exec .tareCommit s = .next (if w.range = 3 then s.advanceTare.afterLoadEvent s.load else s) := by
  rw [exec, execTareCommit, State.whenRunning_of_running hp, tare]

/-- Settles O31: each kind of slot by the load unit's part of it, and the two events of the walk. -/
theorem tareWalksTheRangesAndCommits : Obligations.TareWalksTheRangesAndCommits := by
  rintro s w drive link load hp quiet tare hv fresh rfl rfl rfl
  let t : State := { s with link := s.link.counted }
  let next (r : Word24) : TareWalk := { w with count := w.count + 1, sum := w.sum + r.toInt }
  refine ⟨fun r hn hs => ⟨fun h h' => ⟨fun few => ?_, fun done k hk => ?_, fun done last a b c found => ?_⟩,
    fun sat => ?_⟩, fun r hn hs => ?_, fun r hn => ⟨fun he => ?_, fun e he => ⟨fun inside => ?_, fun outside => ?_⟩⟩,
    fun done k hk => ?_, fun few => ⟨?_, ?_⟩, fun done last a b c found => ?_⟩
  · have slot := State.loadSlot_of_counted (s := t) tare hn hs h h'
    rw [State.advanceTare_of_counting (w := next r) rfl few] at slot
    rw [exec_conversionSlot hp, State.conversionSlot_of_walk quiet hv fresh slot (.inl (Option.some_ne_none _))]
    rfl
  · have slot := State.loadSlot_of_counted (s := t) tare hn hs h h'
    rw [State.advanceTare_of_next (w := next r) rfl done hk, LoadUnit.nextTareRange_eq] at slot
    rw [exec_conversionSlot hp, State.conversionSlot_of_walk quiet hv fresh slot (.inl (Option.some_ne_none _))]
    rfl
  · have slot := State.loadSlot_of_counted (s := t) tare hn hs h h'
    rw [State.advanceTare_of_last (w := next r) rfl done last, LoadUnit.commitTare_eq _ (by exact found)] at slot
    refine ⟨_, (exec_conversionSlot hp r).trans (congrArg Host.Outcome.next
      (State.conversionSlot_of_tareEnd quiet hv fresh slot tare rfl)), rfl, ?_⟩
    exact State.addNotice_notices s .console .console .tareDone
  · have slot := State.loadSlot_of_saturated (s := t) tare hn hs sat
    rw [LoadUnit.endTare_eq] at slot
    refine ⟨_, (exec_conversionSlot hp r).trans (congrArg Host.Outcome.next
      (State.conversionSlot_of_tareEnd quiet hv fresh slot tare rfl)), rfl, ?_⟩
    exact State.addNotice_notices s .console .console .tareFailed
  · have slot := State.loadSlot_of_settling (s := t) (r := r.toInt) hn hs
    rw [exec_conversionSlot hp, State.conversionSlot_of_walk quiet hv fresh slot
      (.inl (by simp [LoadUnit.held, t, tare]))]
    rfl
  · have slot := State.loadSlot_of_reference (s := t) (r := r.toInt) hn
    rw [State.checkReference_of_unwritten (by exact he)] at slot
    rw [exec_conversionSlot hp, State.conversionSlot_of_walk quiet hv fresh slot
      (.inl (by simp [LoadUnit.held, t, tare]))]
    rfl
  · have slot := State.loadSlot_of_reference (s := t) (r := r.toInt) hn
    rw [State.checkReference_of_within (by exact he) inside] at slot
    rw [exec_conversionSlot hp, State.conversionSlot_of_walk quiet hv fresh slot
      (.inl (by simp [LoadUnit.held, t, tare]))]
    rfl
  · have slot := State.loadSlot_of_bad_reference (s := t) tare quiet hn he outside
    rw [LoadUnit.endTare_eq] at slot
    refine ⟨_, (exec_conversionSlot hp r).trans (congrArg Host.Outcome.next
      (State.conversionSlot_of_walk quiet hv fresh slot (.inr rfl))), rfl, ?_⟩
    exact State.addNotice_notices s .console .console .tareFailed
  · have notLast : w.range ≠ 3 := fun last => by
      rw [last] at hk
      exact absurd k.isLt (by omega)
    rw [exec_tareRangeComplete hp tare, if_neg notLast, State.advanceTare_of_next tare done hk,
      LoadUnit.nextTareRange_eq]
  · rw [exec_tareRangeComplete hp tare, State.advanceTare_of_counting tare few, ite_self]
  · rw [exec_tareCommit hp tare, State.advanceTare_of_counting tare few,
      State.afterLoadEvent_of_blocked _ (.inl (by simp [tare])), ite_self]
  · have commit := State.advanceTare_of_last tare done last
    rw [LoadUnit.commitTare_eq _ found] at commit
    have result := exec_tareCommit hp tare
    rw [if_pos last, commit] at result
    exact ⟨_, result.trans (congrArg Host.Outcome.next (State.afterLoadEvent_of_tareEnd tare rfl)), rfl,
      State.addNotice_notices s .console .console .tareDone⟩

end Sys2Proof.Machine
end

section
/-! PROOFS. WRITE_CALIBRATION, WRITE_REFERENCE and WRITE_FRAME_CONSTANTS (R67, R105 to R107): the checks in their order,
and what a written table keeps. -/

namespace Sys2Proof.Machine

/-! ## The tables by their ranges (R105) -/

@[simp] theorem PerRange.get_set_self {α : Type} (x : PerRange α) (k : Fin 4) (v : α) : (x.set k v).get k = v := by
  revert k
  simp [Fin.forall_fin_succ, PerRange.get, PerRange.set]

theorem PerRange.get_set_of_ne {α : Type} (x : PerRange α) {j k : Fin 4} (h : j ≠ k) (v : α) :
    (x.set k v).get j = x.get j := by
  revert h
  revert j k
  simp [Fin.forall_fin_succ, PerRange.get, PerRange.set]

/-- The full scales fall from range 0 to range 3 (R105). -/
def scalesFall (tables : PerRange (Option RangeTable)) : Prop :=
  ∀ a b : Fin 4, a < b → ∀ x ∈ tables.get a, ∀ y ∈ tables.get b, y.fullScale < x.fullScale

section
variable {tables : PerRange (Option RangeTable)} {k : Fin 4} {fs : Int}

theorem fullScaleFits_iff : fullScaleFits tables k fs = true ↔
    ∀ j, ∀ t ∈ tables.get j, (j < k → fs < t.fullScale) ∧ (k < j → t.fullScale < fs) := by
  rw [fullScaleFits, List.all_eq_true]
  refine ⟨fun h j t ht => ?_, fun h j _ => ?_⟩
  · have fits := h j (List.mem_finRange j)
    rw [ht] at fits
    refine ⟨fun wider => by simpa [wider] using fits, fun narrower => ?_⟩
    simpa [narrower, not_lt.mpr narrower.le] using fits
  · cases ht : tables.get j with
    | none => rfl
    | some t =>
      obtain ⟨wider, narrower⟩ := h j t ht
      dsimp only
      split_ifs with below above
      · exact decide_eq_true (wider below)
      · exact decide_eq_true (narrower above)
      · rfl

/-- A table whose full scale fits keeps the full scales falling. -/
theorem scalesFall_set {t : RangeTable} (fits : fullScaleFits tables k t.fullScale = true) (h : scalesFall tables) :
    scalesFall (tables.set k (some t)) := by
  rw [fullScaleFits_iff] at fits
  intro a b less x hx y hy
  by_cases ha : a = k
  · have hb : b ≠ k := fun hb => by rw [ha, hb] at less; exact lt_irrefl _ less
    rw [ha, PerRange.get_set_self] at hx
    rw [PerRange.get_set_of_ne _ hb] at hy
    rw [← Option.some.inj hx]
    exact (fits b y hy).2 (ha ▸ less)
  · rw [PerRange.get_set_of_ne _ ha] at hx
    by_cases hb : b = k
    · rw [hb, PerRange.get_set_self] at hy
      rw [← Option.some.inj hy]
      exact (fits a x hx).1 (hb ▸ less)
    · rw [PerRange.get_set_of_ne _ hb] at hy
      exact h a b less x hx y hy

end

/-! ## The checks of a table (R106) -/

/-- One point lies below another in count and force. -/
def pointBelow (x y : Int × Int) : Prop := x.1 < y.1 ∧ x.2 < y.2

/-- Points that pass their checks rise, all of them above the point before the first. -/
theorem points_rise : ∀ (points : List (Int × Int)) (i : Nat) (before : Option (Int × Int)),
    lowestFailing (pointChecks i before points) = none →
      points.Pairwise pointBelow ∧ ∀ q ∈ before, ∀ p ∈ points, pointBelow q p
  | [], _, _, _ => ⟨.nil, by simp⟩
  | (c, f) :: rest, i, before, h => by
    rw [lowestFailing_eq_none_iff] at h
    simp only [pointChecks, List.forall_mem_cons, Bool.and_eq_true] at h
    obtain ⟨⟨-, count⟩, ⟨-, force⟩, others⟩ := h
    obtain ⟨rise, above⟩ := points_rise rest (i + 1) (some (c, f)) ((lowestFailing_eq_none_iff _).mpr others)
    refine ⟨List.pairwise_cons.mpr ⟨above (c, f) rfl, rise⟩, fun q hq => ?_⟩
    obtain rfl : before = some q := hq
    have first : pointBelow q (c, f) := ⟨of_decide_eq_true count, of_decide_eq_true force⟩
    refine List.forall_mem_cons.mpr ⟨first, fun p hp => ?_⟩
    obtain ⟨count', force'⟩ := above (c, f) rfl p hp
    exact ⟨first.1.trans count', first.2.trans force'⟩

/-- What the checks of a WRITE_CALIBRATION body make sure of. -/
theorem calibrationFailure_eq_none {tables : PerRange (Option RangeTable)} {b : List Octet}
    (h : calibrationFailure tables b = none) :
    field1 b 0 ≤ 3 ∧ fullScaleFits tables (rangeOfNat (field1 b 0)) (field4 b 1) = true
      ∧ (pointsOfOctets b (field1 b 5)).Pairwise pointBelow := by
  rw [calibrationFailure, lowestFailing_eq_none_iff] at h
  simp only [List.forall_mem_append, List.forall_mem_cons, Bool.and_eq_true, decide_eq_true_eq] at h
  obtain ⟨⟨range, ⟨-, fits⟩, -⟩, points⟩ := h
  exact ⟨range, fits, (points_rise _ _ _ ((lowestFailing_eq_none_iff _).mpr points)).1⟩

/-! ## The requests -/

section
variable {s : State}

theorem State.calibrationBlocked_of_not_idle (h : s.seq.state ≠ .idle) : s.calibrationBlocked = some .wrongState :=
  if_pos h

theorem State.calibrationBlocked_of_busy (idle : s.seq.state = .idle)
    (h : s.load.tare.isSome = true ∨ s.config.inFlight.isSome = true) : s.calibrationBlocked = some .busy := by
  rw [State.calibrationBlocked, if_neg (by simp [idle])]
  rcases h with walk | store
  · rw [if_pos walk]
  · rw [if_pos store, ite_self]

theorem State.calibrationBlocked_of_free (idle : s.seq.state = .idle) (walk : s.load.tare = none)
    (store : s.config.inFlight = none) : s.calibrationBlocked = none := by
  simp [State.calibrationBlocked, idle, walk, store]

variable (ht : s.takes .console = true)
include ht

section
variable {body : List Octet} (lower : 6 ≤ body.length) (upper : body.length ≤ 70)
include lower upper

theorem writeCalibration_reaches_load (own : State → State) :
    s.sizedRequest .console .writeCalibration body.length own = own s :=
  State.sizedRequest_of_takes own ht rfl (by simp [RequestKind.lengthAllowed, RequestKind.row, lower, upper])

theorem exec_writeCalibration_of_blocked {st : Status} (h : s.calibrationBlocked = some st) :
    exec (.writeCalibration .console body) s = .next (s.answer .console .writeCalibration st []) := by
  rw [exec, execWriteCalibration, writeCalibration_reaches_load ht lower upper, h]
  rfl

variable (free : s.calibrationBlocked = none)
include free

theorem exec_writeCalibration_of_failure {i : Nat} (h : calibrationFailure s.load.tables body = some i) :
    exec (.writeCalibration .console body) s
      = .next (s.answer .console .writeCalibration .invalidField [BitVec.ofNat 8 i]) := by
  rw [exec, execWriteCalibration, writeCalibration_reaches_load ht lower upper, free]
  dsimp only
  rw [h]
  rfl

theorem exec_writeCalibration_of_passes {table : RangeTable} {load : LoadUnit}
    (h : calibrationFailure s.load.tables body = none)
    (written : table = ⟨field4 body 1, pointsOfOctets body (field1 body 5)⟩)
    (hl : load = { s.load with tables := s.load.tables.set (rangeOfNat (field1 body 0)) (some table) }) :
    exec (.writeCalibration .console body) s = .next (State.answer { s with load := load } .console .writeCalibration
      .ok [if load.calibrationValid then 1 else 0]).examineHead := by
  rw [exec, execWriteCalibration, writeCalibration_reaches_load ht lower upper, free, hl, written]
  dsimp only
  rw [h]
  rfl

end

section
variable {expected tolerance : Word32}

theorem writeReference_reaches_load (own : State → State) : s.request .console .writeReference own = own s :=
  State.request_of_takes .writeReference own ht (by decide)

theorem exec_writeReference_of_blocked {st : Status} (h : s.calibrationBlocked = some st) :
    exec (.writeReference .console expected tolerance) s = .next (s.answer .console .writeReference st []) := by
  rw [exec, execWriteReference, writeReference_reaches_load ht, h]
  rfl

variable (free : s.calibrationBlocked = none)
include free

theorem exec_writeReference_of_bad_expected (h : expected.toInt < -8388608 ∨ 8388607 < expected.toInt) :
    exec (.writeReference .console expected tolerance) s
      = .next (s.answer .console .writeReference .invalidField [1]) := by
  have bad := (within_eq_false_iff (-8388608) 8388607 expected.toInt).mpr h
  rw [exec, execWriteReference, writeReference_reaches_load ht, free]
  simp [bad, State.refuseField]
  rfl

variable (lo : -8388608 ≤ expected.toInt) (hi : expected.toInt ≤ 8388607)
include lo hi

theorem exec_writeReference_of_bad_tolerance (h : tolerance.toInt < 1 ∨ 1000000 < tolerance.toInt) :
    exec (.writeReference .console expected tolerance) s
      = .next (s.answer .console .writeReference .invalidField [2]) := by
  have good := (within_eq_true_iff (-8388608) 8388607 expected.toInt).mpr ⟨lo, hi⟩
  have bad := (within_eq_false_iff 1 1000000 tolerance.toInt).mpr h
  rw [exec, execWriteReference, writeReference_reaches_load ht, free]
  simp [good, bad, State.refuseField]
  rfl

theorem exec_writeReference_of_passes (lo' : 1 ≤ tolerance.toInt) (hi' : tolerance.toInt ≤ 1000000) {load : LoadUnit}
    (hl : load = { s.load with reference := some ⟨expected.toInt, tolerance.toInt⟩ }) :
    exec (.writeReference .console expected tolerance) s = .next (State.answer { s with load := load } .console
      .writeReference .ok [if load.calibrationValid then 1 else 0]).examineHead := by
  have good := (within_eq_true_iff (-8388608) 8388607 expected.toInt).mpr ⟨lo, hi⟩
  have good' := (within_eq_true_iff 1 1000000 tolerance.toInt).mpr ⟨lo', hi'⟩
  rw [exec, execWriteReference, writeReference_reaches_load ht, free, hl]
  simp [good, good', flag1]

end

section
variable {compliance datum : Word32}

theorem writeFrameConstants_reaches_strain (own : State → State) :
    s.request .console .writeFrameConstants own = own s :=
  State.request_of_takes .writeFrameConstants own ht (by decide)

theorem exec_writeFrameConstants_of_not_idle (h : s.seq.state ≠ .idle) :
    exec (.writeFrameConstants .console compliance datum) s
      = .next (s.answer .console .writeFrameConstants .wrongState []) := by
  rw [exec, execWriteFrameConstants, writeFrameConstants_reaches_strain ht, if_pos h, State.refuse]

variable (idle : s.seq.state = .idle)
include idle

theorem exec_writeFrameConstants_of_store (h : s.config.inFlight.isSome = true) :
    exec (.writeFrameConstants .console compliance datum) s
      = .next (s.answer .console .writeFrameConstants .busy []) := by
  rw [exec, execWriteFrameConstants, writeFrameConstants_reaches_strain ht, if_neg (by simp [idle]), if_pos h,
    State.refuse]

variable (store : s.config.inFlight = none)
include store

theorem exec_writeFrameConstants_of_bad_compliance (h : compliance.toInt < 0 ∨ 65535 < compliance.toInt) :
    exec (.writeFrameConstants .console compliance datum) s
      = .next (s.answer .console .writeFrameConstants .invalidField [1]) := by
  have bad := (within_eq_false_iff 0 65535 compliance.toInt).mpr h
  rw [exec, execWriteFrameConstants, writeFrameConstants_reaches_strain ht, if_neg (by simp [idle]),
    if_neg (by simp [store]), if_pos (by simp [bad])]
  rfl

theorem exec_writeFrameConstants_of_passes (lo : 0 ≤ compliance.toInt) (hi : compliance.toInt ≤ 65535) :
    exec (.writeFrameConstants .console compliance datum) s = .next
      (State.answer { s with strain := { s.strain with frame := ⟨compliance.toInt, datum⟩ } } .console
        .writeFrameConstants .ok []) := by
  have good := (within_eq_true_iff 0 65535 compliance.toInt).mpr ⟨lo, hi⟩
  rw [exec, execWriteFrameConstants, writeFrameConstants_reaches_strain ht, if_neg (by simp [idle]),
    if_neg (by simp [store]), if_neg (by simp [good])]

end

end

/-- Settles O29: each refusal by its lemma; a table that passes is written as a whole and keeps its laws. -/
theorem calibrationIsWrittenAsAWhole : Obligations.CalibrationIsWrittenAsAWhole := by
  refine ⟨fun s body x y ht lower upper => ⟨fun busy => ?_, fun idle => ⟨fun busy => ?_, fun store => ?_⟩⟩,
    fun s body ht idle store walk lower upper => ⟨fun i fails => ?_, fun passes => ?_⟩,
    fun s expected tolerance ht idle store walk => ⟨fun bad => ?_, fun lo hi => ⟨fun bad => ?_,
      fun lo' hi' load hl => ?_⟩⟩,
    fun s compliance datum ht idle store => ⟨exec_writeFrameConstants_of_bad_compliance ht idle store,
      exec_writeFrameConstants_of_passes ht idle store⟩⟩
  · have blocked := State.calibrationBlocked_of_not_idle busy
    exact ⟨exec_writeCalibration_of_blocked ht lower upper blocked, exec_writeReference_of_blocked ht blocked,
      exec_writeFrameConstants_of_not_idle ht busy⟩
  · have blocked := State.calibrationBlocked_of_busy idle busy
    exact ⟨exec_writeCalibration_of_blocked ht lower upper blocked, exec_writeReference_of_blocked ht blocked⟩
  · exact exec_writeFrameConstants_of_store ht idle store
  · exact exec_writeCalibration_of_failure ht lower upper (State.calibrationBlocked_of_free idle walk store) fails
  · obtain ⟨range, fits, rise⟩ := calibrationFailure_eq_none passes
    refine ⟨rangeOfNat (field1 body 0), _, _, Nat.mod_eq_of_lt (by omega), rfl, rfl, ?_, rise, scalesFall_set fits,
      exec_writeCalibration_of_passes ht lower upper (State.calibrationBlocked_of_free idle walk store) passes
        rfl rfl⟩
    simp [pointsOfOctets]
  · exact exec_writeReference_of_bad_expected ht (State.calibrationBlocked_of_free idle walk store) bad
  · exact exec_writeReference_of_bad_tolerance ht (State.calibrationBlocked_of_free idle walk store) lo hi bad
  · exact exec_writeReference_of_passes ht (State.calibrationBlocked_of_free idle walk store) lo hi lo' hi' hl

end Sys2Proof.Machine
end

section
/-! PROOFS. ENQUEUE (R3, R4): the nine checks in their order, and the entry that passes them. -/

namespace Sys2Proof.Machine

/-! ## The checks (R3) -/

section
variable {s : State} {id : List Octet}

theorem idWellFormed_iff : idWellFormed id = true ↔
    (∀ c ∈ id, 0x20 ≤ c.toNat ∧ c.toNat ≤ 0x7E) ∧ ∃ c ∈ id, c ≠ 0x20 := by
  simp [idWellFormed]

theorem idWellFormed_eq_false_iff : idWellFormed id = false ↔
    (∃ c ∈ id, c.toNat < 0x20 ∨ 0x7E < c.toNat) ∨ ∀ c ∈ id, c = 0x20 := by
  rw [Bool.eq_false_iff, ne_eq, idWellFormed_iff, not_and_or]
  simp only [not_forall, not_and_or, not_le, not_exists, not_not, exists_prop, ne_eq]
  refine or_congr Iff.rfl (forall_congr' fun c => ?_)
  tauto

theorem State.idStands_iff : s.idStands id = true ↔
    (∃ e ∈ s.queue, e.id = id) ∨ ∃ r ∈ s.results.records, r.id = id := by
  simp [State.idStands]

/-- The lowest failing index of a shape's dimensions and lengths, 0 for none (R3, check 7). -/
def dimensionIndex (shape : Octet) (width thickness diameter parallel gauge : Int) : Nat :=
  if shape = 0 ∧ ¬ (1000 ≤ width ∧ width ≤ 100000) then 4
  else if shape = 0 ∧ ¬ (100 ≤ thickness ∧ thickness ≤ 60000) then 5
  else if shape = 1 ∧ ¬ (2000 ≤ diameter ∧ diameter ≤ 50000) then 6
  else if ¬ (10000 ≤ parallel ∧ parallel ≤ 400000) then 7
  else if ¬ (10000 ≤ gauge ∧ gauge ≤ 400000) then 8
  else 0

theorem lowestFailing_dimensionChecks {shape : Octet} {sh : Shape} {width thickness diameter parallel gauge : Int}
    (hsh : (shape = 0 ∧ sh = .flat width thickness) ∨ (shape = 1 ∧ sh = .round diameter)) :
    lowestFailing (dimensionChecks sh parallel gauge) =
      if dimensionIndex shape width thickness diameter parallel gauge = 0 then none
      else some (dimensionIndex shape width thickness diameter parallel gauge) := by
  rcases hsh with ⟨rfl, rfl⟩ | ⟨rfl, rfl⟩
  · simp only [dimensionIndex, dimensionChecks, List.cons_append, List.nil_append, lowestFailing, within_eq_true_iff]
    split_ifs <;> simp_all
  · simp only [dimensionIndex, dimensionChecks, List.cons_append, List.nil_append, lowestFailing, within_eq_true_iff]
    split_ifs <;> simp_all

/-- Five conditions in a row, and a last answer when none applies: it is asked only where the five give 0. -/
theorem five_then_last (a b c d e : Prop) [Decidable a] [Decidable b] [Decidable c] [Decidable d] [Decidable e]
    (last : Nat) :
    (if a then 4 else if b then 5 else if c then 6 else if d then 7 else if e then 8 else last) =
      if (if a then 4 else if b then 5 else if c then 6 else if d then 7 else if e then 8 else 0) = 0 then last
      else if a then 4 else if b then 5 else if c then 6 else if d then 7 else if e then 8 else 0 := by
  by_cases ha : a
  · simp [ha]
  by_cases hb : b
  · simp [ha, hb]
  by_cases hc : c
  · simp [ha, hb, hc]
  by_cases hd : d
  · simp [ha, hb, hc, hd]
  by_cases he : e
  · simp [ha, hb, hc, hd, he]
  · simp [ha, hb, hc, hd, he]

theorem Shape.ofFields_of_shape {shape : Octet} {sh : Shape} {width thickness diameter : Int}
    (hsh : (shape = 0 ∧ sh = .flat width thickness) ∨ (shape = 1 ∧ sh = .round diameter)) :
    Shape.ofFields shape width thickness diameter = some sh := by
  rcases hsh with ⟨rfl, rfl⟩ | ⟨rfl, rfl⟩ <;> rfl

variable {slot shape : Octet} {width thickness diameter parallel gauge : Int}

theorem State.enqueueCheck_of_full (h : 8 ≤ s.queue.length) :
    s.enqueueCheck id slot shape width thickness diameter parallel gauge = .error (.full, []) :=
  if_pos h

variable (room : s.queue.length < Config.queueSize)
include room

theorem State.enqueueCheck_of_bad_id (h : idWellFormed id = false) :
    s.enqueueCheck id slot shape width thickness diameter parallel gauge = .error (badField 1) :=
  (if_neg (not_le.mpr room)).trans (if_pos (by simp [h]))

variable (formed : idWellFormed id = true)
include formed

theorem State.enqueueCheck_of_duplicate (h : s.idStands id = true) :
    s.enqueueCheck id slot shape width thickness diameter parallel gauge = .error (.duplicate, []) :=
  (if_neg (not_le.mpr room)).trans ((if_neg (by simp [formed])).trans (if_pos h))

variable (new : ¬ s.idStands id = true)
include new

theorem State.enqueueCheck_of_bad_slot (h : 15 < slot.toNat) :
    s.enqueueCheck id slot shape width thickness diameter parallel gauge = .error (badField 2) :=
  (if_neg (not_le.mpr room)).trans ((if_neg (by simp [formed])).trans ((if_neg new).trans (if_pos h)))

variable (within : slot.toNat ≤ 15)
include within

theorem State.enqueueCheck_of_empty_slot (h : s.programAt slot.toNat = none) :
    s.enqueueCheck id slot shape width thickness diameter parallel gauge = .error (.notFound, []) := by
  rw [State.enqueueCheck, if_neg (not_le.mpr room), if_neg (by simp [formed]), if_neg new, if_neg (not_lt.mpr within),
    h]

section
variable {b : ProgramBody} (hb : s.programAt slot.toNat = some b)
include hb

theorem State.enqueueCheck_of_bad_shape (h0 : shape ≠ 0) (h1 : shape ≠ 1) :
    s.enqueueCheck id slot shape width thickness diameter parallel gauge = .error (badField 3) := by
  rw [State.enqueueCheck, if_neg (not_le.mpr room), if_neg (by simp [formed]), if_neg new, if_neg (not_lt.mpr within),
    hb]
  have unnamed : Shape.ofFields shape width thickness diameter = none := by rw [Shape.ofFields, if_neg h0, if_neg h1]
  simp [unnamed]

variable {sh : Shape} (hsh : Shape.ofFields shape width thickness diameter = some sh)
include hsh

theorem State.enqueueCheck_of_bad_dimension {i : Nat}
    (h : lowestFailing (dimensionChecks sh parallel gauge) = some i) :
    s.enqueueCheck id slot shape width thickness diameter parallel gauge = .error (badField i) := by
  rw [State.enqueueCheck, if_neg (not_le.mpr room), if_neg (by simp [formed]), if_neg new, if_neg (not_lt.mpr within),
    hb]
  simp [hsh, h]

variable (fits : lowestFailing (dimensionChecks sh parallel gauge) = none)
include fits

theorem State.enqueueCheck_of_bad_area (h : sh.area < 1000 ∨ 20000000 < sh.area) :
    s.enqueueCheck id slot shape width thickness diameter parallel gauge = .error (badField 9) := by
  have bad := (within_eq_false_iff _ _ _).mpr h
  rw [State.enqueueCheck, if_neg (not_le.mpr room), if_neg (by simp [formed]), if_neg new, if_neg (not_lt.mpr within),
    hb]
  simp [hsh, fits, bad]

variable (lo : 1000 ≤ sh.area) (hi : sh.area ≤ 20000000)
include lo hi

theorem State.enqueueCheck_of_short (h : b.extUse = .auto ∧ parallel < b.extGauge) :
    s.enqueueCheck id slot shape width thickness diameter parallel gauge = .error (badField 7) := by
  have good := (within_eq_true_iff _ _ _).mpr ⟨lo, hi⟩
  rw [State.enqueueCheck, if_neg (not_le.mpr room), if_neg (by simp [formed]), if_neg new, if_neg (not_lt.mpr within),
    hb]
  simp [hsh, fits, good, h]

theorem State.enqueueCheck_of_passes (h : ¬ (b.extUse = .auto ∧ parallel < b.extGauge)) :
    s.enqueueCheck id slot shape width thickness diameter parallel gauge = .ok sh := by
  have good := (within_eq_true_iff _ _ _).mpr ⟨lo, hi⟩
  rw [State.enqueueCheck, if_neg (not_le.mpr room), if_neg (by simp [formed]), if_neg new, if_neg (not_lt.mpr within),
    hb]
  simp only [hsh, fits, good, if_neg h]
  rfl

end

end

/-! ## The request -/

section
variable {s : State} {id : List Octet} {slot shape : Octet} {width thickness diameter parallel gauge : Word32}
  (ht : s.takes .cell = true) (hid : id.length = 12)
include ht hid

theorem enqueue_reaches_queue (own : State → State) : s.sizedRequest .cell .enqueue (id.length + 22) own = own s :=
  State.sizedRequest_of_takes own ht rfl (by rw [hid]; rfl)

theorem exec_enqueue_of_error {f : Status × List Octet} (h : s.enqueueCheck id slot shape width.toInt thickness.toInt
      diameter.toInt parallel.toInt gauge.toInt = .error f) :
    exec (.enqueue .cell id slot shape width thickness diameter parallel gauge) s
      = .next (s.answer .cell .enqueue f.1 f.2) := by
  rw [exec, execEnqueue, enqueue_reaches_queue ht hid, h]
  rfl

theorem exec_enqueue_of_ok {sh : Shape} (h : s.enqueueCheck id slot shape width.toInt thickness.toInt
      diameter.toInt parallel.toInt gauge.toInt = .ok sh) :
    exec (.enqueue .cell id slot shape width thickness diameter parallel gauge) s = .next
      ((s.append (.formed id slot.toNat sh parallel.toInt gauge.toInt)).answer .cell .enqueue .ok
        (num4 sh.area ++ num1 (s.queue.length + 1))).examineHead := by
  rw [exec, execEnqueue, enqueue_reaches_queue ht hid, h]
  rfl

end

/-- Settles O14: each check by its lemma; the index of the last four is the lowest failing one. -/
theorem enqueueRefusals : Obligations.EnqueueRefusals := by
  rintro s id slot shape width thickness diameter parallel gauge i rfl ht hid
  refine ⟨fun full => exec_enqueue_of_error ht hid (State.enqueueCheck_of_full full), fun room => ⟨fun bad =>
    exec_enqueue_of_error ht hid (State.enqueueCheck_of_bad_id room (idWellFormed_eq_false_iff.mpr bad)),
    fun printable someChar => ?_⟩⟩
  have formed := idWellFormed_iff.mpr ⟨printable, someChar⟩
  refine ⟨fun stands => exec_enqueue_of_error ht hid
    (State.enqueueCheck_of_duplicate room formed (State.idStands_iff.mpr stands)), fun notQueued notRecorded => ?_⟩
  have new : ¬ s.idStands id = true := by
    rw [State.idStands_iff]
    rintro (⟨e, he, same⟩ | ⟨r, hr, same⟩)
    · exact notQueued e he same
    · exact notRecorded r hr same
  refine ⟨fun out => exec_enqueue_of_error ht hid (State.enqueueCheck_of_bad_slot room formed new out),
    fun inside empty => exec_enqueue_of_error ht hid (State.enqueueCheck_of_empty_slot room formed new inside empty),
    fun inside valid h0 h1 => ?_, fun b sh index inside hb hsh hindex nonzero => ?_⟩
  · obtain ⟨b, hb⟩ := Option.isSome_iff_exists.mp valid
    exact exec_enqueue_of_error ht hid (State.enqueueCheck_of_bad_shape room formed new inside hb h0 h1)
  · have named := Shape.ofFields_of_shape hsh
    have dimensions := lowestFailing_dimensionChecks (parallel := parallel.toInt) (gauge := gauge.toInt) hsh
    rw [five_then_last] at hindex
    change index = if dimensionIndex shape width.toInt thickness.toInt diameter.toInt parallel.toInt gauge.toInt = 0
      then _ else dimensionIndex shape width.toInt thickness.toInt diameter.toInt parallel.toInt gauge.toInt at hindex
    generalize dimensionIndex shape width.toInt thickness.toInt diameter.toInt parallel.toInt gauge.toInt = k
      at dimensions hindex
    by_cases hk : k = 0
    · rw [if_pos hk] at dimensions hindex
      by_cases area : 1000 ≤ sh.area ∧ sh.area ≤ 20000000
      · obtain ⟨lo, hi⟩ := area
        by_cases short : b.extUse = .auto ∧ parallel.toInt < b.extGauge
        · rw [if_neg (by simp [lo, hi]), if_pos short] at hindex
          rw [hindex]
          exact exec_enqueue_of_error ht hid
            (State.enqueueCheck_of_short room formed new inside hb named dimensions lo hi short)
        · rw [if_neg (by simp [lo, hi]), if_neg short] at hindex
          exact absurd hindex nonzero
      · rw [if_pos area] at hindex
        rw [hindex]
        exact exec_enqueue_of_error ht hid
          (State.enqueueCheck_of_bad_area room formed new inside hb named dimensions (by omega))
    · rw [if_neg hk] at dimensions hindex
      rw [hindex]
      exact exec_enqueue_of_error ht hid
        (State.enqueueCheck_of_bad_dimension room formed new inside hb named dimensions)

/-- Settles O13: the checks pass, and the entry is appended. -/
theorem enqueueAppendsTheEntry : Obligations.EnqueueAppendsTheEntry := by
  intro s id slot shape width thickness diameter parallel gauge q b sh ht hid room printable someChar notQueued
    notRecorded inside hq hbody hsh lc lc' l0 l0' lo hi long
  have formed := idWellFormed_iff.mpr ⟨printable, someChar⟩
  have new : ¬ s.idStands id = true := by
    rw [State.idStands_iff]
    rintro (⟨e, he, same⟩ | ⟨r, hr, same⟩)
    · exact notQueued e he same
    · exact notRecorded r hr same
  have hb : s.programAt slot.toNat = some b := by rw [State.programAt, hq]; exact hbody
  have named : Shape.ofFields shape width.toInt thickness.toInt diameter.toInt = some sh := by
    rcases hsh with ⟨rfl, rfl, -⟩ | ⟨rfl, rfl, -⟩ <;> rfl
  have fits : lowestFailing (dimensionChecks sh parallel.toInt gauge.toInt) = none := by
    rw [lowestFailing_eq_none_iff]
    rcases hsh with ⟨-, rfl, w, w', t, t'⟩ | ⟨-, rfl, d, d'⟩
    · simp [dimensionChecks, within_eq_true_iff, w, w', t, t', lc, lc', l0, l0']
    · simp [dimensionChecks, within_eq_true_iff, d, d', lc, lc', l0, l0']
  have passes := State.enqueueCheck_of_passes room formed new inside hb named fits lo hi
    (fun short => absurd (long short.1) (by omega))
  refine ⟨_, exec_enqueue_of_ok ht hid passes, ?_, ?_, ?_, ?_, ?_⟩
  · refine State.eq_of_blocks rfl ?_
    simp [State.append]
  · simp [State.append]
    rfl
  · simp only [State.answer_frame, State.append, State.addNotice_frame]
    exact State.changeInUse_programs
      (s := { s with queue := s.queue ++ [.formed id slot.toNat sh parallel.toInt gauge.toInt] })
      (· + 1) hq
  · rw [State.answer_hasNotice]
    exact State.addNotice_hasNotice _ _ _
  · rw [State.answer_get_self]
    rfl

end Sys2Proof.Machine
end

section
/-! PROOFS. The transactions of a port (R181 to R184): the checks of a request, every request command by its kind and its
body, and the message clocked out. -/

namespace Sys2Proof.Machine

/-! ## Every request by its kind and body (R183, R185) -/

theorem be4_length (w : Word32) : (be4 w).length = 4 := rfl

/-- A request of fixed width has a body of an allowed length. -/
theorem request_eq_sizedRequest {s : State} {p : Role} {k : RequestKind} {n : Nat} {own : State → State}
    (h : k.lengthAllowed n = true) :
    (Host.Outcome.next (s.request p k own) : Host.Outcome State Fault Refusal) = .next (s.sizedRequest p k n own) := by
  rw [State.sizedRequest]
  simp only [h, if_true]

/-- Every request command is judged by its kind and the length of its body before its block sees it. -/
theorem exec_eq_sizedRequest {i : Instr} {p : Role} {k : RequestKind} {body : List Octet}
    (h : requestOf i = some (p, k, body)) :
    ∃ own : State → State, ∀ s, exec i s = .next (s.sizedRequest p k body.length own) := by
  cases i with
  | nop | getNotices | linkReset | readLive | resetController | storeConfig | readQueue | clearProgram | readProgram
    | fetchResult | setResultReaders | arm | disarm | start | hold | resume | abort | setAutoArm | writeReference
    | readCalibration | setRange | tare | writeFrameConstants | readFrameConstants | extAttach | extDetach | extRead
    | requestAuthority | releaseAuthority | moveTo | moveBy | jog | stopMove | setPosition | writeDriveConfig
    | readDrive | writeSpeedConfig | readSpeedMeter | clearFrameStop | readInputs =>
    cases h
    exact ⟨_, fun s => request_eq_sizedRequest rfl⟩
  | withdraw | writeProgram | takeResult | writeCalibration =>
    cases h
    exact ⟨_, fun s => rfl⟩
  | enqueue p id slot shape width thickness diameter parallel gauge =>
    cases h
    have length : (id ++ [slot, shape] ++ be4 width ++ be4 thickness ++ be4 diameter ++ be4 parallel
        ++ be4 gauge).length = id.length + 22 := by
      simp [be4_length]
    rw [length]
    exact ⟨_, fun s => rfl⟩
  | malformedRequest | transactionBegin | transactionWithoutRequest | replyReady | powerOn | configImageLoadDone
    | resetPin | configStoreCompletion | conversionSlot | tareRangeComplete | tareCommit | stalenessLost
    | testCompletion | endingTimerExpiry | autoArm | gripsStart | periodEnd | moveCompletion | encoderCount
    | gateBoundary | intervalTimeout | overspeed | frameStopAcceptedActive | frameStopAcceptedInactive
    | gripsClosingEdge | gripsOpeningEdge | statusFrame | readingFrame | frameDiscarded | commandSent | answerTimeout
    | breakEnd | syncCharacter | syncWindowTimeout | wakeRetry | operationTimeout | sleepTimeout | recoveryTimeout
    | inputPinChange | lossOfSupply | lineRestedHigh => cases h

/-! ## The catalogue (R185) -/

theorem RequestKind.mem_all (k : RequestKind) : k ∈ RequestKind.all := by
  cases k <;> decide

theorem RequestKind.ofCode_code (k : RequestKind) : RequestKind.ofCode k.code = some k := by
  have finds : ∀ k ∈ RequestKind.all, RequestKind.ofCode k.code = some k := by decide
  exact finds k k.mem_all

theorem RequestKind.ofCode_eq_none {o : Octet} (h : ∀ k : RequestKind, k.code ≠ o) : RequestKind.ofCode o = none := by
  rw [RequestKind.ofCode, List.find?_eq_none]
  intro k _
  simpa using h k

/-- No body of the catalogue is longer than 120 octets. -/
theorem RequestKind.longest_le (k : RequestKind) : k.row.longest ≤ 120 := by
  cases k <;> decide

theorem RequestKind.lengthAllowed_iff (k : RequestKind) (n : Nat) :
    k.lengthAllowed n = true ↔ k.row.shortest ≤ n ∧ n ≤ k.row.longest := by
  simp [RequestKind.lengthAllowed]

theorem RequestKind.lengthAllowed_eq_false_iff (k : RequestKind) (n : Nat) :
    k.lengthAllowed n = false ↔ n < k.row.shortest ∨ k.row.longest < n := by
  rw [Bool.eq_false_iff, ne_eq, k.lengthAllowed_iff]
  omega

/-! ## The five checks (R183) -/

section
variable {p : Role} {octets : List Octet}

theorem messageBody_of_bad_length
    (h : 120 < (octets.getD 1 0).toNat ∨ octets.length < (octets.getD 1 0).toNat + 3) :
    messageBody octets = .error .lengthError :=
  if_pos h

theorem messageBody_of_good_length (h : (octets.getD 1 0).toNat ≤ 120)
    (h' : (octets.getD 1 0).toNat + 3 ≤ octets.length) :
    messageBody octets = if octets.getD ((octets.getD 1 0).toNat + 2) 0
        ≠ crc8 (octets.take ((octets.getD 1 0).toNat + 2)) then .error .checkFailed
      else .ok ((octets.drop 2).take (octets.getD 1 0).toNat) :=
  if_neg (by rw [field1]; omega)

theorem checkRequest_of_error {st : Status} (h : messageBody octets = .error st) :
    checkRequest p octets = .error st := by
  rw [checkRequest, h]

variable {body : List Octet} (hb : messageBody octets = .ok body)
include hb

theorem checkRequest_of_unknown (h : RequestKind.ofCode (octets.getD 0 0) = none) :
    checkRequest p octets = .error .unknownKind := by
  rw [checkRequest, hb]
  simp only [h]

variable {k : RequestKind} (hk : k.code = octets.getD 0 0)
include hk

theorem checkRequest_of_wrong_role (h : k.row.roles.mem p = false) : checkRequest p octets = .error .roleRefused := by
  rw [checkRequest, hb, ← hk, RequestKind.ofCode_code]
  simp [h]

theorem checkRequest_of_bad_body (h : k.row.roles.mem p = true) (hl : k.lengthAllowed body.length = false) :
    checkRequest p octets = .error .lengthError := by
  rw [checkRequest, hb, ← hk, RequestKind.ofCode_code]
  simp [h, hl]

theorem checkRequest_of_good_body (h : k.row.roles.mem p = true) (hl : k.lengthAllowed body.length = true) :
    checkRequest p octets = .ok (k, body) := by
  rw [checkRequest, hb, ← hk, RequestKind.ofCode_code]
  simp [h, hl]

end

theorem State.whenTaken_of_takes {s : State} {p : Role} (ht : s.takes p = true) (act : State → State) :
    s.whenTaken p act = act s := by
  have hp : s.power ≠ .off := by simp [State.running_of_takes ht]
  rw [State.whenTaken, if_neg hp, if_pos ht]

/-- A malformed request is answered with the status of the check it fails (R183, R184). -/
theorem exec_malformedRequest {s : State} {p : Role} {octets : List Octet} {st : Status} (ht : s.takes p = true)
    (lower : 3 ≤ octets.length) (upper : octets.length ≤ 123) (h : checkRequest p octets = .error st) :
    exec (.malformedRequest p octets) s = .next (s.answerKind p (octets.getD 0 0) st []) := by
  have kept : octets.take Config.inputBufferSize = octets := List.take_of_length_le upper
  rw [exec, execMalformedRequest, State.whenTaken_of_takes ht, kept]
  simp only [h, if_neg (not_lt.mpr lower)]

/-- Settles O11: the first check that fails gives the status, and a request command meets checks 4 and 5 in
`sizedRequest`. -/
theorem malformedRequestIsRefused : Obligations.MalformedRequestIsRefused := by
  refine ⟨fun p octets s ht lower upper => ⟨fun bad => ?_, fun short whole => ?_⟩, fun i p k body s hi ht => ?_⟩
  · exact exec_malformedRequest ht lower upper (checkRequest_of_error (messageBody_of_bad_length bad))
  · have message := messageBody_of_good_length short whole
    refine ⟨fun bad => ?_, fun good unknown => ?_, fun good k hk => ⟨fun role => ?_, fun role bad => ?_⟩⟩
    · rw [if_pos bad] at message
      exact exec_malformedRequest ht lower upper (checkRequest_of_error message)
    all_goals rw [if_neg (not_not.mpr good)] at message
    · exact exec_malformedRequest ht lower upper
        (checkRequest_of_unknown message (RequestKind.ofCode_eq_none unknown))
    · exact exec_malformedRequest ht lower upper (checkRequest_of_wrong_role message hk role)
    · refine exec_malformedRequest ht lower upper (checkRequest_of_bad_body message hk role ?_)
      have length : ((octets.drop 2).take (octets.getD 1 0).toNat).length = (octets.getD 1 0).toNat := by
        rw [List.length_take, List.length_drop]
        omega
      rw [length, RequestKind.lengthAllowed_eq_false_iff]
      exact bad
  · obtain ⟨own, hown⟩ := exec_eq_sizedRequest hi
    rw [hown]
    refine ⟨fun role => ?_, fun role bad => ?_⟩
    · rw [State.sizedRequest_of_wrong_role _ _ ht role]
    · rw [State.sizedRequest, State.request_of_takes k _ ht role,
        if_neg (by simp [(k.lengthAllowed_eq_false_iff _).mpr bad]), State.refuse]

/-! ## The message clocked out (R181, R184) -/

section
variable {q : Port}

theorem Port.octetOut_of_none (h : q.clockingOut = none) (n : Nat) : q.octetOut n = none := by
  rw [Port.octetOut, h, Option.map_none]

theorem Port.octetOut_of_some {r : Reply} (h : q.clockingOut = some r) (n : Nat) :
    q.octetOut n = some (r.octetOut n) := by
  rw [Port.octetOut, h, Option.map_some]

/-- The bits of an octet on the line (R181). -/
theorem Port.sdo_eq (n : Nat) {i : Nat} (hi : i < 8) :
    q.sdo (8 * n + i) = (q.octetOut n).map fun o => o.getLsbD (7 - i) := by
  have place : (8 * n + i) / 8 = n ∧ (8 * n + i) % 8 = i := by omega
  obtain ⟨octet, bit⟩ := place
  rw [Port.sdo, octet, bit]
  congr 1
  funext o
  simp [BitVec.getMsbD, hi]

theorem Reply.octetOut_body (r : Reply) {n : Nat} (h : n < r.body.length) : r.octetOut (n + 4) = r.body[n] := by
  have inside : n < r.body.length + 1 := by omega
  change ((r.body ++ [_])[n]?).getD 0 = r.body[n]
  rw [List.getElem?_append_left h, List.getElem?_eq_getElem h]
  rfl

/-- A length in two octets, the most significant first (R194). -/
theorem num2_eq (n : Nat) : num2 n = [BitVec.ofNat 8 (n / 256), BitVec.ofNat 8 n] := by
  have high : (BitVec.ofNat 16 n).extractLsb' 8 8 = BitVec.ofNat 8 (n / 256) := by
    apply BitVec.eq_of_toNat_eq
    simp [BitVec.extractLsb'_toNat, Nat.shiftRight_eq_div_pow]
    omega
  have low : (BitVec.ofNat 16 n).extractLsb' 0 8 = BitVec.ofNat 8 n := by
    apply BitVec.eq_of_toNat_eq
    simp [BitVec.extractLsb'_toNat]
  simp [num2, high, low]

theorem Reply.octetOut_length (r : Reply) :
    r.octetOut 2 = BitVec.ofNat 8 (r.body.length / 256) ∧ r.octetOut 3 = BitVec.ofNat 8 r.body.length := by
  rw [Reply.octetOut, Reply.octetOut, Reply.message, num2_eq]
  exact ⟨rfl, rfl⟩

/-- The check is that of all octets before it. -/
theorem Reply.octetOut_check (r : Reply) :
    r.octetOut (r.body.length + 4) = crc8 ((List.range (r.body.length + 4)).map r.octetOut) := by
  let m := r.kind :: r.status.code :: (num2 r.body.length ++ r.body)
  have length : m.length = r.body.length + 4 := by simp [m]; omega
  have before : (List.range (r.body.length + 4)).map r.octetOut = m := by
    refine List.ext_getElem (by simp [length]) fun n hn hm => ?_
    have inside : n < r.message.length := by rw [Reply.message_length]; omega
    rw [List.getElem_map, List.getElem_range, Reply.octetOut_of_lt r inside]
    exact List.getElem_append_left hm
  have last : r.octetOut m.length = crc8 m := by
    change (m ++ [crc8 m]).getD m.length 0 = crc8 m
    simp [List.getD]
  rw [before, ← length, last]

end

/-! ## The events of a transaction (R181, R182, R193) -/

section
variable {s : State} {p : Role}

/-- An update of one port leaves the rest of the part, and the other ports. -/
theorem State.onPort_alone (s : State) (p : Role) (f : Port → Port) :
    s.onPort p f = { s with ports := (s.onPort p f).ports } ∧ (s.onPort p f).ports.get p = f (s.ports.get p)
      ∧ ∀ q, q ≠ p → (s.onPort p f).ports.get q = s.ports.get q :=
  ⟨rfl, by simp, fun q hq => by simp [hq]⟩

theorem exec_transactionBegin (hp : s.power ≠ .off) (hc : (s.ports.get p).clockingOut = none) :
    exec (.transactionBegin p) s = .next (s.onPort p fun q =>
      { q with clockingOut := some (s.messageOut p), inputBuffer := [] }) := by
  rw [exec, execTransactionBegin, if_neg (by simp [hp, hc])]

theorem exec_transactionWithoutRequest (hp : s.power ≠ .off) :
    exec (.transactionWithoutRequest p) s = .next (s.endTransaction p) := by
  rw [exec, execTransactionWithoutRequest, if_neg hp]

theorem exec_replyReady (hp : s.power = .running) :
    exec (.replyReady p) s = .next (s.onPort p fun q =>
      { q with pendingReply := q.pendingReply.map fun r : PendingReply => { r with wait := 0 } }) :=
  congrArg Host.Outcome.next (State.whenRunning_of_running hp _)

end

/-- Settles O12: the five events of a transaction, each an update of its port alone, and the octets driven. -/
theorem transactionsMoveOneReply : Obligations.TransactionsMoveOneReply := by
  refine ⟨fun s p k st body => ⟨rfl, State.answer_get_self s p k st body, fun q hq =>
    State.answer_get_of_ne s k st body hq⟩, fun i p k body s hi hp ht => ?_, fun p s loading idle => ?_,
    fun s p n => ⟨fun idle => ?_, fun r hr => ?_⟩, fun p s running => ⟨fun idle => ?_, ?_, fun r hr => ?_⟩⟩
  · obtain ⟨own, hown⟩ := exec_eq_sizedRequest hi
    obtain ⟨alone, own, others⟩ := s.onPort_alone p fun q => { q with clockingOut := none, inputBuffer := [] }
    exact ⟨_, (hown s).trans (congrArg Host.Outcome.next (State.request_of_not_taken _ _ hp ht)), alone, own, others⟩
  · obtain ⟨alone, own, others⟩ := s.onPort_alone p fun q =>
      { q with clockingOut := some (s.messageOut p), inputBuffer := [] }
    have message : s.messageOut p = ⟨0x00, .notReady, []⟩ := if_neg (by simp [loading])
    exact ⟨_, exec_transactionBegin (by simp [loading]) idle, alone, others, own.trans (by rw [message])⟩
  · have silent := Port.octetOut_of_none idle
    exact ⟨silent n, by rw [Port.sdo, silent, Option.map_none]⟩
  · have drives := Port.octetOut_of_some hr
    obtain ⟨high, low⟩ := r.octetOut_length
    refine ⟨drives 0, drives 1, ?_, ?_, fun h => ?_, ?_, fun h => ?_, fun i hi => Port.sdo_eq n hi⟩
    · rw [drives, high]
    · rw [drives, low]
    · rw [drives, Reply.octetOut_body r h]
    · rw [drives, Reply.octetOut_check]
    · rw [drives, Reply.octetOut_of_le r h]
  · obtain ⟨alone, own, others⟩ := s.onPort_alone p fun q =>
      { q with clockingOut := some (s.messageOut p), inputBuffer := [] }
    refine ⟨_, exec_transactionBegin (by simp [running]) idle, alone, others, own.trans ?_⟩
    rw [State.messageOut, if_pos running]
    congr 2
    cases (s.ports.get p).pendingReply <;> rfl
  · obtain ⟨alone, own, others⟩ := s.onPort_alone p fun q => { q with clockingOut := none, inputBuffer := [] }
    exact ⟨_, exec_transactionWithoutRequest (by simp [running]), alone, others, own⟩
  · obtain ⟨alone, own, others⟩ := s.onPort_alone p fun q =>
      { q with pendingReply := q.pendingReply.map fun r : PendingReply => { r with wait := 0 } }
    exact ⟨_, exec_replyReady running, alone, others, own.trans (by rw [hr]; rfl)⟩

end Sys2Proof.Machine
end

section
/-! PROOFS. A request sent as its message is taken as that very command (R181, R183, R185, R194): the message passes the
checks, and the command's operands are read back from its body. -/

namespace Sys2Proof.Machine

/-! ## The operands read back (R194) -/

section
variable (w : Word32) (o : Octet) (rest : List Octet) (i : Nat)

theorem word4_be4 : word4 (be4 w ++ rest) 0 = w :=
  word4_of_octets _ 0 w rfl rfl rfl rfl

theorem word4_pass_be4 : word4 (be4 w ++ rest) (i + 4) = word4 rest i := rfl

theorem word4_pass_octet : word4 (o :: rest) (i + 1) = word4 rest i := rfl

theorem word4_be4_self : word4 (be4 w) 0 = w :=
  word4_of_octets _ 0 w rfl rfl rfl rfl

end

/-- Two words in a body. -/
theorem word4_be4_second (v w : Word32) : word4 (be4 v ++ be4 w) 4 = w :=
  (word4_pass_be4 v (be4 w) 0).trans (word4_be4_self w)

/-- Five words in a row. -/
theorem word4_five (a b c d e : Word32) :
    word4 (be4 a ++ (be4 b ++ (be4 c ++ (be4 d ++ be4 e)))) 0 = a
      ∧ word4 (be4 a ++ (be4 b ++ (be4 c ++ (be4 d ++ be4 e)))) 4 = b
      ∧ word4 (be4 a ++ (be4 b ++ (be4 c ++ (be4 d ++ be4 e)))) 8 = c
      ∧ word4 (be4 a ++ (be4 b ++ (be4 c ++ (be4 d ++ be4 e)))) 12 = d
      ∧ word4 (be4 a ++ (be4 b ++ (be4 c ++ (be4 d ++ be4 e)))) 16 = e :=
  ⟨word4_be4 a _, word4_be4 b (be4 c ++ (be4 d ++ be4 e)), word4_be4 c (be4 d ++ be4 e), word4_be4 d (be4 e),
    word4_be4_self e⟩

/-- The operands of an ENQUEUE, each at its place after the ID. -/
theorem commandOf_enqueue (p : Role) {id : List Octet} (hid : id.length = 12) (slot shape : Octet)
    (width thickness diameter parallel gauge : Word32) :
    commandOf p .enqueue (id ++ [slot, shape] ++ be4 width ++ be4 thickness ++ be4 diameter ++ be4 parallel
      ++ be4 gauge) = .enqueue p id slot shape width thickness diameter parallel gauge := by
  obtain ⟨first, second, third, fourth, fifth⟩ := word4_five width thickness diameter parallel gauge
  generalize hw : be4 width ++ (be4 thickness ++ (be4 diameter ++ (be4 parallel ++ be4 gauge))) = words
    at first second third fourth fifth
  have body : id ++ [slot, shape] ++ be4 width ++ be4 thickness ++ be4 diameter ++ be4 parallel ++ be4 gauge
      = id ++ slot :: shape :: words := by simp [← hw]
  have after (n : Nat) : (id ++ slot :: shape :: words).getD (n + 12) 0 = (slot :: shape :: words).getD n 0 :=
    getD_pass_id _ n hid
  have word (n : Nat) : word4 (id ++ slot :: shape :: words) (n + 14) = word4 words n :=
    word4_pass_id _ (n + 2) hid
  have name : (id ++ slot :: shape :: words).take 12 = id := List.take_left' hid
  rw [body, commandOf, name, after 0, after 1, word 0, word 4, word 8, word 12, word 16, first, second, third, fourth,
    fifth]
  rfl

/-- A well-formed request is the command of its kind and body. -/
theorem commandOf_requestOf {i : Instr} {p : Role} {k : RequestKind} {body : List Octet}
    (h : requestOf i = some (p, k, body)) (allowed : k.lengthAllowed body.length = true) : commandOf p k body = i := by
  cases i with
  | nop | getNotices | linkReset | readLive | resetController | storeConfig | readQueue | clearProgram | readProgram
    | fetchResult | setResultReaders | arm | disarm | start | hold | resume | abort | setAutoArm
    | readCalibration | setRange | tare | readFrameConstants | extAttach | extDetach | extRead
    | requestAuthority | releaseAuthority | stopMove | readDrive | readSpeedMeter | clearFrameStop | readInputs
    | withdraw | writeProgram | takeResult | writeCalibration =>
    cases h
    rfl
  | writeReference | writeFrameConstants | moveTo | moveBy =>
    cases h
    simp only [commandOf, word4_be4, word4_be4_second]
  | setPosition =>
    cases h
    simp only [commandOf, word4_be4_self]
  | jog | writeSpeedConfig =>
    cases h
    simp only [commandOf, List.cons_append, List.nil_append, word4_pass_octet _ _ 0, word4_be4_self]
    rfl
  | writeDriveConfig p stepLength vmax jogLimit lower upper following =>
    cases h
    obtain ⟨first, second, third, fourth, fifth⟩ := word4_five vmax jogLimit lower upper following
    generalize hw : be4 vmax ++ (be4 jogLimit ++ (be4 lower ++ (be4 upper ++ be4 following))) = words
      at first second third fourth fifth
    have text : [stepLength] ++ be4 vmax ++ be4 jogLimit ++ be4 lower ++ be4 upper ++ be4 following
        = stepLength :: words := by simp [← hw]
    have word (n : Nat) : word4 (stepLength :: words) (n + 1) = word4 words n := rfl
    rw [text, commandOf, word 0, word 4, word 8, word 12, word 16, first, second, third, fourth, fifth]
    rfl
  | enqueue p id slot shape width thickness diameter parallel gauge =>
    cases h
    have twelve : id.length = 12 := by
      rw [RequestKind.lengthAllowed_iff] at allowed
      simp [be4_length, RequestKind.row] at allowed
      omega
    exact commandOf_enqueue p twelve slot shape width thickness diameter parallel gauge
  | malformedRequest | transactionBegin | transactionWithoutRequest | replyReady | powerOn | configImageLoadDone
    | resetPin | configStoreCompletion | conversionSlot | tareRangeComplete | tareCommit | stalenessLost
    | testCompletion | endingTimerExpiry | autoArm | gripsStart | periodEnd | moveCompletion | encoderCount
    | gateBoundary | intervalTimeout | overspeed | frameStopAcceptedActive | frameStopAcceptedInactive
    | gripsClosingEdge | gripsOpeningEdge | statusFrame | readingFrame | frameDiscarded | commandSent | answerTimeout
    | breakEnd | syncCharacter | syncWindowTimeout | wakeRetry | operationTimeout | sleepTimeout | recoveryTimeout
    | inputPinChange | lossOfSupply | lineRestedHigh => cases h

/-! ## The message passes the checks (R183) -/

section
variable {k : RequestKind} {body : List Octet}

/-- The octets of a message before its check (R183). -/
def messageHead (k : RequestKind) (body : List Octet) : List Octet :=
  k.code :: BitVec.ofNat 8 body.length :: body

theorem messageHead_length : (messageHead k body).length = body.length + 2 := rfl

theorem requestMessage_eq : requestMessage k body = messageHead k body ++ [crc8 (messageHead k body)] := rfl

/-- The octets kept of a message with octets after its check: the message, then some of those (R181). -/
theorem take_requestMessage (short : body.length ≤ 120) (padding : List Octet) :
    ∃ rest, (requestMessage k body ++ padding).take 123 = messageHead k body ++ crc8 (messageHead k body) :: rest := by
  refine ⟨padding.take (120 - body.length), ?_⟩
  have length : (requestMessage k body).length = body.length + 3 := by
    rw [requestMessage_eq, List.length_append, messageHead_length]
    rfl
  rw [List.take_append, List.take_of_length_le (by omega), length, requestMessage_eq, List.append_assoc,
    show 123 - (body.length + 3) = 120 - body.length by omega]
  rfl

theorem messageBody_requestMessage (short : body.length ≤ 120) (rest : List Octet) :
    messageBody (messageHead k body ++ crc8 (messageHead k body) :: rest) = .ok body := by
  have length : ((messageHead k body ++ crc8 (messageHead k body) :: rest).getD 1 0).toNat = body.length := by
    change (BitVec.ofNat 8 body.length).toNat = body.length
    rw [BitVec.toNat_ofNat, Nat.mod_eq_of_lt (by omega)]
  have enough : body.length + 3 ≤ (messageHead k body ++ crc8 (messageHead k body) :: rest).length := by
    rw [List.length_append, messageHead_length, List.length_cons]
    omega
  have check : (messageHead k body ++ crc8 (messageHead k body) :: rest).getD (body.length + 2) 0
      = crc8 (messageHead k body) := by
    rw [List.getD_eq_getElem?_getD, List.getElem?_append_right (by rw [messageHead_length]), messageHead_length,
      Nat.sub_self]
    rfl
  have head : (messageHead k body ++ crc8 (messageHead k body) :: rest).take (body.length + 2) = messageHead k body :=
    List.take_left' messageHead_length
  rw [messageBody_of_good_length (by rw [length]; exact short) (by rw [length]; exact enough), length, check, head,
    if_neg (not_not.mpr rfl)]
  exact congrArg _ (List.take_left' rfl)

theorem commandOfOctets_requestMessage {p : Role} (role : k.row.roles.mem p = true)
    (allowed : k.lengthAllowed body.length = true) (padding : List Octet) :
    commandOfOctets p (requestMessage k body ++ padding) = commandOf p k body := by
  have short : body.length ≤ 120 := ((k.lengthAllowed_iff _).mp allowed).2.trans k.longest_le
  obtain ⟨rest, kept⟩ := take_requestMessage (k := k) short padding
  have enough : ¬ (messageHead k body ++ crc8 (messageHead k body) :: rest).length < 3 := by
    rw [List.length_append, messageHead_length, List.length_cons]
    omega
  have passes : checkRequest p (messageHead k body ++ crc8 (messageHead k body) :: rest) = .ok (k, body) :=
    checkRequest_of_good_body (messageBody_requestMessage short rest) rfl role allowed
  rw [commandOfOctets, Config.inputBufferSize, kept, if_neg enough, passes]

end

/-- Settles O8: the message passes the checks with its kind and body, whose command is the one sent. -/
theorem requestSurvivesTheWire : Obligations.RequestSurvivesTheWire := by
  intro i p k body padding h formed role
  have allowed : k.lengthAllowed body.length = true := by
    have length : bodyLengthAllowed i = true := by
      unfold wellFormed at formed
      split at formed
      · cases h
      · exact formed
    rwa [bodyLengthAllowed, h] at length
  have taken : commandOfOctets p (requestMessage k body ++ padding) = i :=
    (commandOfOctets_requestMessage role allowed padding).trans (commandOf_requestOf h allowed)
  exact ⟨taken, fun incomplete few => by rw [commandOfLevels, octetsClockedIn_octets _ _ few, taken]⟩

end Sys2Proof.Machine
end

section
/-! PROOFS. The head line (R125): characters, command frames, and the frames formed of the characters received. -/

namespace Sys2Proof.Machine

/-! ## Characters -/

theorem characterOfLevels_characterLevels : ∀ o : Octet, characterOfLevels ((characterLevels o).drop 1) = some o := by
  decide

theorem characterLevels_data (o : Octet) {n : Nat} (hn : n < 8) :
    (characterLevels o)[n + 1]? = some (o.getLsbD n) := by
  rw [characterLevels, List.append_assoc, List.cons_append, List.getElem?_cons_succ, List.nil_append,
    List.getElem?_append_left (by simpa using hn)]
  simp [hn]

theorem characterOfLevels_of_low_stop {levels : List Bool} (h : levels.getD 8 false = false) :
    characterOfLevels levels = none := by
  rw [characterOfLevels, h]
  rfl

/-! ## Frames -/

section
variable (f : List Octet) (rest : List (Option Octet))

@[simp] theorem octetsBeforeLowStop_all : octetsBeforeLowStop (f.map some) = f := by
  induction f with
  | nil => rfl
  | cons o os ih => rw [List.map_cons, octetsBeforeLowStop, ih]

@[simp] theorem octetsBeforeLowStop_low : octetsBeforeLowStop (f.map some ++ none :: rest) = f := by
  induction f with
  | nil => rfl
  | cons o os ih => rw [List.map_cons, List.cons_append, octetsBeforeLowStop, ih]

end

section
variable {type : Octet} {octets : List Octet} {n : Nat} (hn : frameLength type = some n)
include hn

/-- A frame whose characters have all come. -/
theorem takeFrame_of_whole (length : octets.length + 1 = n) (rest : List (Option Octet)) :
    takeFrame ((type :: octets).map some ++ rest) = some (frameEvent (type :: octets), rest) := by
  have size : ((type :: octets).map some).length = n := by simpa using length
  have whole : ((type :: octets).map some ++ rest).take n = (type :: octets).map some := List.take_left' size
  have after : ((type :: octets).map some ++ rest).drop n = rest := List.drop_left' size
  rw [List.map_cons, List.cons_append] at whole after ⊢
  rw [takeFrame]
  simp only [hn, whole, after]
  rw [← List.map_cons, octetsBeforeLowStop_all, if_pos (by simpa using length)]

variable (short : octets.length + 1 < n)
include short

/-- A low stop bit before the frame's end. -/
theorem takeFrame_of_low_stop (rest : List (Option Octet)) :
    takeFrame ((type :: octets).map some ++ none :: rest) = some (.frameDiscarded .lowStopBit, []) := by
  have size : ((type :: octets).map some).length < n := by simpa using short
  obtain ⟨m, hm⟩ : ∃ m, n - ((type :: octets).map some).length = m + 1 := ⟨_, (Nat.succ_pred (by omega)).symm⟩
  have cut : ((type :: octets).map some ++ none :: rest).take n = (type :: octets).map some ++ none :: rest.take m := by
    rw [List.take_append, List.take_of_length_le size.le, hm, List.take_succ_cons]
  have before := octetsBeforeLowStop_low (type :: octets) (rest.take m)
  rw [List.map_cons, List.cons_append] at cut before ⊢
  rw [takeFrame]
  simp only [hn, cut]
  rw [List.cons_append, before, if_neg (by simp; omega), if_pos (by simp)]

/-- The line rests high before the frame's end. -/
theorem takeFrame_of_rest :
    takeFrame ((type :: octets).map some) = some (.frameDiscarded .restedHigh, []) := by
  have size : ((type :: octets).map some).length ≤ n := by simpa using short.le
  have cut := List.take_of_length_le size
  have before := octetsBeforeLowStop_all (type :: octets)
  rw [List.map_cons] at cut before ⊢
  rw [takeFrame]
  simp only [hn, cut]
  rw [before, if_neg (by simp; omega), if_neg (by simp)]

end

theorem takeFrame_of_unknown_type {type : Octet} (h : type ≠ 0xA0) (h' : type ≠ 0xA5) (rest : List (Option Octet)) :
    takeFrame (some type :: rest) = some (.frameDiscarded .unknownType, []) := by
  have none : frameLength type = none := by rw [frameLength, if_neg h, if_neg h']
  rw [takeFrame]
  simp only [none]

/-! ## What a frame is -/

theorem armsOfOctet_of_code {a : Octet} {arms : ArmsState} (h : armsCode arms = a.toNat) : armsOfOctet a = some arms := by
  have octet : a = BitVec.ofNat 8 (armsCode arms) := by rw [h, BitVec.ofNat_toNat, BitVec.setWidth_eq]
  subst octet
  cases arms <;> rfl

theorem armsOfOctet_of_above {a : Octet} (h : 3 < a.toNat) : armsOfOctet a = none := by
  have other {n : Octet} (hn : n.toNat ≤ 3) : a ≠ n := fun same => by
    rw [same] at h
    omega
  rw [armsOfOctet, if_neg (other (by decide)), if_neg (other (by decide)), if_neg (other (by decide)),
    if_neg (other (by decide))]

section
variable {a fault check : Octet}

theorem frameEvent_of_bad_status (h : check ≠ crc8 [0xA0, a, fault]) :
    frameEvent [0xA0, a, fault, check] = .frameDiscarded .badCheck :=
  if_pos (by simpa [frameChecks] using h)

theorem frameEvent_of_status {arms : ArmsState} (h : armsOfOctet a = some arms) :
    frameEvent [0xA0, a, fault, crc8 [0xA0, a, fault]] = .statusFrame arms fault := by
  rw [frameEvent, if_neg (by simp [frameChecks])]
  simp [h]

theorem frameEvent_of_unknown_arms (h : armsOfOctet a = none) :
    frameEvent [0xA0, a, fault, crc8 [0xA0, a, fault]] = .frameDiscarded .armsAboveThree := by
  rw [frameEvent, if_neg (by simp [frameChecks])]
  simp [h]

end

section
variable {sequence e0 e1 e2 status check : Octet}

/-- The elongation from its three octets, the least significant first (R125). -/
theorem frameElongation_eq : frameElongation [0xA5, sequence, e0, e1, e2, status, check]
    = BitVec.ofNat 24 (e0.toNat + 256 * e1.toNat + 65536 * e2.toNat) := by
  apply BitVec.eq_of_toNat_eq
  change (e2 ++ e1 ++ e0).toNat = _
  rw [BitVec.toNat_append, BitVec.toNat_append, ← Nat.shiftLeft_add_eq_or_of_lt e0.isLt,
    ← Nat.shiftLeft_add_eq_or_of_lt e1.isLt, Nat.shiftLeft_eq, Nat.shiftLeft_eq, BitVec.toNat_ofNat]
  omega

theorem frameEvent_of_bad_reading (h : check ≠ crc8 [0xA5, sequence, e0, e1, e2, status]) :
    frameEvent [0xA5, sequence, e0, e1, e2, status, check] = .frameDiscarded .badCheck :=
  if_pos (by simpa [frameChecks] using h)

theorem frameEvent_of_reading :
    frameEvent [0xA5, sequence, e0, e1, e2, status, crc8 [0xA5, sequence, e0, e1, e2, status]]
      = .readingFrame sequence (BitVec.ofNat 24 (e0.toNat + 256 * e1.toNat + 65536 * e2.toNat)) status := by
  have notStatus : [0xA5, sequence, e0, e1, e2, status, crc8 [0xA5, sequence, e0, e1, e2, status]].getD 0 0
      ≠ (0xA0 : Octet) := show (0xA5 : Octet) ≠ 0xA0 by decide
  rw [frameEvent, if_neg (by simp [frameChecks]), if_neg notStatus, frameElongation_eq]
  rfl

end

/-- Settles O18: characters by their ten levels; a run's first frame by its length, its check and its type. -/
theorem headFramesAreFormed : Obligations.HeadFramesAreFormed := by
  refine ⟨fun o => ⟨rfl, rfl, rfl, fun n hn => characterLevels_data o hn, characterOfLevels_characterLevels o⟩,
    fun levels => characterOfLevels_of_low_stop, ⟨rfl, rfl, rfl, rfl, rfl⟩, fun l c second timer h => ?_,
    fun rest => ⟨fun a fault => ⟨fun arms code => ?_, fun above => ?_, fun check bad => ?_⟩,
      fun sequence e0 e1 e2 status => ⟨?_, fun check bad => ?_⟩,
      fun type h h' => takeFrame_of_unknown_type h h' rest, rfl, fun type octets n known short => ?_⟩⟩
  · rw [ExtLink.lineOctets, h]
    rfl
  · exact (takeFrame_of_whole rfl rfl rest).trans (by rw [frameEvent_of_status (armsOfOctet_of_code code)])
  · exact (takeFrame_of_whole rfl rfl rest).trans (by rw [frameEvent_of_unknown_arms (armsOfOctet_of_above above)])
  · exact (takeFrame_of_whole rfl rfl rest).trans (by rw [frameEvent_of_bad_status bad])
  · exact (takeFrame_of_whole rfl rfl rest).trans (by rw [frameEvent_of_reading])
  · exact (takeFrame_of_whole rfl rfl rest).trans (by rw [frameEvent_of_bad_reading bad])
  · have length : frameLength type = some n := by rcases known with ⟨rfl, rfl⟩ | ⟨rfl, rfl⟩ <;> rfl
    exact ⟨takeFrame_of_low_stop length short rest, takeFrame_of_rest length short⟩

end Sys2Proof.Machine
end

section
/-! PROOFS. A program body read back octet for octet (R14, R16, 11.8.3): each field gives the octets it was read from, and
the fields follow one another. -/

namespace Sys2Proof.Machine

/-! ## Octets in place -/

/-- `n` octets of a body from octet `i`. -/
def octetsAt (b : List Octet) (i n : Nat) : List Octet :=
  (b.drop i).take n

section
variable {b : List Octet} {i n : Nat}

/-- Octets that follow one another. -/
theorem octetsAt_append (b : List Octet) (i m n : Nat) :
    octetsAt b i m ++ octetsAt b (i + m) n = octetsAt b i (m + n) := by
  rw [octetsAt, octetsAt, octetsAt, List.take_add, List.drop_drop]

theorem octetsAt_eq_map (h : i + n ≤ b.length) : octetsAt b i n = (List.range n).map fun j => b.getD (i + j) 0 := by
  have size : (octetsAt b i n).length = n := by
    rw [octetsAt, List.length_take, List.length_drop]
    omega
  refine List.ext_getElem (by simp [size]) fun j hj _ => ?_
  rw [size] at hj
  simp only [octetsAt, List.getElem_take, List.getElem_drop, List.getElem_map, List.getElem_range]
  rw [List.getD_eq_getElem b 0 (by omega)]

/-- A word from its octets gives them back (R194). -/
theorem be4_word4 (b : List Octet) (i : Nat) :
    be4 (word4 b i) = [b.getD i 0, b.getD (i + 1) 0, b.getD (i + 2) 0, b.getD (i + 3) 0] := by
  have octets (w x y z : Octet) : be4 (w ++ x ++ y ++ z) = [w, x, y, z] := by
    have value : (w ++ x ++ y ++ z : BitVec (8 + 8 + 8 + 8)).toNat
        = 16777216 * w.toNat + 65536 * x.toNat + 256 * y.toNat + z.toNat := by
      rw [BitVec.toNat_append, BitVec.toNat_append, BitVec.toNat_append, ← Nat.shiftLeft_add_eq_or_of_lt z.isLt,
        ← Nat.shiftLeft_add_eq_or_of_lt y.isLt, ← Nat.shiftLeft_add_eq_or_of_lt x.isLt, Nat.shiftLeft_eq,
        Nat.shiftLeft_eq, Nat.shiftLeft_eq]
      omega
    have part {start : Nat} {o : Octet} (h : (16777216 * w.toNat + 65536 * x.toNat + 256 * y.toNat + z.toNat)
        / 2 ^ start % 256 = o.toNat) :
        (w ++ x ++ y ++ z : BitVec (8 + 8 + 8 + 8)).extractLsb' start 8 = o := by
      apply BitVec.eq_of_toNat_eq
      rw [BitVec.extractLsb'_toNat, value, Nat.shiftRight_eq_div_pow]
      exact h
    have hw := w.isLt
    have hx := x.isLt
    have hy := y.isLt
    have hz := z.isLt
    exact congr (congrArg List.cons (part (by omega))) (congr (congrArg List.cons (part (by omega)))
      (congr (congrArg List.cons (part (by omega))) (congr (congrArg List.cons (part (by omega))) rfl)))
  exact octets _ _ _ _

theorem num4_field4 (h : i + 4 ≤ b.length) : num4 (field4 b i) = octetsAt b i 4 := by
  rw [octetsAt_eq_map h, num4, field4, BitVec.ofInt_toInt, be4_word4]
  rfl

theorem num2_field2 (h : i + 2 ≤ b.length) : num2 (field2 b i) = octetsAt b i 2 := by
  have value : field2 b i = ((b.getD i 0).toNat * 256 + (b.getD (i + 1) 0).toNat : Nat) := by
    rw [field2]
    push_cast
    rfl
  have high : ((b.getD i 0).toNat * 256 + (b.getD (i + 1) 0).toNat) / 256 = (b.getD i 0).toNat := by
    have := (b.getD (i + 1) 0).isLt
    omega
  have low : BitVec.ofNat 8 ((b.getD i 0).toNat * 256 + (b.getD (i + 1) 0).toNat) = b.getD (i + 1) 0 := by
    apply BitVec.eq_of_toNat_eq
    have := (b.getD (i + 1) 0).isLt
    rw [BitVec.toNat_ofNat]
    omega
  rw [octetsAt_eq_map h, value, num2_eq, high, low, BitVec.ofNat_toNat, BitVec.setWidth_eq]
  rfl

theorem num1_field1 (h : i + 1 ≤ b.length) : num1 (field1 b i) = octetsAt b i 1 := by
  rw [octetsAt_eq_map h, num1, field1, BitVec.ofNat_toNat, BitVec.setWidth_eq]
  rfl

end

/-! ## Codes read and sent (11.8.1) -/

theorem StartMode.code_ofCode {n : Nat} (h : n ≤ 1) : (StartMode.ofCode n).code = n := by
  interval_cases n <;> rfl

theorem GripOpenAction.code_ofCode {n : Nat} (h : n ≤ 1) : (GripOpenAction.ofCode n).code = n := by
  interval_cases n <;> rfl

theorem LengthSource.code_ofCode {n : Nat} (h : n ≤ 1) : (LengthSource.ofCode n).code = n := by
  interval_cases n <;> rfl

theorem ExtUse.code_ofCode {n : Nat} (h : n ≤ 1) : (ExtUse.ofCode n).code = n := by
  interval_cases n <;> rfl

theorem ModulusMode.code_ofCode {n : Nat} (h : n ≤ 1) : (ModulusMode.ofCode n).code = n := by
  interval_cases n <;> rfl

theorem SegmentMode.code_ofCode {n : Nat} (h : n ≤ 2) : (SegmentMode.ofCode n).code = n := by
  interval_cases n <;> rfl

theorem EndEvent.code_ofCode {n : Nat} (h : n ≤ 3) : (EndEvent.ofCode n).code = n := by
  interval_cases n <;> rfl

/-! ## The fields of a body (11.8.3) -/

section
variable {b : List Octet}

/-- A segment whose mode and end event are codes of 11.8.1. -/
theorem segmentOctets_segmentOfOctets {s : Nat} (h : segmentOctet s + 14 ≤ b.length)
    (mode : field1 b (segmentOctet s) ≤ 2) (event : field1 b (segmentOctet s + 9) ≤ 3) :
    segmentOctets (segmentOfOctets b s) = octetsAt b (segmentOctet s) 14 := by
  rw [segmentOctets, segmentOfOctets]
  dsimp only
  rw [SegmentMode.code_ofCode mode, EndEvent.code_ofCode event, num1_field1 (by omega), num4_field4 (by omega),
    num2_field2 (by omega), num2_field2 (by omega), num1_field1 (by omega), num4_field4 (by omega),
    octetsAt_append b _ 1 4, octetsAt_append b _ 5 2, octetsAt_append b _ 7 2, octetsAt_append b _ 9 1,
    octetsAt_append b _ 10 4]

/-- The segments of a body follow one another from octet 59. -/
theorem segments_octets (n : Nat) (h : bodyLength n ≤ b.length)
    (codes : ∀ s < n, field1 b (segmentOctet (s + 1)) ≤ 2 ∧ field1 b (segmentOctet (s + 1) + 9) ≤ 3) :
    ((List.range n).map fun s => segmentOfOctets b (s + 1)).flatMap segmentOctets = octetsAt b 59 (14 * n) := by
  induction n with
  | zero => rfl
  | succ n ih =>
    obtain ⟨mode, event⟩ := codes n (Nat.lt_succ_self n)
    rw [bodyLength] at h
    have place : segmentOctet (n + 1) = 59 + 14 * n := by rw [segmentOctet, Nat.add_sub_cancel]
    have next := segmentOctets_segmentOfOctets (b := b) (s := n + 1) (by omega) mode event
    have before := ih (by rw [bodyLength]; omega) fun s hs => codes s (hs.trans (Nat.lt_succ_self n))
    rw [List.range_succ, List.map_append, List.flatMap_append, before, List.map_singleton, List.flatMap_singleton, next,
      place, octetsAt_append, Nat.mul_succ]

/-- The general fields of a body are its first 59 octets. -/
theorem programOctets_programOfOctets (h : 59 ≤ b.length) (start : field1 b 0 ≤ 1) (grips : field1 b 1 ≤ 1)
    (length : field1 b 2 ≤ 1) (range : field1 b 3 ≤ 3) (use : field1 b 14 ≤ 1) (mode : field1 b 25 ≤ 1) :
    programOctets (programOfOctets b)
      = octetsAt b 0 59 ++ (programOfOctets b).segments.flatMap segmentOctets := by
  have count : (programOfOctets b).segments.length = field1 b 58 := by simp [programOfOctets]
  have active : (rangeOfNat (field1 b 3)).val = field1 b 3 := Nat.mod_eq_of_lt (by omega)
  -- `delta`, since Lean does not finish generating the definition's own equation
  delta programOctets
  rw [count]
  simp only [programOfOctets, StartMode.code_ofCode start, GripOpenAction.code_ofCode grips,
    LengthSource.code_ofCode length, active, ExtUse.code_ofCode use, ModulusMode.code_ofCode mode]
  rw [num1_field1 (i := 0) (by omega), num1_field1 (i := 1) (by omega), num1_field1 (i := 2) (by omega),
    num1_field1 (i := 3) (by omega), num4_field4 (i := 4) (by omega), num4_field4 (i := 8) (by omega),
    num2_field2 (i := 12) (by omega), num1_field1 (i := 14) (by omega), num4_field4 (i := 15) (by omega),
    num4_field4 (i := 19) (by omega), num2_field2 (i := 23) (by omega), num1_field1 (i := 25) (by omega),
    num4_field4 (i := 26) (by omega), num4_field4 (i := 30) (by omega), num4_field4 (i := 34) (by omega),
    num2_field2 (i := 38) (by omega), num2_field2 (i := 40) (by omega), num4_field4 (i := 42) (by omega),
    num2_field2 (i := 46) (by omega), num2_field2 (i := 48) (by omega), num4_field4 (i := 50) (by omega),
    num2_field2 (i := 54) (by omega), num2_field2 (i := 56) (by omega), num1_field1 (i := 58) (by omega)]
  rw [octetsAt_append b 0 1 1, octetsAt_append b 0 2 1, octetsAt_append b 0 3 1, octetsAt_append b 0 4 4,
    octetsAt_append b 0 8 4, octetsAt_append b 0 12 2, octetsAt_append b 0 14 1, octetsAt_append b 0 15 4,
    octetsAt_append b 0 19 4, octetsAt_append b 0 23 2, octetsAt_append b 0 25 1, octetsAt_append b 0 26 4,
    octetsAt_append b 0 30 4, octetsAt_append b 0 34 4, octetsAt_append b 0 38 2, octetsAt_append b 0 40 2,
    octetsAt_append b 0 42 4, octetsAt_append b 0 46 2, octetsAt_append b 0 48 2, octetsAt_append b 0 50 4,
    octetsAt_append b 0 54 2, octetsAt_append b 0 56 2, octetsAt_append b 0 58 1]

end

/-! ## The checks (R12, R13) -/

/-- What the checks of a body make sure of its codes and its length. -/
theorem programFailure_eq_none {tables : PerRange (Option RangeTable)} {b : List Octet}
    (h : programFailure tables b = none) :
    b.length = bodyLength (field1 b 58) ∧ field1 b 0 ≤ 1 ∧ field1 b 1 ≤ 1 ∧ field1 b 2 ≤ 1 ∧ field1 b 3 ≤ 3
      ∧ field1 b 14 ≤ 1 ∧ field1 b 25 ≤ 1
      ∧ ∀ s < field1 b 58, field1 b (segmentOctet (s + 1)) ≤ 2 ∧ field1 b (segmentOctet (s + 1) + 9) ≤ 3 := by
  rw [programFailure] at h
  split at h
  · cases h
  next passed =>
    rw [lowestFailing_eq_none_iff] at h passed
    have check (i : Nat) (c : Bool) (hc : (i, c) ∈ generalChecks tables b) : c = true := passed (i, c) hc
    refine ⟨?_, ?_, ?_, ?_, ?_, ?_, ?_, fun s hs => ?_⟩
    · have := check 24 (within 1 4 (field1 b 58) && b.length == bodyLength (field1 b 58)) (by simp [generalChecks])
      simp only [Bool.and_eq_true, beq_iff_eq] at this
      exact this.2
    · exact of_decide_eq_true (check 1 (decide (field1 b 0 ≤ 1)) (by simp [generalChecks]))
    · exact of_decide_eq_true (check 2 (decide (field1 b 1 ≤ 1)) (by simp [generalChecks]))
    · exact of_decide_eq_true (check 3 (decide (field1 b 2 ≤ 1)) (by simp [generalChecks]))
    · exact of_decide_eq_true (check 4 (decide (field1 b 3 ≤ 3)) (by simp [generalChecks]))
    · exact of_decide_eq_true (check 8 (decide (field1 b 14 ≤ 1)) (by simp [generalChecks]))
    · exact of_decide_eq_true (check 12 (decide (field1 b 25 ≤ 1)) (by simp [generalChecks]))
    · have segment : ∀ c ∈ segmentChecks b (field1 b 58) (s + 1), c.2 = true := fun c hc =>
        h c (List.mem_flatMap.mpr ⟨s, List.mem_range.mpr hs, hc⟩)
      simp only [segmentChecks, List.forall_mem_cons, Bool.and_eq_true, decide_eq_true_eq] at segment
      obtain ⟨mode, -, -, -, ⟨⟨event, -⟩, -⟩, -⟩ := segment
      exact ⟨mode, event⟩

/-- Settles O7: the general fields give the first 59 octets, the segments the rest. -/
theorem writtenProgramReadsBack : Obligations.WrittenProgramReadsBack := by
  intro tables b h
  obtain ⟨length, start, grips, source, range, use, mode, codes⟩ := programFailure_eq_none h
  have long : 59 ≤ b.length := by rw [length, bodyLength]; omega
  have segments : (programOfOctets b).segments.flatMap segmentOctets = octetsAt b 59 (14 * field1 b 58) :=
    segments_octets (field1 b 58) length.ge codes
  rw [programOctets_programOfOctets long start grips source range use mode, segments, octetsAt_append b 0 59,
    ← bodyLength, ← length, octetsAt, List.drop_zero, List.take_length]

end Sys2Proof.Machine
end

section
/-! PROOFS. NOP and the reads (R188, 11.8): their replies, the live snapshot and the queue's entries at their octets. -/

namespace Sys2Proof.Machine

/-! ## The live snapshot (R188, 11.8.5) -/

/-- The speed sent as a word: the speed, or a free value beyond the signed range (log entry 38). -/
def speedWord (v : Int) : Word32 :=
  if within (-2147483648) 2147483647 v then BitVec.ofInt 32 v else Config.speedBeyondWord v

theorem speedOctets_eq (v : Int) : speedOctets v = be4 (speedWord v) := by
  rw [speedOctets, speedWord]
  split <;> rfl

theorem speedWord_of_within {v : Int} (h : -2147483648 ≤ v) (h' : v ≤ 2147483647) : speedWord v = BitVec.ofInt 32 v :=
  if_pos ((within_eq_true_iff _ _ _).mpr ⟨h, h'⟩)

/-- The flags of octet 4, from bit 0. -/
def State.liveFlags (s : State) : List Bool :=
  [s.load.last.force.isSome, s.load.last.held, s.strain.sigma.isSome, s.strain.epsilon.isSome, s.strain.source.isSome,
    s.drive.referenced, s.meter.rest, s.inputs.latch]

/-- The segment index sent (R188). -/
def State.liveSegment (s : State) : Nat :=
  if s.seq.state = .idle ∨ s.seq.state = .armed then 0 else s.seq.segment

/-- The snapshot's items in their order, an absent one as 0 (11.8.5). -/
theorem liveOctets_eq (s : State) :
    liveOctets s = List.flatten
      [num4 (s.load.last.force.getD 0), num1 (flagBits s.liveFlags), num4 (s.strain.sigma.getD 0),
        num4 (s.strain.epsilon.getD 0), num1 ((s.strain.source.map StrainSource.code).getD 0),
        be4 s.drive.encoder, be4 s.drive.commanded, be4 (speedWord s.meter.lastSpeed), num1 s.seq.state.code,
        num1 s.liveSegment, num1 s.link.state.code, num1 s.load.activeRange.val, num1 s.load.last.range.val,
        num1 (holderCode s.arbiter.holder)] := by
  simp only [liveOctets, List.flatten_cons, List.flatten_nil, List.append_nil, List.append_assoc, numOrZero,
    codeOrZero_eq, speedOctets_eq, weight_eq, State.liveSegment, State.liveFlags, flagBits, Nat.bit_val]
  congr 3
  omega

section
variable (l : List Octet) (w : Word32) (i : Nat)

theorem getD_pass_be4 : (be4 w ++ l).getD (i + 4) 0 = l.getD i 0 := rfl

end

theorem liveOctets_words (s : State) :
    word4 (liveOctets s) 0 = BitVec.ofInt 32 (s.load.last.force.getD 0)
    ∧ word4 (liveOctets s) 5 = BitVec.ofInt 32 (s.strain.sigma.getD 0)
    ∧ word4 (liveOctets s) 9 = BitVec.ofInt 32 (s.strain.epsilon.getD 0)
    ∧ word4 (liveOctets s) 14 = s.drive.encoder
    ∧ word4 (liveOctets s) 18 = s.drive.commanded
    ∧ word4 (liveOctets s) 22 = speedWord s.meter.lastSpeed := by
  simp only [liveOctets_eq, List.flatten_cons, word4_pass_num1, word4_pass_num4, word4_pass_be4, word4_num4, word4_be4,
    and_self]

theorem liveOctets_octets (s : State) :
    (liveOctets s).getD 4 0 = BitVec.ofNat 8 (flagBits s.liveFlags)
    ∧ (liveOctets s).getD 13 0 = BitVec.ofNat 8 ((s.strain.source.map StrainSource.code).getD 0)
    ∧ (liveOctets s).getD 26 0 = BitVec.ofNat 8 s.seq.state.code
    ∧ (liveOctets s).getD 27 0 = BitVec.ofNat 8 s.liveSegment
    ∧ (liveOctets s).getD 28 0 = BitVec.ofNat 8 s.link.state.code
    ∧ (liveOctets s).getD 29 0 = BitVec.ofNat 8 s.load.activeRange.val
    ∧ (liveOctets s).getD 30 0 = BitVec.ofNat 8 s.load.last.range.val
    ∧ (liveOctets s).getD 31 0 = BitVec.ofNat 8 (holderCode s.arbiter.holder) := by
  simp only [liveOctets_eq, List.flatten_cons, getD_pass_num1, getD_pass_num4, getD_pass_be4, getD_num1, and_self]

/-- A flag of octet 4. -/
theorem liveOctets_flag (s : State) {n : Nat} (hn : n < 8) :
    ((liveOctets s).getD 4 0).getLsbD n = s.liveFlags.getD n false := by
  obtain ⟨flags, -⟩ := liveOctets_octets s
  rw [flags, BitVec.getLsbD_ofNat, flagBits_testBit, decide_eq_true hn, Bool.true_and]

/-- A small number in one octet. -/
theorem octet_toNat {n : Nat} (h : n < 256) : (BitVec.ofNat 8 n).toNat = n :=
  Nat.mod_eq_of_lt h

theorem SeqState.code_lt (x : SeqState) : x.code < 256 := by cases x <;> decide

theorem LinkState.code_lt (x : LinkState) : x.code < 256 := by cases x <;> decide

theorem holderCode_lt (x : Option Party) : holderCode x < 256 := by
  match x with
  | none => decide
  | some p => cases p <;> decide

/-! ## The entries of the queue (11.8.2) -/

/-- The four items of a shape in their octets: its code, width, thickness and diameter. -/
def Shape.octets : Shape → List Octet
  | .flat w t => num1 0 ++ num4 w ++ num4 t ++ num4 0
  | .round d => num1 1 ++ num4 0 ++ num4 0 ++ num4 d

theorem Shape.octets_length (x : Shape) : x.octets.length = 13 := by cases x <;> rfl

theorem optional_eq (c : Option Word32) :
    optional 4 (c.map be4) = num1 (if c.isSome then 1 else 0) ++ be4 (c.getD 0) := by
  cases c <;> rfl

theorem entryOctets_eq (e : SpecimenEntry) :
    entryOctets e = e.id ++ (num1 e.slot ++ (e.shape.octets ++ (num4 e.parallel ++ (num4 e.gauge ++ (num4 e.area
      ++ (num1 e.state.code ++ (num1 (if e.capture.isSome then 1 else 0) ++ be4 (e.capture.getD 0)))))))) := by
  rw [entryOctets, optional_eq]
  cases e.shape <;> simp only [Shape.octets, List.append_assoc]

section
variable {l m : List Octet} (h : l.length = 13) (i : Nat)
include h

theorem getD_pass_shape : (l ++ m).getD (i + 13) 0 = m.getD i 0 := by
  rw [List.getD_append_right _ _ _ _ (by omega), h, Nat.add_sub_cancel]

theorem word4_pass_shape : word4 (l ++ m) (i + 13) = word4 m i := by
  simp only [word4, Nat.add_right_comm i 13, getD_pass_shape h]

end

section
variable {e : SpecimenEntry} (hid : e.id.length = 12)
include hid

theorem entryOctets_length : (entryOctets e).length = 44 := by
  rw [entryOctets_eq]
  simp [hid, e.shape.octets_length, num1, num4, be4]

theorem entryOctets_take : (entryOctets e).take 12 = e.id := by
  rw [entryOctets_eq]
  exact List.take_left' hid

theorem entryOctets_slot : (entryOctets e).getD 12 0 = BitVec.ofNat 8 e.slot := by
  rw [entryOctets_eq]
  exact (getD_pass_id _ 0 hid).trans (getD_num1 _ _)

/-- The shape's items follow the slot. -/
theorem entryOctets_shape {code : Nat} {width thickness diameter : Int}
    (hs : e.shape.octets = num1 code ++ num4 width ++ num4 thickness ++ num4 diameter) :
    (entryOctets e).getD 13 0 = BitVec.ofNat 8 code ∧ word4 (entryOctets e) 14 = BitVec.ofInt 32 width
      ∧ word4 (entryOctets e) 18 = BitVec.ofInt 32 thickness ∧ word4 (entryOctets e) 22 = BitVec.ofInt 32 diameter := by
  simp only [entryOctets_eq, hs, List.append_assoc, getD_pass_id _ _ hid, word4_pass_id _ _ hid, getD_pass_num1,
    word4_pass_num1, word4_pass_num4, getD_num1, word4_num4, and_self]

/-- The items behind the shape. -/
theorem entryOctets_behind :
    word4 (entryOctets e) 26 = BitVec.ofInt 32 e.parallel ∧ word4 (entryOctets e) 30 = BitVec.ofInt 32 e.gauge
      ∧ word4 (entryOctets e) 34 = BitVec.ofInt 32 e.area
      ∧ (entryOctets e).getD 38 0 = BitVec.ofNat 8 e.state.code
      ∧ (entryOctets e).getD 39 0 = BitVec.ofNat 8 (if e.capture.isSome then 1 else 0)
      ∧ word4 (entryOctets e) 40 = e.capture.getD 0 := by
  have shape := e.shape.octets_length
  simp only [entryOctets_eq, getD_pass_id _ _ hid, word4_pass_id _ _ hid, getD_pass_shape shape,
    word4_pass_shape shape, getD_pass_num1, getD_pass_num4, word4_pass_num1, word4_pass_num4, getD_num1, word4_num4,
    word4_be4_self, and_self]

end

/-! ## The requests -/

section
variable {p : Role} {s : State}

/-- A read any role may ask for. -/
theorem read_reaches_block {k : RequestKind} (hk : k.row.roles = rolesCLQ) (ht : s.takes p = true)
    (own : State → State) : s.request p k own = own s :=
  State.request_of_takes k own ht (by rw [hk]; exact rolesCLQ_mem p)

end

/-- Settles O5: every read by `read_reaches_block`; the snapshot and an entry by their items in order. -/
theorem readsChangeNothing : Obligations.ReadsChangeNothing := by
  refine ⟨fun p s ht => ?_, fun s => ?_, fun q => rfl, ?_⟩
  · exact ⟨congrArg Host.Outcome.next (read_reaches_block rfl ht _),
      congrArg Host.Outcome.next (read_reaches_block rfl ht _),
      congrArg Host.Outcome.next (read_reaches_block rfl ht _),
      congrArg Host.Outcome.next (read_reaches_block rfl ht _),
      congrArg Host.Outcome.next (read_reaches_block rfl ht _),
      congrArg Host.Outcome.next (read_reaches_block rfl ht _),
      congrArg Host.Outcome.next (read_reaches_block rfl ht _),
      congrArg Host.Outcome.next (read_reaches_block rfl ht _),
      congrArg Host.Outcome.next (read_reaches_block rfl ht _)⟩
  · obtain ⟨force, sigma, epsilon, encoder, commanded, speed⟩ := liveOctets_words s
    obtain ⟨-, source, state, segment, link, active, range, holder⟩ := liveOctets_octets s
    refine ⟨?_, force, sigma, epsilon, encoder, commanded, fun lo hi => speed.trans (speedWord_of_within lo hi),
      liveOctets_flag s (by decide), liveOctets_flag s (by decide), liveOctets_flag s (by decide),
      liveOctets_flag s (by decide), liveOctets_flag s (by decide), liveOctets_flag s (by decide),
      liveOctets_flag s (by decide), liveOctets_flag s (by decide), ?_, ?_, fun quiet => ?_, fun notIdle notArmed few => ?_,
      ?_, ?_, ?_, ?_⟩
    · rw [liveOctets_eq]
      rfl
    · rw [source]
      match s.strain.source with
      | none => rfl
      | some .extensometer => rfl
      | some .crosshead => rfl
    · rw [state, octet_toNat (SeqState.code_lt _)]
    · rw [segment, State.liveSegment, if_pos quiet]
      rfl
    · rw [segment, State.liveSegment, if_neg (by simp [notIdle, notArmed]), octet_toNat (by omega)]
    · rw [link, octet_toNat (LinkState.code_lt _)]
    · rw [active, octet_toNat (by omega)]
    · rw [range, octet_toNat (by omega)]
    · rw [holder, octet_toNat (holderCode_lt _)]
  · rintro e o hid rfl
    obtain ⟨parallel, gauge, area, state, captured, capture⟩ := entryOctets_behind hid
    refine ⟨entryOctets_length hid, entryOctets_take hid, entryOctets_slot hid, fun width thickness shape => ?_,
      fun diameter shape => ?_, parallel, gauge, area, ?_, ?_, capture⟩
    · exact entryOctets_shape hid (by rw [shape]; rfl)
    · exact entryOctets_shape hid (by rw [shape]; rfl)
    · rw [state]
      cases e.state <;> rfl
    · rw [captured]
      cases e.capture <;> rfl

end Sys2Proof.Machine
end

section
/-! PROOFS. The filters of the frame inputs (R171, R172) and the grips' edges (R8, R33, R44, R176, R177). -/

namespace Sys2Proof.Machine

/-! ## The filters (R172) -/

section
variable {filter : Option Nat} {limit : Nat}

theorem filterDone_eq_true {n : Nat} (h : filter = some n) (done : limit ≤ n) : filterDone limit filter = true := by
  rw [h]
  exact decide_eq_true done

theorem filterDone_eq_false (h : ∀ n, filter = some n → n < limit) : filterDone limit filter = false := by
  cases hf : filter with
  | none => rfl
  | some n => exact decide_eq_false (not_le.mpr (h n hf))

theorem filterAfter_eq (accepted level : Bool) (filter : Option Nat) :
    filterAfter accepted level filter = if accepted = level then none else some (filter.getD 0) := by
  unfold filterAfter
  simp only [eq_comm (a := level)]
  cases filter <;> rfl

end

section
variable {s : State} (hp : s.power = .running)
include hp

theorem exec_frameStopPin (high : Bool) :
    exec (.inputPinChange .frameStop high) s = .next { s with inputs := { s.inputs with
      frameStopFilter := if s.inputs.frameStop = !high then none else some (s.inputs.frameStopFilter.getD 0) } } := by
  rw [exec, execInputPinChange, State.whenRunning_of_running hp]
  dsimp only
  rw [filterAfter_eq]
  rfl

theorem exec_gripsPin (high : Bool) :
    exec (.inputPinChange .gripsClosed high) s = .next { s with inputs := { s.inputs with
      gripsFilter := if s.inputs.grips = high then none else some (s.inputs.gripsFilter.getD 0) } } := by
  rw [exec, execInputPinChange, State.whenRunning_of_running hp]
  dsimp only
  rw [filterAfter_eq]
  rfl

theorem exec_frameStopAcceptedActive_of_early (h : s.inputs.frameStopAccepts = false) :
    exec .frameStopAcceptedActive s = .next s := by
  rw [exec, execFrameStopAcceptedActive, State.whenRunning_of_running hp, if_neg (by simp [h])]

theorem exec_frameStopAcceptedInactive_of_early (h : s.inputs.frameStopAccepts = false) :
    exec .frameStopAcceptedInactive s = .next s := by
  rw [exec, execFrameStopAcceptedInactive, State.whenRunning_of_running hp, if_neg (by simp [h])]

theorem exec_gripsClosingEdge_of_early (h : s.inputs.gripsAccepts = false) : exec .gripsClosingEdge s = .next s := by
  rw [exec, execGripsClosingEdge, State.whenRunning_of_running hp, if_neg (by simp [h])]

theorem exec_gripsOpeningEdge_of_early (h : s.inputs.gripsAccepts = false) : exec .gripsOpeningEdge s = .next s := by
  rw [exec, execGripsOpeningEdge, State.whenRunning_of_running hp, if_neg (by simp [h])]

/-! ## The edges (R8, R33, R44) -/

theorem exec_gripsClosingEdge_of_done (accepts : s.inputs.gripsAccepts = true) (opened : s.inputs.grips = false)
    {closed : State} (hc : closed = { s with inputs := { s.inputs with grips := true, gripsFilter := none } }) :
    exec .gripsClosingEdge s = .next (closed.captureGrip s.drive.encoder).testGripsStart := by
  rw [exec, execGripsClosingEdge, State.whenRunning_of_running hp, if_pos ⟨by simp [opened], accepts⟩, hc]

theorem exec_gripsOpeningEdge_of_done (accepts : s.inputs.gripsAccepts = true) (closed : s.inputs.grips = true)
    {opened : State} (ho : opened = { s with inputs := { s.inputs with grips := false, gripsFilter := none } }) :
    exec .gripsOpeningEdge s = .next opened.gripsOpened := by
  rw [exec, execGripsOpeningEdge, State.whenRunning_of_running hp, if_pos ⟨closed, accepts⟩, ho]

end

section
variable {s : State}

theorem State.captureGrip_of_empty (h : s.queue = []) (x : Word32) : s.captureGrip x = s := by
  rw [State.captureGrip, h]

theorem State.captureGrip_of_inTest {e : SpecimenEntry} {rest : List SpecimenEntry} (h : s.queue = e :: rest)
    (test : e.state = .inTest) (x : Word32) : s.captureGrip x = s := by
  rw [State.captureGrip, h]
  exact if_pos test

theorem State.captureGrip_of_free {e : SpecimenEntry} {rest : List SpecimenEntry} (h : s.queue = e :: rest)
    (free : e.state ≠ .inTest) (x : Word32) :
    s.captureGrip x = { s with queue := { e with capture := some x } :: rest } := by
  rw [State.captureGrip, h]
  exact if_neg free

theorem State.testGripsStart_of_not_armed (h : s.seq.state ≠ .armed) : s.testGripsStart = s :=
  State.testGripsStart_of_not_ready (by simp [State.gripsStartReady, h])

/-- An opening edge that aborts the test (R44). -/
theorem State.gripsOpened_of_early (h : s.seq.state = .preload ∨ s.seq.state = .attach) :
    s.gripsOpened = (s.enterEnding .aborted (some .gripsOpened)).testEnding := by
  rw [State.gripsOpened]
  rcases h with h | h <;> rw [h]

theorem State.gripsOpened_of_run_hold (h : s.seq.state = .run) {b : ProgramBody} (hb : s.headProgram = some b)
    (mode : b.gripOpen = .hold) : s.gripsOpened = s.enterHold := by
  rw [State.gripsOpened, h, hb]
  simp only [mode]

theorem State.gripsOpened_of_run_abort (h : s.seq.state = .run) {b : ProgramBody} (hb : s.headProgram = some b)
    (mode : b.gripOpen = .abort) : s.gripsOpened = (s.enterEnding .aborted (some .gripsOpened)).testEnding := by
  rw [State.gripsOpened, h, hb]
  simp only [mode]

end

/-- Settles O51: the filters, then the closing edge by the head and the start conditions, and the opening edge by the
sequencer's state. -/
theorem pinsAndGripsActByRule : Obligations.PinsAndGripsActByRule := by
  intro s hp
  refine ⟨fun high => ⟨exec_frameStopPin hp high, exec_gripsPin hp high⟩, fun early => ?_, fun early => ?_,
    fun n timed done opened closed hclosed => ?_, fun n timed done grips opened hopened => ?_⟩
  · have wait : s.inputs.frameStopAccepts = false := filterDone_eq_false early
    exact ⟨exec_frameStopAcceptedActive_of_early hp wait, exec_frameStopAcceptedInactive_of_early hp wait⟩
  · have wait : s.inputs.gripsAccepts = false := filterDone_eq_false early
    exact ⟨exec_gripsClosingEdge_of_early hp wait, exec_gripsOpeningEdge_of_early hp wait⟩
  · rw [exec_gripsClosingEdge_of_done hp (filterDone_eq_true timed done) opened hclosed]
    have queue : closed.queue = s.queue := by rw [hclosed]
    have state : closed.seq = s.seq := by rw [hclosed]
    refine ⟨fun empty idle => ?_, fun e rest hq => ⟨fun test idle => ?_, fun free captured hcaptured => ?_⟩⟩
    · rw [State.captureGrip_of_empty (queue.trans empty),
        State.testGripsStart_of_not_armed (by rw [state]; exact idle)]
    · rw [State.captureGrip_of_inTest (queue.trans hq) test,
        State.testGripsStart_of_not_armed (by rw [state]; exact idle)]
    · rw [State.captureGrip_of_free (queue.trans hq) free, ← hcaptured]
      have state' : captured.seq = s.seq := by rw [hcaptured]; exact state
      refine ⟨fun idle => ?_, fun armed b hb => ?_⟩
      · rw [State.testGripsStart_of_not_armed (by rw [state']; exact idle)]
      · have ready := State.gripsStartReady_iff (s := captured) (e := { e with capture := some s.drive.encoder })
          (rest := rest) (b := b) (by rw [hcaptured]) (by rw [hcaptured, hclosed]; exact hb)
        have blocks : captured.arbiter = s.arbiter ∧ captured.inputs.grips = true ∧ captured.load = s.load := by
          rw [hcaptured, hclosed]
          exact ⟨rfl, rfl, rfl⟩
        obtain ⟨arbiter, grips, load⟩ := blocks
        rw [state', arbiter, grips, load] at ready
        refine ⟨fun mode hh seen tare fault => ?_, fun fails => ?_⟩
        · rw [State.testGripsStart_of_ready (ready.mpr ⟨armed, mode, hh, seen, rfl, tare, fault⟩)]
        · rw [State.testGripsStart_of_not_ready]
          rw [ready]
          rintro ⟨-, mode, hh, seen, -, tare, fault⟩
          simp [mode, hh, seen, tare, fault] at fails
  · rw [exec_gripsOpeningEdge_of_done hp (filterDone_eq_true timed done) grips hopened]
    have state : opened.seq = s.seq := by rw [hopened]
    refine ⟨fun quiet => ?_, fun armed => ?_, fun early => ?_, fun run b hb hh hv => ⟨fun mode => ?_, fun mode => ?_⟩,
      fun ending => ?_⟩
    · rw [State.gripsOpened, state]
      rcases quiet with h | h <;> rw [h]
    · rw [State.gripsOpened, state, armed]
    · rw [State.gripsOpened_of_early (by rw [state]; exact early)]
    · rw [State.gripsOpened_of_run_hold (b := b) (by rw [state]; exact run) (by rw [hopened]; exact hb) mode]
      rw [State.enterHold_eq (by rw [hopened]; exact hh) (by rw [hopened]; exact hv), hopened]
    · rw [State.gripsOpened_of_run_abort (b := b) (by rw [state]; exact run) (by rw [hopened]; exact hb) mode]
    · rw [State.gripsOpened, state, ending]
      dsimp only
      rw [State.addNote_eq, state]

end Sys2Proof.Machine
end

section
/-! PROOFS. The frame-stop latch (R173, R174): the loss of the authority by every party, and what the end of a test leaves
while the latch is set. -/

namespace Sys2Proof.Machine

/-! ## Notices that stay through a loss of the authority -/

section
variable {s : State}

theorem State.toLinkState_stay (st : LinkState) : NoticesStay s (s.toLinkState st) :=
  .trans (.of_ports rfl) (State.addNotice_stay { s with link := { s.link with state := st } } .console .extState)

theorem State.requestDetach_stay (owner : CommandOwner) : NoticesStay s (s.requestDetach owner) := by
  cases h : s.link.state with
  | streaming =>
    rw [State.requestDetach_of_hands (ExtLink.detachHands_iff.mpr (.inl h))]
    exact .trans (.of_ports rfl) (State.toLinkState_stay .opening)
  | closing =>
    cases queued : s.link.queued .closeArms with
    | true =>
      rw [State.requestDetach_of_closing_queued h queued]
      exact .trans (.of_ports rfl) (State.addNotice_stay _ _ _)
    | false =>
      rw [State.requestDetach_of_hands (ExtLink.detachHands_iff.mpr (.inr ⟨h, queued⟩))]
      exact .trans (.of_ports rfl) (State.toLinkState_stay .opening)
  | waking =>
    rw [State.requestDetach_of_waking h]
    exact .of_ports rfl
  | ready =>
    rw [State.requestDetach_of_ready h]
    split
    · split
      · exact .of_ports rfl
      · exact .of_ports rfl
    · exact .refl
  | asleep | opening | lost =>
    rw [State.requestDetach_of_settled (by simp [h])]
    exact .refl

theorem State.detachForEnding_stay : NoticesStay s s.detachForEnding := by
  rw [State.detachForEnding]
  split
  · exact s.requestDetach_stay _
  · exact s.requestDetach_stay _
  · split
    · exact s.requestDetach_stay _
    · exact .refl
  · split
    · exact s.requestDetach_stay _
    · exact .refl
  · exact .refl

theorem State.enterEnding_stay (outcome : TestOutcome) (cause : Option Cause) :
    NoticesStay s (s.enterEnding outcome cause) := by
  rw [State.enterEnding]
  exact s.detachForEnding_stay.trans (.trans (.of_ports rfl) (State.seqWrite_stay (s := { s.detachForEnding with
    seq := { s.detachForEnding.seq with
      state := .ending, outcome := some outcome, cause := cause, endingTimer := some 0 }
    eval := { s.detachForEnding.eval with detectors := false } }) 0))

theorem State.reportFault_stay (cause : Cause) : NoticesStay s (s.reportFault cause) := by
  rw [State.reportFault]
  split
  · exact s.enterEnding_stay _ _
  · split
    · rw [State.addNote_eq]
      exact .of_ports rfl
    · exact .refl

theorem State.pauseAutoArm_stay : NoticesStay s s.pauseAutoArm := by
  rw [State.pauseAutoArm]
  split
  · exact .of_ports rfl
  · exact .refl

theorem State.authorityLost_stay (cause : Cause) : NoticesStay s (s.authorityLost cause) := by
  rw [State.authorityLost]
  split
  · split
    · exact .of_ports (by simp)
    · exact .trans (.of_ports (by simp)) s.undoArming.pauseAutoArm_stay
  · exact s.reportFault_stay _

theorem State.addNoticeAll_stay (n : Notice) : NoticesStay s (s.addNoticeAll n) :=
  ((s.addNotice_stay _ _).trans (State.addNotice_stay _ _ _)).trans (State.addNotice_stay _ _ _)

/-- Every port's set holds a notice to all (R186). -/
theorem State.addNoticeAll_notices (n : Notice) (p : Role) :
    ((s.addNoticeAll n).ports.get p).notices = withNotice (s.ports.get p).notices n := by
  cases p <;> simp [State.addNoticeAll]

theorem State.addNoticeAll_hasNotice (n : Notice) (p : Role) : ((s.addNoticeAll n).ports.get p).hasNotice n = true := by
  rw [Port.hasNotice, State.addNoticeAll_notices]
  exact withNotice_hasNotice _ n

theorem State.noticeRevoked_stay (holder : Option Party) : NoticesStay s (s.noticeRevoked holder) := by
  rw [State.noticeRevoked]
  split
  · exact s.addNotice_stay _ _
  · exact .refl

theorem State.noticeRevoked_hasNotice {holder : Option Party} {q : Party} {p : Role} (hh : holder = some q)
    (hq : q.port = some p) : ((s.noticeRevoked holder).ports.get p).hasNotice .authorityRevoked = true := by
  rw [State.noticeRevoked, hh, Option.bind_some, hq]
  exact s.addNotice_hasNotice _ _

theorem State.denyWaiting_stay : NoticesStay s s.denyWaiting := by
  have optional (t : State) (b : Bool) (p : Role) : NoticesStay t (if b then t.addNotice p .authorityDenied else t) := by
    cases b
    · exact .refl
    · exact t.addNotice_stay p _
  have emptied : NoticesStay s { s with arbiter := { s.arbiter with waiting := [] } } := .of_ports rfl
  rw [State.denyWaiting]
  dsimp only
  exact emptied.trans ((optional _ _ _).trans (optional _ _ _))

theorem State.denyWaiting_hasNotice {q : Party} {p : Role} (hq : q.port = some p) (waits : q ∈ s.arbiter.waiting) :
    (s.denyWaiting.ports.get p).hasNotice .authorityDenied = true := by
  have present : s.arbiter.waiting.contains q = true := by simpa using waits
  rw [State.denyWaiting]
  cases q with
  | console =>
    cases hq
    simp only [present, if_true]
    split
    · exact State.addNotice_stay _ _ _ _ _ (State.addNotice_hasNotice _ _ _)
    · exact State.addNotice_hasNotice _ _ _
  | cell =>
    cases hq
    simp only [present, if_true]
    exact State.addNotice_hasNotice _ _ _
  | sequencer => cases hq

end

/-! ## The sequencer without the authority (R31, R46) -/

section
variable {s : State}

theorem State.seqWrite_of_not_holder (h : s.arbiter.holder ≠ some .sequencer) (v : Int) : s.seqWrite v = s :=
  if_neg h

theorem State.enterEnding_seq (outcome : TestOutcome) (cause : Option Cause) :
    (s.enterEnding outcome cause).seq =
      { s.seq with state := .ending, outcome := some outcome, cause := cause, endingTimer := some 0 } := by
  simp [State.enterEnding]

/-- Without the authority an entry to ENDING writes no velocity (R25). -/
theorem State.enterEnding_drive_of_not_holder (outcome : TestOutcome) (cause : Option Cause)
    (h : s.arbiter.holder ≠ some .sequencer) : (s.enterEnding outcome cause).drive = s.drive := by
  rw [State.enterEnding]
  dsimp only
  rw [State.seqWrite_of_not_holder (by simpa using h)]
  simp

theorem State.reportFault_drive_of_not_holder (cause : Cause) (h : s.arbiter.holder ≠ some .sequencer) :
    (s.reportFault cause).drive = s.drive := by
  rw [State.reportFault]
  split
  · exact State.enterEnding_drive_of_not_holder _ _ h
  · split
    · simp
    · rfl

theorem State.authorityLost_of_not_armed (cause : Cause) (h : s.seq.state ≠ .armed) :
    s.authorityLost cause = s.reportFault cause :=
  if_neg h

theorem State.authorityLost_frameStop_of_armed (h : s.seq.state = .armed) :
    s.authorityLost .frameStop = s.undoArming := by
  rw [State.authorityLost, if_pos h, if_pos rfl]

theorem State.authorityLost_drive_of_not_holder (cause : Cause) (h : s.arbiter.holder ≠ some .sequencer) :
    (s.authorityLost cause).drive = s.drive := by
  rw [State.authorityLost]
  split
  · split <;> simp
  · exact State.reportFault_drive_of_not_holder _ h

end

/-! ## The end of a test under the latch (R48, R49) -/

section
variable {s : State}

/-- What a completion under the latch leaves: no grant follows, and auto-arm does not examine the head. -/
def State.keepsMotion (s t : State) : Prop :=
  t.inputs = s.inputs ∧ t.arbiter = s.arbiter ∧ t.drive = s.drive ∧ t.load = s.load ∧ t.meter = s.meter
    ∧ t.config = s.config ∧ NoticesStay s t

theorem State.keepsMotion_refl : s.keepsMotion s := ⟨rfl, rfl, rfl, rfl, rfl, rfl, .refl⟩

theorem State.releaseAtCompletion_of_alone (h : s.arbiter = ⟨none, []⟩) : s.releaseAtCompletion = s := by
  have front : s.grantFront = s := State.grantFront_of_empty (by rw [h])
  rw [State.releaseAtCompletion]
  simp [h, front]

theorem State.completed_keepsMotion (h : s.arbiter = ⟨none, []⟩) (r : ResultRecord) : s.keepsMotion (s.completed r) := by
  have released : (s.fileRecord r).removeHead.releaseAtCompletion = (s.fileRecord r).removeHead :=
    State.releaseAtCompletion_of_alone (by simpa using h)
  have recorded : NoticesStay s (s.fileRecord r) := by
    have stored : NoticesStay s { s with
        results := { s.results with records := s.results.records ++ [r], reserved := false } } := .of_ports rfl
    exact stored.trans (State.addNoticeTo_stay _ _)
  have cleared : NoticesStay (s.fileRecord r).removeHead (State.clearTest { (s.fileRecord r).removeHead with
      seq := { (s.fileRecord r).removeHead.seq with state := .idle, openSeen := false, endingTimer := none } }) :=
    .of_ports rfl
  rw [State.completed, released]
  refine ⟨?_, ?_, ?_, ?_, ?_, ?_, recorded.trans (State.removeHead_stay.trans (cleared.trans State.noticeTestEnd_stay))⟩
  all_goals simp [State.clearTest]

theorem State.testEnding_keepsMotion (free : s.arbiter = ⟨none, []⟩) (latch : s.inputs.latch = true) :
    s.keepsMotion s.testEnding := by
  rw [State.testEnding]
  split
  · rw [State.completeTest]
    split
    next e outcome _ _ =>
      have kept := State.completed_keepsMotion free (s.assembleRecord e outcome s.seq.cause s.seq.note)
      have unexamined : ¬ (s.completed (s.assembleRecord e outcome s.seq.cause s.seq.note)).autoArmReady = true := by
        rw [State.autoArmReady_iff, kept.1, latch]
        simp
      have same := State.examineHead_of_not_ready unexamined
      rw [State.completed] at same kept
      dsimp only at same kept ⊢
      rw [same]
      exact kept
    · exact State.keepsMotion_refl
  · exact State.keepsMotion_refl

end

/-! ## The latch sets (R173) -/

section
variable {s : State}

/-- The loss of the authority by the holder and by every waiter, before the sequencer is told. -/
def State.authorityCleared (s : State) : State :=
  ((State.dropHolder { s with inputs := { s.inputs with latch := true } } .frameStop).noticeRevoked
    s.arbiter.holder).denyWaiting

/-- The state a setting of the latch makes, before the wait of ENDING is tested. -/
def State.latched (s : State) : State :=
  (s.authorityCleared.authorityLost .frameStop).addNoticeAll .frameStop

theorem State.setLatch_eq : s.setLatch = s.latched.testEnding := rfl

theorem State.authorityCleared_eq : s.authorityCleared = { s with
    ports := s.authorityCleared.ports, arbiter := ⟨none, []⟩, drive := s.drive.dropped .frameStop
    inputs := { s.inputs with latch := true } } := by
  refine State.eq_of_blocks rfl ?_
  simp [State.authorityCleared, State.denyWaiting_arbiter, State.dropHolder_drive_eq]

theorem State.authorityCleared_notices {q : Party} {p : Role} (hq : q.port = some p) :
    (s.arbiter.holder = some q → (s.authorityCleared.ports.get p).hasNotice .authorityRevoked = true)
      ∧ (q ∈ s.arbiter.waiting → (s.authorityCleared.ports.get p).hasNotice .authorityDenied = true) := by
  refine ⟨fun holds => ?_, fun waits => ?_⟩
  · exact State.denyWaiting_stay _ _ (State.noticeRevoked_hasNotice holds hq)
  · exact State.denyWaiting_hasNotice hq (by simpa using waits)

theorem State.latched_blocks : s.latched.inputs = { s.inputs with latch := true } ∧ s.latched.arbiter = ⟨none, []⟩
    ∧ s.latched.drive = s.drive.dropped .frameStop ∧ s.latched.load = s.load ∧ s.latched.meter = s.meter
    ∧ s.latched.config = s.config := by
  have cleared := s.authorityCleared_eq
  have free : s.authorityCleared.arbiter.holder ≠ some .sequencer := by rw [cleared]; simp
  simp only [State.latched, State.addNoticeAll_frame, State.authorityLost_frame,
    State.authorityLost_drive_of_not_holder _ free]
  rw [cleared]
  exact ⟨rfl, rfl, rfl, rfl, rfl, rfl⟩

theorem State.latched_stay : NoticesStay s.authorityCleared s.latched :=
  (State.authorityLost_stay _).trans (State.addNoticeAll_stay _)

/-- With no test under way the sequencer keeps its state. -/
theorem State.latched_of_idle (h : s.seq.state = .idle) :
    s.latched.seq = s.seq ∧ s.latched.queue = s.queue ∧ s.latched.results = s.results := by
  have cleared := s.authorityCleared_eq
  have idle : s.authorityCleared.seq.state = .idle := by rw [cleared]; exact h
  rw [State.latched, State.authorityLost_of_not_armed _ (by rw [idle]; simp),
    State.reportFault_of_no_test _ (.inl idle)]
  simp only [State.addNoticeAll_frame]
  rw [cleared]
  exact ⟨rfl, rfl, rfl⟩

theorem State.latched_of_armed (h : s.seq.state = .armed) :
    s.latched.seq = { s.seq with state := .idle, openSeen := false }
      ∧ s.latched.results = { s.results with reserved := false }
      ∧ ∀ e rest, s.queue = e :: rest → s.latched.queue = { e with state := .waiting } :: rest := by
  have cleared := s.authorityCleared_eq
  have armed : s.authorityCleared.seq.state = .armed := by rw [cleared]; exact h
  have blocks : s.authorityCleared.seq = s.seq ∧ s.authorityCleared.results = s.results
      ∧ s.authorityCleared.queue = s.queue := by
    rw [cleared]
    exact ⟨rfl, rfl, rfl⟩
  obtain ⟨seq, results, queue⟩ := blocks
  rw [State.latched, State.authorityLost_frameStop_of_armed armed]
  simp only [State.addNoticeAll_frame]
  refine ⟨?_, ?_, fun e rest hq => ?_⟩
  · simp [State.undoArming, seq]
  · simp [State.undoArming, results]
  · rw [State.undoArming_of_cons (queue.trans hq)]

theorem State.latched_of_test (h : s.seq.state.underTest = true) :
    s.latched.seq = { s.seq with
      state := .ending, outcome := some .aborted, cause := some .frameStop, endingTimer := some 0 } := by
  have seq : s.authorityCleared.seq = s.seq := by rw [s.authorityCleared_eq]
  have notArmed : s.authorityCleared.seq.state ≠ .armed := by
    rw [seq]
    intro armed
    rw [armed] at h
    cases h
  rw [State.latched, State.authorityLost_of_not_armed _ notArmed, State.reportFault_of_test _ (by rw [seq]; exact h)]
  simp only [State.addNoticeAll_frame, State.enterEnding_seq, seq]

theorem State.latched_of_ending (h : s.seq.state = .ending) :
    s.latched.seq = { s.seq with note := s.seq.note.or (some .frameStop) } := by
  have seq : s.authorityCleared.seq = s.seq := by rw [s.authorityCleared_eq]
  have ending : s.authorityCleared.seq.state = .ending := by rw [seq]; exact h
  rw [State.latched, State.authorityLost_of_not_armed _ (by rw [ending]; simp), State.reportFault_of_ending _ ending]
  simp only [State.addNoticeAll_frame, seq]

end

section
variable {s : State} (hp : s.power = .running) (accepts : s.inputs.frameStopAccepts = true)
include hp accepts

theorem exec_frameStopAcceptedActive_of_clear (inactive : s.inputs.frameStop = false) (clear : s.inputs.latch = false) :
    exec .frameStopAcceptedActive s = .next (State.setLatch { s with
      inputs := { s.inputs with frameStop := true, frameStopFilter := none } }) := by
  rw [exec, execFrameStopAcceptedActive, State.whenRunning_of_running hp, if_pos ⟨by simp [inactive], accepts⟩]
  exact congrArg Host.Outcome.next (if_neg (by simp [clear]))

theorem exec_frameStopAcceptedActive_of_latch (inactive : s.inputs.frameStop = false) (set : s.inputs.latch = true) :
    exec .frameStopAcceptedActive s = .next { s with
      inputs := { s.inputs with frameStop := true, frameStopFilter := none } } := by
  rw [exec, execFrameStopAcceptedActive, State.whenRunning_of_running hp, if_pos ⟨by simp [inactive], accepts⟩]
  exact congrArg Host.Outcome.next (if_pos set)

theorem exec_frameStopAcceptedInactive_of_active (active : s.inputs.frameStop = true) :
    exec .frameStopAcceptedInactive s = .next { s with
      inputs := { s.inputs with frameStop := false, frameStopFilter := none } } := by
  rw [exec, execFrameStopAcceptedInactive, State.whenRunning_of_running hp, if_pos ⟨active, accepts⟩]

end

/-! ## CLEAR_FRAME_STOP (R174) -/

section
variable {s : State} (ht : s.takes .console = true)
include ht

theorem clearFrameStop_reaches_latch (own : State → State) : s.request .console .clearFrameStop own = own s :=
  State.request_of_takes .clearFrameStop own ht (by decide)

theorem exec_clearFrameStop_of_active (active : s.inputs.frameStop = true) :
    exec (.clearFrameStop .console) s = .next (s.answer .console .clearFrameStop .wrongState []) := by
  rw [exec, execClearFrameStop, clearFrameStop_reaches_latch ht, if_pos active, State.refuse]

theorem exec_clearFrameStop_of_clear (inactive : s.inputs.frameStop = false) (clear : s.inputs.latch = false) :
    exec (.clearFrameStop .console) s = .next (s.answer .console .clearFrameStop .ok []) := by
  rw [exec, execClearFrameStop, clearFrameStop_reaches_latch ht, if_neg (by simp [inactive]), if_neg (by simp [clear])]

theorem exec_clearFrameStop_of_set (inactive : s.inputs.frameStop = false) (set : s.inputs.latch = true) :
    exec (.clearFrameStop .console) s = .next ((State.addNoticeAll { s with
      inputs := { s.inputs with latch := false } } .frameStopCleared).answer .console .clearFrameStop .ok
        []).examineHead := by
  rw [exec, execClearFrameStop, clearFrameStop_reaches_latch ht, if_neg (by simp [inactive]), if_pos set]

end

/-- Settles O52: the setting of the latch by the blocks of `latched`, which the wait of ENDING leaves as they are. -/
theorem frameStopSetsAndClears : Obligations.FrameStopSetsAndClears := by
  intro s
  refine ⟨fun hp timed => ?_, fun ht => ⟨exec_clearFrameStop_of_active ht, exec_clearFrameStop_of_clear ht,
    fun inactive set => ⟨_, exec_clearFrameStop_of_set ht inactive set, rfl, fun p => ?_, ?_⟩⟩⟩
  · obtain ⟨n, timed, done⟩ := timed
    have accepts : s.inputs.frameStopAccepts = true := filterDone_eq_true timed done
    refine ⟨fun inactive clear => ?_, exec_frameStopAcceptedActive_of_latch hp accepts,
      exec_frameStopAcceptedInactive_of_active hp accepts⟩
    obtain ⟨u, hu⟩ : ∃ u, u = { s with inputs := { s.inputs with frameStop := true, frameStopFilter := none } } := ⟨_, rfl⟩
    have ofTest := State.latched_of_test (s := u)
    have ofEnding := State.latched_of_ending (s := u)
    have result : exec .frameStopAcceptedActive s = .next u.latched.testEnding :=
      (exec_frameStopAcceptedActive_of_clear hp accepts inactive clear).trans (by rw [← hu, State.setLatch_eq])
    obtain ⟨inputs, arbiter, drive, load, meter, config⟩ := u.latched_blocks
    obtain ⟨inputs', arbiter', drive', load', meter', config', stay⟩ :=
      State.testEnding_keepsMotion arbiter (by rw [inputs])
    have untested (h : s.seq.state = .idle ∨ s.seq.state = .armed ∨ s.meter.rest = false) :
        u.latched.testEnding = u.latched := by
      refine State.testEnding_of_not_settled ?_
      have seqU : u.seq = s.seq := by rw [hu]
      rw [← seqU] at h
      obtain idle | armed | moving := h
      · exact .inl (by rw [(State.latched_of_idle idle).1, idle]; simp)
      · exact .inl (by rw [(State.latched_of_armed armed).1]; simp)
      · exact .inr (.inl (by rw [meter, hu]; exact moving))
    subst hu
    refine ⟨_, result, inputs'.trans inputs, arbiter'.trans arbiter, drive'.trans drive, load'.trans load,
      meter'.trans meter, config'.trans config, fun p => stay _ _ (State.addNoticeAll_hasNotice _ p),
      fun q p hq => ⟨fun holds => ?_, fun waits => ?_⟩, fun idle => ?_, fun armed => ?_, fun test moving => ?_,
      fun ending moving => ?_⟩
    · exact stay _ _ (State.latched_stay _ _ ((State.authorityCleared_notices hq).1 holds))
    · exact stay _ _ (State.latched_stay _ _ ((State.authorityCleared_notices hq).2 waits))
    · rw [untested (.inl idle)]
      exact State.latched_of_idle idle
    · rw [untested (.inr (.inl armed))]
      exact State.latched_of_armed armed
    · rw [untested (.inr (.inr moving))]
      rw [ofTest test]
      exact ⟨rfl, rfl, rfl, rfl⟩
    · rw [untested (.inr (.inr moving))]
      exact ofEnding ending
  · rw [State.answer_notices, State.addNoticeAll_notices]
  · rw [State.answer_get_self]
    rfl

end Sys2Proof.Machine
end

section
/-! PROOFS. The encoder and the crosshead speed meter (R148, R161 to R166): count events, the completion of a
measurement, and the positions, which the end of a move or of a test leaves as they are. -/

namespace Sys2Proof.Machine

/-! ## What the following-error supervision looks at (R157) -/

/-- The positions of the drive and its configuration. -/
def Drive.standing (d : Drive) : Word32 × Word32 × DriveConfig := (d.commanded, d.encoder, d.config)

section
variable {s : State}

@[simp] theorem State.writeVelocity_standing (source : VelocitySource) (v : Int) :
    (s.writeVelocity source v).drive.standing = s.drive.standing := by
  unfold State.writeVelocity
  dsimp only
  split
  · rfl
  · split <;> rfl

@[simp] theorem State.seqWrite_standing (v : Int) : (s.seqWrite v).drive.standing = s.drive.standing := by
  unfold State.seqWrite
  split
  · exact State.writeVelocity_standing _ _
  · rfl

@[simp] theorem State.endMove_standing (cause : Option MoveEndCause) :
    (s.endMove cause).drive.standing = s.drive.standing := by
  rw [State.endMove_eq]
  rfl

@[simp] theorem State.dropHolder_standing (cause : MoveEndCause) :
    (s.dropHolder cause).drive.standing = s.drive.standing := by
  rw [State.dropHolder_drive_eq]
  rfl

@[simp] theorem State.startTest_standing : s.startTest.drive.standing = s.drive.standing := by
  unfold State.startTest
  split
  · simp only [State.addNotice_frame, State.seqWrite_standing, State.setHeadState_frame]
  · rfl

@[simp] theorem State.testGripsStart_standing : s.testGripsStart.drive.standing = s.drive.standing := by
  rw [State.testGripsStart]
  split
  · exact State.startTest_standing
  · rfl

@[simp] theorem State.grantSequencer_standing : s.grantSequencer.drive.standing = s.drive.standing := by
  rw [State.grantSequencer]
  dsimp only
  rw [State.testGripsStart_standing]
  split
  · exact State.seqWrite_standing _
  · rfl

@[simp] theorem State.grantFront_standing : s.grantFront.drive.standing = s.drive.standing := by
  rw [State.grantFront]
  split
  · rfl
  · simp only [State.addNotice_frame]
  · simp only [State.addNotice_frame]
  · exact State.grantSequencer_standing

@[simp] theorem State.sequencerRequests_standing : s.sequencerRequests.drive.standing = s.drive.standing := by
  rw [State.sequencerRequests]
  split_ifs
  · rfl
  · rfl
  · exact State.grantSequencer_standing
  · rfl

@[simp] theorem State.examineHead_standing : s.examineHead.drive.standing = s.drive.standing := by
  rw [State.examineHead]
  split
  · unfold State.armHead
    split
    · rfl
    · simp only [State.addNotice_frame, State.sequencerRequests_standing, State.setHeadState_frame]
  · rfl

@[simp] theorem State.releaseAtCompletion_standing : s.releaseAtCompletion.drive.standing = s.drive.standing := by
  rw [State.releaseAtCompletion]
  split_ifs <;> simp

@[simp] theorem State.testEnding_standing : s.testEnding.drive.standing = s.drive.standing := by
  rw [State.testEnding]
  split
  · unfold State.completeTest
    split
    · simp only [State.examineHead_standing, State.noticeTestEnd_frame, State.clearTest,
        State.releaseAtCompletion_standing, State.removeHead_frame, State.fileRecord_frame]
    · rfl
  · rfl

@[simp] theorem State.completeSettledMove_standing : s.completeSettledMove.drive.standing = s.drive.standing := by
  rw [State.completeSettledMove]
  split
  · split
    · exact State.endMove_standing _
    · rfl
  · rfl

theorem Drive.followingExceeded_congr {d e : Drive} (h : d.standing = e.standing) :
    d.followingExceeded = e.followingExceeded := by
  obtain ⟨commanded, encoder, config⟩ : d.commanded = e.commanded ∧ d.encoder = e.encoder ∧ d.config = e.config := by
    simpa [Drive.standing] using h
  rw [Drive.followingExceeded, Drive.followingExceeded, commanded, encoder, config]

theorem State.judgeFollowing_of_within (h : |(s.drive.commanded - s.drive.encoder).toInt| ≤ s.drive.config.following) :
    s.judgeFollowing = s :=
  if_neg (by simp [Drive.followingExceeded_of_within h])

end

/-! ## Count events (R148) -/

section
variable {s : State} {before : Channels} {a b : Bool} {dir : Direction} {moved : Word32}

/-- Exactly one channel has changed, and the phase gives the direction. -/
def turnsOneChannel (before : Channels) (a b : Bool) (dir : Direction) : Prop :=
  (a ≠ before.encA ∧ b = before.encB ∧ dir = if a = b then .closing else .opening)
    ∨ (a = before.encA ∧ b ≠ before.encB ∧ dir = if a = b then .opening else .closing)

theorem quadrature_of_turns (h : turnsOneChannel before a b dir) : quadrature before ⟨a, b⟩ = some dir := by
  obtain ⟨change, same, rfl⟩ | ⟨same, change, rfl⟩ := h
  · subst same
    simp only [quadrature, bne_iff_ne, change.symm, ne_eq, not_false_eq_true, if_true, not_true_eq_false, if_false]
    split_ifs <;> simp_all
  · subst same
    simp only [quadrature, bne_iff_ne, change.symm, ne_eq, not_false_eq_true, if_true, not_true_eq_false, if_false]
    split_ifs <;> simp_all

theorem quadrature_of_still (h : a = before.encA ↔ b = before.encB) : quadrature before ⟨a, b⟩ = none := by
  by_cases same : a = before.encA
  · simp [quadrature, same, h.mp same]
  · have both : before.encA ≠ a ∧ before.encB ≠ b := ⟨Ne.symm same, Ne.symm (mt h.mpr same)⟩
    simp [quadrature, both.1, both.2]

/-- The drive after a count event that takes the encoder to `moved`. -/
def Drive.sampled (d : Drive) (a b : Bool) (moved : Word32) : Drive := { d with channels := ⟨a, b⟩, encoder := moved }

theorem exec_encoderCount_of_still (hp : s.power = .running) (h : a = s.drive.channels.encA ↔ b = s.drive.channels.encB) :
    exec (.encoderCount ⟨a, b⟩) s = .next { s with drive := { s.drive with channels := ⟨a, b⟩ } } := by
  rw [exec, execEncoderCount, State.whenRunning_of_running hp, State.sampleChannels]
  simp only [quadrature_of_still h]

theorem exec_encoderCount_of_turns (hp : s.power = .running) (h : turnsOneChannel s.drive.channels a b dir)
    (hm : moved = s.drive.encoder + BitVec.ofInt 32 (signOf dir)) :
    exec (.encoderCount ⟨a, b⟩) s
      = .next (({ s with drive := s.drive.sampled a b moved } : State).meterCount dir).judgeFollowing := by
  rw [exec, execEncoderCount, State.whenRunning_of_running hp, State.sampleChannels]
  simp only [quadrature_of_turns h, hm]
  rfl

end

/-! ## The completion of a measurement (R165 to R167) -/

section
variable {s : State} {v : Int} {rest : Bool} {low high : Nat}

/-- The meter with a measurement completed, its overspeed count not yet reported. -/
def SpeedMeter.measured (m : SpeedMeter) (l : LastMeasurement) (v : Int) (method : MeterMethod) (next : Measurement)
    (rest : Bool) (low high : Nat) : SpeedMeter :=
  { m with
    lastSpeed := v, last := some l, rest := rest, lowRun := low, overspeedCount := high, method := method
    inFlight := next, counter := 0 }

theorem State.restChanged_meter (before : Bool) : (s.restChanged before).meter = s.meter := by
  rw [State.restChanged]
  split <;> simp

theorem State.completeMeasurement_eq (l : LastMeasurement) (method : MeterMethod) (next : Measurement)
    (judged : s.meter.judgeRest v (l == .timeout) = (rest, low)) :
    s.completeMeasurement l v method next = (({ s with
      meter := s.meter.measured l v method next rest low (s.meter.judgeOverspeed v s.drive.velocity)
      } : State).restChanged s.meter.rest).reportOverspeed := by
  simp only [State.completeMeasurement, judged]
  rfl

theorem State.reportOverspeed_of_low (h : s.meter.overspeedCount < 3) : s.reportOverspeed = s :=
  if_neg (by omega)

theorem State.reportOverspeed_of_three (h : 3 ≤ s.meter.overspeedCount) :
    s.reportOverspeed = { s with meter := { s.meter with overspeedCount := 0 } }.driveFault .overspeed :=
  if_pos h

/-- No report of overspeed follows a measurement that leaves the count below 3. -/
theorem State.completeMeasurement_of_no_report (l : LastMeasurement) (method : MeterMethod) (next : Measurement)
    (judged : s.meter.judgeRest v (l == .timeout) = (rest, low))
    (count : s.meter.judgeOverspeed v s.drive.velocity = high) (few : high < 3) :
    s.completeMeasurement l v method next
      = ({ s with meter := s.meter.measured l v method next rest low high } : State).restChanged s.meter.rest := by
  rw [State.completeMeasurement_eq l method next judged, count]
  exact State.reportOverspeed_of_low (by rw [State.restChanged_meter]; exact few)

theorem SpeedMeter.judgeOverspeed_eq (m : SpeedMeter) (v commanded : Int) :
    m.judgeOverspeed v commanded = if 5 * |commanded| + 200000 < 4 * |v| then m.overspeedCount + 1 else 0 := by
  rw [SpeedMeter.judgeOverspeed, overspeedAgainst, Int.abs_eq_natAbs, Int.abs_eq_natAbs]
  simp only [decide_eq_true_eq]

theorem SpeedMeter.judgeRest_of_slow {m : SpeedMeter} (slow : |v| < m.config.restSpeed)
    (hl : low = min (m.lowRun + 1) 2) (hr : rest = true ↔ m.rest = true ∨ low = 2) :
    m.judgeRest v false = (rest, low) := by
  rw [Int.abs_eq_natAbs] at slow
  have flag : (m.rest || low == 2) = rest := by
    rw [Bool.eq_iff_iff, hr]
    simp
  rw [SpeedMeter.judgeRest, if_neg (by simp), if_pos slow]
  dsimp only
  rw [← hl, flag]

theorem SpeedMeter.judgeRest_of_fast {m : SpeedMeter} (fast : m.config.restSpeed ≤ |v|) :
    m.judgeRest v false = (false, 0) := by
  rw [Int.abs_eq_natAbs] at fast
  rw [SpeedMeter.judgeRest, if_neg (by simp), if_neg (not_lt.mpr fast)]

theorem SpeedMeter.judgeRest_eq {m : SpeedMeter}
    (slow : |v| < m.config.restSpeed → low = min (m.lowRun + 1) 2 ∧ (rest = true ↔ m.rest = true ∨ low = 2))
    (fast : m.config.restSpeed ≤ |v| → low = 0 ∧ rest = false) : m.judgeRest v false = (rest, low) := by
  obtain below | above := lt_or_ge |v| m.config.restSpeed
  · exact SpeedMeter.judgeRest_of_slow below (slow below).1 (slow below).2
  · rw [SpeedMeter.judgeRest_of_fast above, (fast above).1, (fast above).2]

theorem SpeedMeter.judgeRest_of_timeout (m : SpeedMeter) : m.judgeRest v true = (true, 2) := rfl

theorem State.restChanged_eq {before : Bool} {ended : State} (same : s.meter.rest = before → ended = s)
    (change : s.meter.rest ≠ before → ended = s.completeSettledMove.testEnding) : s.restChanged before = ended := by
  rw [State.restChanged]
  split
  next h => exact (same h).symm
  next h => exact (change h).symm

@[simp] theorem State.restChanged_standing (before : Bool) :
    (s.restChanged before).drive.standing = s.drive.standing := by
  rw [State.restChanged]
  split <;> simp

end

/-! ## Gates (R161, R162) -/

section
variable {s : State} {g e : Nat}

theorem exec_gateBoundary (hp : s.power = .running) : exec .gateBoundary s = .next s.gateBoundary :=
  congrArg Host.Outcome.next (State.whenRunning_of_running hp _)

theorem State.gateBoundary_of_opening
    (h : (s.meter.inFlight = .none ∧ s.meter.method = .gated) ∨ s.meter.inFlight = .gateWaiting) :
    s.gateBoundary = { s with meter := { s.meter with inFlight := .gateOpen s.meter.config.gate 0, counter := 0 } } := by
  rw [State.gateBoundary]
  obtain ⟨none, gated⟩ | waiting := h
  · simp only [none, gated, if_true]
  · simp only [waiting]

theorem State.gateBoundary_of_counting (h : s.meter.inFlight = .gateOpen g e) (early : e + 1 < g) :
    s.gateBoundary = { s with meter := { s.meter with inFlight := .gateOpen g (e + 1) } } := by
  simp only [State.gateBoundary, h]
  rw [if_neg (by omega)]

theorem State.gateBoundary_of_closing (h : s.meter.inFlight = .gateOpen g e) (last : g ≤ e + 1) :
    s.gateBoundary = s.completeMeasurement (.gated s.meter.counter g) (roundDiv (s.meter.counter * 100000) g)
      (if 4 ≤ |s.meter.counter| then .gated else .interval)
      (if 4 ≤ |s.meter.counter| then .gateOpen s.meter.config.gate 0 else .intervalWaiting) := by
  have magnitude : 4 ≤ |s.meter.counter| ↔ 4 ≤ s.meter.counter.natAbs := by
    rw [Int.abs_eq_natAbs]
    omega
  simp only [State.gateBoundary, h, if_pos last, magnitude]
  split_ifs <;> rfl

end

/-! ## Count events at the meter (R161, R163, R164) -/

section
variable {s : State} {dir : Direction}

theorem State.meterCount_of_closed (h : s.meter.inFlight = .none ∨ s.meter.inFlight = .gateWaiting) :
    s.meterCount dir = s := by
  obtain none | waiting := h
  · simp only [State.meterCount, none]
  · simp only [State.meterCount, waiting]

theorem State.meterCount_of_gate {g e : Nat} (h : s.meter.inFlight = .gateOpen g e) :
    s.meterCount dir = { s with meter := { s.meter with
      counter := max (-32767) (min 32767 (s.meter.counter + signOf dir)) } } := by
  rw [← clampInt_eq_max_min (by decide)]
  simp only [State.meterCount, h]

theorem State.meterCount_of_beginning
    (h : s.meter.inFlight = .intervalWaiting ∨ ∃ d, s.meter.inFlight = .intervalTiming d ∧ d ≠ dir) :
    s.meterCount dir = { s with meter := { s.meter with inFlight := .intervalTiming dir, counter := 0 } } := by
  obtain waiting | ⟨d, timing, turned⟩ := h
  · simp only [State.meterCount, waiting]
  · simp only [State.meterCount, timing, if_neg turned]

theorem State.meterCount_of_interval {i : Nat} (h : s.meter.inFlight = .intervalTiming dir)
    (hi : (i : Int) = max 1 s.meter.counter) (counts : 0 ≤ s.meter.counter) :
    s.meterCount dir = s.completeMeasurement (.interval i) (signOf dir * roundDiv 100000000 i)
      (if i < 250 then .gated else .interval) (if i < 250 then .gateWaiting else .intervalTiming dir) := by
  have counted : countedInterval s.meter.counter = i := by
    rw [countedInterval]
    split <;> omega
  simp only [State.meterCount, h, if_true, State.completeInterval, counted, Int.toNat_natCast, Nat.cast_lt_ofNat]
  split_ifs <;> rfl

end

/-! ## Timeouts (R164) -/

section
variable {s : State} (h : s.meter.inFlight = .intervalWaiting ∨ ∃ d, s.meter.inFlight = .intervalTiming d)
include h

theorem State.intervalTimeout_of_end (ends : 65535 ≤ s.meter.counter) :
    s.intervalTimeout = s.completeMeasurement .timeout 0 .interval .intervalWaiting := by
  rw [State.intervalTimeout, if_neg (by rw [Config.intervalEnd]; omega)]
  obtain waiting | ⟨d, timing⟩ := h
  · simp only [waiting]
  · simp only [timing]

omit h in
theorem State.intervalTimeout_of_early (early : s.meter.counter < 65535) : s.intervalTimeout = s :=
  if_pos early

omit h in
theorem exec_intervalTimeout (hp : s.power = .running) : exec .intervalTimeout s = .next s.intervalTimeout :=
  congrArg Host.Outcome.next (State.whenRunning_of_running hp _)

end

theorem State.completeSettledMove_of_unsettled {s : State}
    (h : s.meter.rest = false ∨ ∀ m ∈ s.drive.move, m.phase = .travelling) : s.completeSettledMove = s := by
  rw [State.completeSettledMove]
  split
  next m hm =>
    refine if_neg fun settled => ?_
    obtain moving | travels := h
    · simp [moving] at settled
    · simp [travels m hm] at settled
  next => rfl

/-- Settles O49, a lemma for each course of a count event and of a measurement; the end of a move or of a test by a
change of rest leaves the following error as it is. -/
theorem encoderCountsAreMeasured : Obligations.EncoderCountsAreMeasured := by
  refine ⟨fun s a b hp still => exec_encoderCount_of_still hp still,
    fun s a b dir moved drive hp turned hm follows hd => ?_⟩
  have counted : moved = s.drive.encoder + BitVec.ofInt 32 (signOf dir) := by rw [hm]; cases dir <;> rfl
  have sampled : s.drive.sampled a b moved = drive := hd.symm
  have event := exec_encoderCount_of_turns hp turned counted
  rw [sampled] at event
  have within : |(drive.commanded - drive.encoder).toInt| ≤ drive.config.following := by rw [hd]; exact follows
  have unfaulted (t : State) (h : t.drive = drive) : t.judgeFollowing = t :=
    State.judgeFollowing_of_within (by rw [h]; exact within)
  refine ⟨fun closed => ?_, fun g e gate => ?_, fun begins => ?_, fun opening => ?_, fun g e gate early => ?_,
    fun v rest low high slow fast hh few measured ended same change => ⟨fun g e gate last hv h => ?_,
      fun i timing hi counts hv h => ?_⟩, fun interval => ⟨fun ends measured h => ?_, fun early => ?_⟩,
    fun m hm settling rest => ?_, State.completeSettledMove_of_unsettled⟩
  · rw [event, State.meterCount_of_closed (s := { s with drive := drive }) closed, unfaulted _ rfl]
  · rw [event, State.meterCount_of_gate (s := { s with drive := drive }) gate, unfaulted _ rfl]
    cases dir <;> rfl
  · rw [event, State.meterCount_of_beginning (s := { s with drive := drive }) begins, unfaulted _ rfl]
  · rw [exec_gateBoundary hp, State.gateBoundary_of_opening opening]
  · rw [exec_gateBoundary hp, State.gateBoundary_of_counting gate early]
  · have count : s.meter.judgeOverspeed v s.drive.velocity = high := by rw [SpeedMeter.judgeOverspeed_eq, hh]
    rw [exec_gateBoundary hp, State.gateBoundary_of_closing gate last, ← hv,
      State.completeMeasurement_of_no_report _ _ _ (SpeedMeter.judgeRest_eq slow fast) count few]
    subst h
    exact congrArg Host.Outcome.next (State.restChanged_eq same change)
  · have count : s.meter.judgeOverspeed v drive.velocity = high := by rw [SpeedMeter.judgeOverspeed_eq, hh, hd]
    have hv : v = signOf dir * roundDiv 100000000 i := by rw [hv]; cases dir <;> rfl
    have measures := State.meterCount_of_interval (s := { s with drive := drive }) timing hi counts
    rw [← hv, State.completeMeasurement_of_no_report (s := { s with drive := drive }) _ _ _
      (SpeedMeter.judgeRest_eq slow fast) count few] at measures
    subst h
    have changed : ({ s with
        drive := drive
        meter := s.meter.measured (.interval i) v (if i < 250 then .gated else .interval)
          (if i < 250 then .gateWaiting else .intervalTiming dir) rest low high } : State).restChanged s.meter.rest
          = ended := State.restChanged_eq same change
    have stays : ended.judgeFollowing = ended := by
      refine if_neg ?_
      rw [← changed, Drive.followingExceeded_congr (State.restChanged_standing _)]
      simp [Drive.followingExceeded_of_within within]
    rw [event, measures]
    exact congrArg Host.Outcome.next ((congrArg State.judgeFollowing changed).trans stays)
  · have slow : s.meter.judgeOverspeed 0 s.drive.velocity = 0 := by
      rw [SpeedMeter.judgeOverspeed_eq, if_neg (by have := abs_nonneg s.drive.velocity; simp; omega)]
    have measures := State.completeMeasurement_of_no_report .timeout .interval .intervalWaiting
      (SpeedMeter.judgeRest_of_timeout s.meter) slow (by decide)
    rw [exec_intervalTimeout hp, State.intervalTimeout_of_end interval ends, measures]
    subst h
    refine ⟨fun resting => ?_, fun moving => ?_⟩
    · exact congrArg Host.Outcome.next (if_pos resting.symm)
    · exact congrArg Host.Outcome.next (if_neg (by rw [moving]; exact Bool.noConfusion))
  · rw [exec_intervalTimeout hp, State.intervalTimeout_of_early early]
  · rw [State.completeSettledMove_of_settled hm settling rest]
    rfl

end Sys2Proof.Machine
end

section
/-! PROOFS. The faults of the drive (R157, R167): the drive that a fault leaves, the loss of the authority by its holder,
and WRITE_SPEED_CONFIG (R168). -/

namespace Sys2Proof.Machine

/-! ## Notices stay to the end of an event -/

section
variable {s : State}

theorem State.startTest_stay : NoticesStay s s.startTest := by
  unfold State.startTest
  split
  · refine .trans ?_ ((State.addNotice_stay _ _ _).trans (State.addNotice_stay _ _ _))
    exact .trans (.of_ports (by simp)) (State.seqWrite_stay _)
  · exact .refl

theorem State.testGripsStart_stay : NoticesStay s s.testGripsStart := by
  rw [State.testGripsStart]
  split
  · exact State.startTest_stay
  · exact .refl

theorem State.grantSequencer_stay : NoticesStay s s.grantSequencer := by
  rw [State.grantSequencer]
  dsimp only
  refine .trans ?_ State.testGripsStart_stay
  split
  · have held : NoticesStay s { s with arbiter := { s.arbiter with holder := some .sequencer } } := .of_ports rfl
    exact held.trans (State.seqWrite_stay 0)
  · exact .of_ports rfl

theorem State.grantFront_stay : NoticesStay s s.grantFront := by
  by_cases front : s.arbiter.waiting.head? = some .sequencer
  · obtain ⟨rest, hw⟩ := List.head?_eq_some_iff.mp front
    have left : NoticesStay s { s with arbiter := { s.arbiter with waiting := rest } } := .of_ports rfl
    rw [State.grantFront_of_sequencer hw]
    exact left.trans State.grantSequencer_stay
  · exact State.grantFront_stay_of_not_sequencer front

/-- In a test a grant is held back while SEQUENCER does not hold (R143). -/
theorem State.grantIfFree_of_test (test : s.seq.state.inTest = true) (holder : s.arbiter.holder ≠ some .sequencer) :
    s.grantIfFree = s :=
  if_neg (by simp [State.grantHeldBack, test, holder])

theorem State.grantIfFree_stay : NoticesStay s s.grantIfFree := by
  rw [State.grantIfFree]
  split
  · exact State.grantFront_stay
  · exact .refl

theorem State.examineHead_stay : NoticesStay s s.examineHead := by
  rw [State.examineHead]
  split
  · unfold State.armHead
    split
    · exact .refl
    · refine .trans ?_ ((State.addNotice_stay _ _ _).trans (State.addNotice_stay _ _ _))
      rw [State.sequencerRequests]
      split_ifs
      · exact .of_ports (by simp)
      · exact .of_ports (by simp)
      · exact .trans (.of_ports (by simp)) State.grantSequencer_stay
      · exact .of_ports (by simp)
  · exact .refl

theorem State.completed_stay (r : ResultRecord) : NoticesStay s (s.completed r) := by
  have stored : NoticesStay s { s with
      results := { s.results with records := s.results.records ++ [r], reserved := false } } := .of_ports rfl
  have filed : NoticesStay s (s.fileRecord r).removeHead :=
    (stored.trans (State.addNoticeTo_stay _ _)).trans State.removeHead_stay
  have released (t : State) : NoticesStay t t.releaseAtCompletion := by
    rw [State.releaseAtCompletion]
    split_ifs
    · exact (t.dropHolder_stay _).trans State.grantFront_stay
    · exact t.dropHolder_stay _
    · exact State.grantFront_stay
    · exact .refl
  refine filed.trans ((released _).trans (.trans ?_ State.noticeTestEnd_stay))
  exact .of_ports rfl

theorem State.testEnding_stay : NoticesStay s s.testEnding := by
  rw [State.testEnding]
  split
  · unfold State.completeTest
    split
    · exact (State.completed_stay _).trans State.examineHead_stay
    · exact .refl
  · exact .refl

theorem State.revokeHolder_stay (move : MoveEndCause) (reason : Cause) :
    NoticesStay s (s.revokeHolder move reason) := by
  rw [State.revokeHolder]
  split
  · exact .refl
  · refine (s.dropHolder_stay move).trans ?_
    dsimp only
    split
    · exact State.addNotice_stay _ _ _
    · exact State.authorityLost_stay _

end

/-! ## The drive after a fault (R157) -/

/-- Steps 1 to 3 of R157: the generator stopped, the fault written, and for FOLLOWING_ERROR the position taken up. -/
def Drive.faulted (d : Drive) (kind : DriveFaultKind) : Drive :=
  { d with
    generator := none, buffer := none, velocity := 0
    lastFault := some ⟨kind, d.commanded, d.encoder⟩
    commanded := if kind = .followingError then d.encoder else d.commanded
    referenced := d.referenced && (kind == .overspeed || decide (
      d.config.lower.toInt ≤ d.encoder.toInt ∧ d.encoder.toInt ≤ d.config.upper.toInt)) }

/-- The drive of a fault with a move in flight ended. -/
def Drive.faultEnded (d : Drive) (kind : DriveFaultKind) : Drive := (d.faulted kind).moveEnded (some .fault)

/-- The drive of a fault once a holder, if there is one, has lost the authority. -/
def Drive.faultDropped (d : Drive) (kind : DriveFaultKind) (held : Bool) : Drive :=
  { d.faultEnded kind with source := if held ∨ d.move.isSome then .none else d.source }

theorem Drive.faultDropped_false (d : Drive) (kind : DriveFaultKind) : d.faultDropped kind false = d.faultEnded kind := by
  simp [Drive.faultDropped, Drive.faultEnded, Drive.moveEnded, Drive.faulted]

section
variable {s : State} (kind : DriveFaultKind)

/-- The state of a fault with a move in flight ended, before the holder loses the authority. -/
def State.faultEnded (s : State) (kind : DriveFaultKind) : State :=
  State.endMove { s with drive := s.drive.faulted kind } (some .fault)

theorem State.driveFault_eq :
    s.driveFault kind = (((s.faultEnded kind).revokeHolder .fault kind.cause).grantIfFree).testEnding := by
  have contains : s.drive.config.contains s.drive.encoder.toInt = decide (
      s.drive.config.lower.toInt ≤ s.drive.encoder.toInt ∧ s.drive.encoder.toInt ≤ s.drive.config.upper.toInt) := by
    rw [DriveConfig.contains, Bool.eq_iff_iff, within_eq_true_iff, decide_eq_true_eq]
  cases kind with
  | followingError =>
    have faulted : s.drive.faulted .followingError = Drive.takeUp { s.stopGenerator.drive with
        lastFault := some ⟨.followingError, s.drive.commanded, s.drive.encoder⟩ } := by
      simp only [Drive.faulted, Drive.takeUp, State.stopGenerator, contains]
      rfl
    rw [State.faultEnded, faulted]
    rfl
  | overspeed =>
    have faulted : s.drive.faulted .overspeed = { s.stopGenerator.drive with
        lastFault := some ⟨.overspeed, s.drive.commanded, s.drive.encoder⟩ } := by
      simp [Drive.faulted, State.stopGenerator]
    rw [State.faultEnded, faulted]
    rfl

theorem State.faultEnded_eq : s.faultEnded kind = { s with
    ports := (s.faultEnded kind).ports, drive := s.drive.faultEnded kind } :=
  State.endMove_eq (s := { s with drive := s.drive.faulted kind }) (some .fault)

/-- The holder that loses the authority leaves no source, and no move is left to end. -/
theorem State.faultEnded_dropHolder : (s.faultEnded kind).dropHolder .fault = { s with
    ports := ((s.faultEnded kind).dropHolder .fault).ports, arbiter := ⟨none, s.arbiter.waiting⟩
    drive := s.drive.faultDropped kind true } := by
  have ended := State.faultEnded_eq (s := s) kind
  refine State.eq_of_blocks rfl ?_
  rw [State.dropHolder_eq, ended]
  simp [Drive.dropped, Drive.outcomeAfter, Drive.faultDropped, Drive.faultEnded, Drive.moveEnded, Drive.faulted]

theorem State.driveFault_hasNotice {m : MoveRecord} (hm : s.drive.move = some m) :
    ((s.driveFault kind).ports.get m.issuer).hasNotice .moveStopped = true := by
  rw [State.driveFault_eq]
  refine State.testEnding_stay _ _ (State.grantIfFree_stay _ _ (State.revokeHolder_stay _ _ _ _ ?_))
  exact State.endMove_hasNotice (s := { s with drive := s.drive.faulted kind }) hm

end

/-! ## The loss by a port, and without a holder (R143, R146) -/

section
variable {s : State} (kind : DriveFaultKind)

/-- A port's loss of the authority to a fault of the drive, before the grant that follows. -/
def State.faultRevoked (s : State) (kind : DriveFaultKind) (p : Role) : State :=
  ((s.faultEnded kind).dropHolder .fault).addNotice p .authorityRevoked

theorem State.faultRevoked_eq (p : Role) : s.faultRevoked kind p = { s with
    ports := (s.faultRevoked kind p).ports, arbiter := ⟨none, s.arbiter.waiting⟩
    drive := s.drive.faultDropped kind true } := by
  have dropped := State.faultEnded_dropHolder (s := s) kind
  refine State.eq_of_blocks rfl ?_
  rw [State.faultRevoked, dropped]
  simp

theorem State.faultRevoked_hasNotice (p : Role) :
    ((s.faultRevoked kind p).ports.get p).hasNotice .authorityRevoked = true :=
  State.addNotice_hasNotice _ _ _

variable {kind}

theorem State.driveFault_of_port {q : Party} {p : Role} (holder : s.arbiter.holder = some q) (port : q.port = some p)
    (test : s.seq.state.inTest = false) :
    s.driveFault kind = (s.faultRevoked kind p).grantFront.testEnding := by
  have held : (s.faultEnded kind).arbiter.holder = some q := by rw [State.faultEnded_eq]; exact holder
  have revoked : (s.faultEnded kind).revokeHolder .fault kind.cause = s.faultRevoked kind p := by
    simp only [State.revokeHolder, held, port]
    rfl
  rw [State.driveFault_eq, revoked, State.grantIfFree_of_free]
  · rw [State.faultRevoked_eq]
  · rw [State.faultRevoked_eq]
    exact test

/-- A grant in ARMED leaves the sequencer in ARMED or begins the test: it does not enter ENDING. -/
theorem State.grantFront_of_armed_not_ending (armed : s.seq.state = .armed) : s.grantFront.seq.state ≠ .ending := by
  by_cases front : s.arbiter.waiting.head? = some .sequencer
  · obtain ⟨rest, hw⟩ := List.head?_eq_some_iff.mp front
    rw [State.grantFront_of_sequencer hw, State.grantSequencer]
    dsimp only
    rw [if_pos armed, State.testGripsStart]
    split
    · unfold State.startTest
      split
      · simp
      · simp [armed]
    · simp [armed]
  · rw [(State.grantFront_blocks (.inr front)).2.2.2.1, armed]
    simp

theorem State.driveFault_of_no_holder (free : s.arbiter.holder = none)
    (held : s.arbiter.waiting = [] ∨ s.seq.state.inTest = true) (state : s.seq.state ≠ .ending) :
    s.driveFault kind = s.faultEnded kind := by
  have ended := State.faultEnded_eq (s := s) kind
  have none : (s.faultEnded kind).arbiter.holder = none := by rw [ended]; exact free
  have unrevoked : (s.faultEnded kind).revokeHolder .fault kind.cause = s.faultEnded kind := by
    simp only [State.revokeHolder, none]
  have ungranted : (s.faultEnded kind).grantIfFree = s.faultEnded kind := by
    obtain empty | test := held
    · rw [State.grantIfFree]
      split
      · exact State.grantFront_of_empty (by rw [ended]; exact empty)
      · rfl
    · exact State.grantIfFree_of_test (by rw [ended]; exact test) (by rw [none]; simp)
  rw [State.driveFault_eq, unrevoked, ungranted]
  exact State.testEnding_of_not_settled (.inl (by rw [ended]; exact state))

end

/-! ## The loss by SEQUENCER (R31, R46) -/

section
variable {s : State}

/-- Without the authority an entry to ENDING reaches the sequencer, the detectors and the link alone. -/
theorem State.enterEnding_of_not_holder (outcome : TestOutcome) (cause : Option Cause)
    (h : s.arbiter.holder ≠ some .sequencer) : s.enterEnding outcome cause = { s with
      ports := (s.enterEnding outcome cause).ports, link := (s.enterEnding outcome cause).link
      seq := { s.seq with state := .ending, outcome := some outcome, cause := cause, endingTimer := some 0 }
      eval := { s.eval with detectors := false } } := by
  refine State.eq_of_blocks rfl ?_
  have drive := State.enterEnding_drive_of_not_holder outcome cause h
  have detectors : (s.enterEnding outcome cause).eval = { s.eval with detectors := false } := by
    simp [State.enterEnding]
  simp [State.enterEnding_seq, drive, detectors]

variable {kind : DriveFaultKind} (holder : s.arbiter.holder = some .sequencer)
include holder

theorem State.driveFault_of_sequencer :
    s.driveFault kind = (((s.faultEnded kind).dropHolder .fault).authorityLost kind.cause).grantIfFree.testEnding := by
  have held : (s.faultEnded kind).arbiter.holder = some .sequencer := by rw [State.faultEnded_eq]; exact holder
  have revoked : (s.faultEnded kind).revokeHolder .fault kind.cause
      = ((s.faultEnded kind).dropHolder .fault).authorityLost kind.cause := by
    simp only [State.revokeHolder, held]
    rfl
  rw [State.driveFault_eq, revoked]

theorem State.driveFault_of_armed (armed : s.seq.state = .armed) {e : SpecimenEntry} {rest : List SpecimenEntry}
    (hq : s.queue = e :: rest) : s.driveFault kind = { s with
      ports := (s.driveFault kind).ports, drive := s.drive.faultDropped kind true
      arbiter := ⟨s.arbiter.waiting.head?, s.arbiter.waiting.tail⟩
      queue := { e with state := .waiting } :: rest
      results := { s.results with reserved := false }
      seq := { s.seq with
        state := .idle, openSeen := false, autoArmPause := s.seq.autoArm || s.seq.autoArmPause } } := by
  have dropped := State.faultEnded_dropHolder (s := s) kind
  generalize hd : (s.faultEnded kind).dropHolder .fault = d at dropped
  have lost : d.authorityLost kind.cause = { d with
      queue := { e with state := .waiting } :: rest
      results := { s.results with reserved := false }
      seq := { s.seq with
        state := .idle, openSeen := false, autoArmPause := s.seq.autoArm || s.seq.autoArmPause } } := by
    have state : d.seq.state = .armed := by rw [dropped]; exact armed
    have queue : d.queue = e :: rest := by rw [dropped]; exact hq
    rw [State.authorityLost, if_pos state, if_neg (by cases kind <;> simp [DriveFaultKind.cause]), State.pauseAutoArm_eq,
      State.undoArming_of_cons queue, dropped]
  have fault : s.driveFault kind = (d.authorityLost kind.cause).grantFront := by
    rw [State.driveFault_of_sequencer holder, hd, lost, State.grantIfFree_of_free]
    · refine State.testEnding_of_not_settled (.inl ?_)
      rw [(State.grantFront_blocks (.inl (by simp))).2.2.2.1]
      simp
    · rw [dropped]
    · rfl
  have granted := State.grantFront_eq (s := d.authorityLost kind.cause) (.inl (by rw [lost]; simp))
  rw [fault]
  refine State.eq_of_blocks rfl ?_
  rw [granted, lost, dropped]
  simp [Arbiter.granted_of_free]

variable (moving : s.meter.rest = false)
include moving

theorem State.driveFault_of_test (test : s.seq.state.underTest = true) : s.driveFault kind = { s with
    ports := (s.driveFault kind).ports, link := (s.driveFault kind).link, drive := s.drive.faultDropped kind true
    arbiter := ⟨none, s.arbiter.waiting⟩, eval := { s.eval with detectors := false }
    seq := { s.seq with
      state := .ending, outcome := some .aborted, endingTimer := some 0, cause := some kind.cause } } := by
  have dropped := State.faultEnded_dropHolder (s := s) kind
  generalize hd : (s.faultEnded kind).dropHolder .fault = d at dropped
  have notArmed : d.seq.state ≠ .armed := by
    rw [dropped]
    intro armed
    rw [show s.seq.state = .armed from armed] at test
    cases test
  have lost : d.authorityLost kind.cause = d.enterEnding .aborted (some kind.cause) := by
    rw [State.authorityLost_of_not_armed _ notArmed, State.reportFault_of_test _ (by rw [dropped]; exact test)]
  have entered := State.enterEnding_of_not_holder (s := d) .aborted (some kind.cause) (by rw [dropped]; simp)
  have fault : s.driveFault kind = d.enterEnding .aborted (some kind.cause) := by
    rw [State.driveFault_of_sequencer holder, hd, lost, State.grantIfFree_of_test]
    · exact State.testEnding_of_not_settled (.inr (.inl (by rw [entered, dropped]; exact moving)))
    · rw [entered]
      rfl
    · rw [entered, dropped]
      simp
  rw [fault]
  refine State.eq_of_blocks rfl ?_
  rw [entered, dropped]
  simp

theorem State.driveFault_of_ending (ending : s.seq.state = .ending) : s.driveFault kind = { s with
    ports := (s.driveFault kind).ports, drive := s.drive.faultDropped kind true
    arbiter := ⟨none, s.arbiter.waiting⟩
    seq := { s.seq with note := s.seq.note.or (some kind.cause) } } := by
  have dropped := State.faultEnded_dropHolder (s := s) kind
  generalize hd : (s.faultEnded kind).dropHolder .fault = d at dropped
  have state : d.seq.state = .ending := by rw [dropped]; exact ending
  have lost : d.authorityLost kind.cause = { d with
      seq := { d.seq with note := d.seq.note.or (some kind.cause) } } := by
    rw [State.authorityLost_of_not_armed _ (by rw [state]; simp), State.reportFault_of_ending _ state]
  have fault : s.driveFault kind = d.authorityLost kind.cause := by
    rw [State.driveFault_of_sequencer holder, hd, lost, State.grantIfFree_of_test]
    · exact State.testEnding_of_not_settled (.inr (.inl (by rw [dropped]; exact moving)))
    · rw [dropped]
      exact congrArg SeqState.inTest ending
    · rw [dropped]
      simp
  rw [fault, lost]
  refine State.eq_of_blocks rfl ?_
  rw [dropped]
  simp

end

/-! ## Where the faults come from (R157, R165, R167) -/

theorem Drive.atTarget_of_apart {d : Drive} (h : ∀ m ∈ d.move, (∃ dir, m.kind = .jog dir) ∨ m.target ≠ d.commanded) :
    d.atTarget = false := by
  cases hm : d.move with
  | none => exact Drive.atTarget_of_jog (by simp [hm])
  | some m =>
    obtain jog | away := h m hm
    · exact Drive.atTarget_of_jog fun m' hm' => Option.some.inj (hm.symm.trans hm') ▸ jog
    · exact Drive.atTarget_of_away fun m' hm' => Option.some.inj (hm.symm.trans hm') ▸ away

section
variable {s : State}

theorem Drive.followingExceeded_of_beyond {d : Drive} (h : d.config.following < |(d.commanded - d.encoder).toInt|) :
    d.followingExceeded = true := by
  rw [Int.abs_eq_natAbs] at h
  exact decide_eq_true h

theorem State.judgeFollowing_of_beyond
    (h : s.drive.config.following < |(s.drive.commanded - s.drive.encoder).toInt|) :
    s.judgeFollowing = s.driveFault .followingError :=
  if_pos (Drive.followingExceeded_of_beyond h)

theorem State.periodEnd_of_following {g : Period} (hg : s.drive.generator = some g) (away : s.drive.atTarget = false)
    (inside : s.drive.limitStops g.direction = false)
    (follows : (s.pulse g.direction).drive.followingExceeded = true) :
    s.periodEnd = (s.pulse g.direction).driveFault .followingError := by
  rw [State.periodEnd, hg]
  simp [away, inside, follows]

theorem exec_overspeed (hp : s.power = .running) : exec .overspeed s = .next s.reportOverspeed :=
  congrArg Host.Outcome.next (State.whenRunning_of_running hp _)

/-- A fast measurement that brings the count to 3, with no move and no test waiting for the rest, is reported. -/
theorem State.completeMeasurement_of_report {v : Int} {l : LastMeasurement} (method : MeterMethod) (next : Measurement)
    (timed : (l == .timeout) = false) (fast : s.meter.config.restSpeed ≤ |v|)
    (above : 5 * |s.drive.velocity| + 200000 < 4 * |v|) (third : 2 ≤ s.meter.overspeedCount)
    (travels : ∀ m ∈ s.drive.move, m.phase = .travelling) (state : s.seq.state ≠ .ending) :
    s.completeMeasurement l v method next = State.driveFault { s with
      meter := s.meter.measured l v method next false 0 0 } .overspeed := by
  have judged : s.meter.judgeRest v (l == .timeout) = (false, 0) := by rw [timed, SpeedMeter.judgeRest_of_fast fast]
  have count : s.meter.judgeOverspeed v s.drive.velocity = s.meter.overspeedCount + 1 := by
    rw [SpeedMeter.judgeOverspeed_eq, if_pos above]
  generalize hm : s.meter.measured l v method next false 0 (s.meter.overspeedCount + 1) = m
  have unchanged : ({ s with meter := m } : State).restChanged s.meter.rest = { s with meter := m } :=
    State.restChanged_eq (fun _ => rfl) fun _ => by
      rw [State.completeSettledMove_of_unsettled (s := { s with meter := m }) (.inr travels)]
      exact (State.testEnding_of_not_settled (s := { s with meter := m }) (.inl state)).symm
  rw [State.completeMeasurement_eq l method next judged, count, hm, unchanged,
    State.reportOverspeed_of_three (by rw [← hm]; simp [SpeedMeter.measured]; omega), ← hm]
  rfl

end

/-! ## WRITE_SPEED_CONFIG (R168) -/

theorem SpeedMeter.restart_eq (m : SpeedMeter) : m.restart = { m with
    counter := 0, inFlight := if m.method = .gated then .gateWaiting else .intervalWaiting } := by
  cases h : m.method <;> simp [SpeedMeter.restart, h]

/-- The lowest failing field of a speed configuration (R168). -/
theorem lowestFailing_speedConfigChecks (c : SpeedConfig) : lowestFailing (speedConfigChecks c) =
    if ¬ (c.gate = 1 ∨ c.gate = 4 ∨ c.gate = 8) then some 1
    else if ¬ (100 ≤ c.restSpeed ∧ c.restSpeed ≤ 50000) then some 2 else none := by
  simp only [speedConfigChecks, lowestFailing, within_eq_true_iff, Bool.or_eq_true, beq_iff_eq]
  split_ifs <;> simp_all

section
variable {s : State} {gate : Octet} {restSpeed : Word32} (ht : s.takes .console = true)
include ht

theorem writeSpeedConfig_reaches_meter (own : State → State) : s.request .console .writeSpeedConfig own = own s :=
  State.request_of_takes .writeSpeedConfig own ht (by decide)

theorem exec_writeSpeedConfig_of_not_idle (state : s.seq.state ≠ .idle) :
    exec (.writeSpeedConfig .console gate restSpeed) s
      = .next (s.answer .console .writeSpeedConfig .wrongState []) := by
  rw [exec, execWriteSpeedConfig, writeSpeedConfig_reaches_meter ht, if_pos state, State.refuse]

variable (idle : s.seq.state = .idle)
include idle

theorem exec_writeSpeedConfig_of_store (store : s.config.inFlight.isSome = true) :
    exec (.writeSpeedConfig .console gate restSpeed) s = .next (s.answer .console .writeSpeedConfig .busy []) := by
  rw [exec, execWriteSpeedConfig, writeSpeedConfig_reaches_meter ht, if_neg (by simp [idle]), if_pos store, State.refuse]

variable (store : s.config.inFlight = none)
include store

theorem exec_writeSpeedConfig_of_bad_field {index : Nat}
    (bad : lowestFailing (speedConfigChecks ⟨gate.toNat, restSpeed.toInt⟩) = some index) :
    exec (.writeSpeedConfig .console gate restSpeed) s
      = .next (s.answer .console .writeSpeedConfig .invalidField [BitVec.ofNat 8 index]) := by
  rw [exec, execWriteSpeedConfig, writeSpeedConfig_reaches_meter ht, if_neg (by simp [idle]), if_neg (by simp [store]),
    bad]
  rfl

theorem exec_writeSpeedConfig_of_passes
    (good : lowestFailing (speedConfigChecks ⟨gate.toNat, restSpeed.toInt⟩) = none) :
    exec (.writeSpeedConfig .console gate restSpeed) s = .next (State.answer { s with
      meter := { (if gate.toNat = s.meter.config.gate then s.meter else s.meter.restart) with
        config := ⟨gate.toNat, restSpeed.toInt⟩ } } .console .writeSpeedConfig .ok []) := by
  rw [exec, execWriteSpeedConfig, writeSpeedConfig_reaches_meter ht, if_neg (by simp [idle]), if_neg (by simp [store]),
    good]

end

/-- Settles O50: each report is a fault of the drive, and a fault acts by the holder and the state of the sequencer. -/
theorem driveFaultsAndSpeedConfig : Obligations.DriveFaultsAndSpeedConfig := by
  refine ⟨fun s hp => ⟨fun few => ?_, fun three => ?_, fun v g e state travels gate last hv above fast counts third => ?_,
    fun a b dir moved turned hm beyond closed => ?_, fun g stepped exact hg hs he inside away beyond => ?_⟩, ?_,
    fun s gate restSpeed ht => ⟨exec_writeSpeedConfig_of_not_idle ht, exec_writeSpeedConfig_of_store ht, ?_⟩⟩
  · rw [exec_overspeed hp, State.reportOverspeed_of_low few]
  · rw [exec_overspeed hp, State.reportOverspeed_of_three three]
  · rw [exec_gateBoundary hp, State.gateBoundary_of_closing gate last, ← hv, if_pos counts, if_pos counts,
      State.completeMeasurement_of_report _ _ rfl fast above third travels state]
    rfl
  · have counted : moved = s.drive.encoder + BitVec.ofInt 32 (signOf dir) := by rw [hm]; cases dir <;> rfl
    rw [exec_encoderCount_of_turns hp turned counted,
      State.meterCount_of_closed (s := { s with drive := s.drive.sampled a b moved }) closed]
    exact congrArg Host.Outcome.next (State.judgeFollowing_of_beyond beyond)
  · have wholly : exact = s.drive.commanded.toInt + s.drive.pulseStep g.direction := by
      cases hd : g.direction <;> simp [he, hd, Drive.pulseStep]
    have pulsed : s.pulse g.direction = { s with drive := { s.drive with commanded := stepped } } := by
      cases hd : g.direction <;> simp [hs, hd, State.pulse, Drive.pulseStep]
    rw [wholly] at inside
    rw [exec_periodEnd hp, State.periodEnd_of_following hg (Drive.atTarget_of_apart away)
      (Drive.limitStops_of_inside inside) (by rw [pulsed]; exact Drive.followingExceeded_of_beyond beyond), pulsed]
  · intro s t kind commanded stopped ht hc hd
    have left : stopped = s.drive.faultDropped kind s.arbiter.holder.isSome := by
      rw [hd, hc]
      simp [Drive.faultDropped, Drive.faultEnded, Drive.moveEnded, Drive.faulted, Drive.outcomeAfter]
      rfl
    rw [ht]
    refine ⟨fun _ m hm => State.driveFault_hasNotice kind hm, fun q p holder port test front => ?_,
      fun q p rest holder port armed front => ?_, fun free held state => ?_,
      fun holder still => ⟨fun armed _ e rest hq => ?_, fun test moving => ?_, fun ending moving => ?_⟩⟩
    · have state : s.seq.state ≠ .ending := fun ending => by rw [ending] at test; cases test
      have revoked := s.faultRevoked_eq kind p
      have grants : (s.faultRevoked kind p).arbiter.waiting.head? ≠ some .sequencer := by rw [revoked]; exact front
      have blocks := State.grantFront_eq (.inr grants)
      have fault : s.driveFault kind = (s.faultRevoked kind p).grantFront := by
        rw [State.driveFault_of_port holder port test]
        exact State.testEnding_of_not_settled (.inl (by rw [blocks, revoked]; exact state))
      rw [fault, left, holder]
      refine ⟨?_, State.grantFront_stay _ _ (State.faultRevoked_hasNotice kind p), fun r hr => ?_⟩
      · refine State.eq_of_blocks rfl ?_
        rw [blocks, revoked]
        simp [Arbiter.granted_of_free]
      · obtain ⟨q', hq', hr'⟩ := Option.bind_eq_some_iff.mp hr
        exact State.grantFront_notices q' (by rw [revoked]; exact hq') r hr'
    · have revoked := s.faultRevoked_eq kind p
      have state : (s.faultRevoked kind p).seq.state = .armed := by rw [revoked]; exact armed
      refine ⟨s.faultRevoked kind p, ?_, ?_, State.faultRevoked_hasNotice kind p⟩
      · rw [State.driveFault_of_port holder port (by rw [armed]; rfl)]
        exact State.testEnding_of_not_settled (.inl (State.grantFront_of_armed_not_ending state))
      · rw [left, holder]
        exact revoked
    · rw [State.driveFault_of_no_holder free held state, left, free, Option.isSome_none, Drive.faultDropped_false]
      exact State.faultEnded_eq kind
    · rw [left, holder]
      exact State.driveFault_of_armed holder armed hq
    · have fault := State.driveFault_of_test (kind := kind) holder moving test
      rw [left, holder]
      cases kind <;> exact fault
    · have fault := State.driveFault_of_ending (kind := kind) holder moving ending
      rw [left, holder]
      cases kind <;> exact fault
  · have known_iff : gate = 1 ∨ gate = 4 ∨ gate = 8 ↔ gate.toNat = 1 ∨ gate.toNat = 4 ∨ gate.toNat = 8 := by
      bv_omega
    refine fun idle store => ⟨fun no1 no4 no8 => ?_, fun known => ⟨fun outside => ?_, fun low high =>
      ⟨fun same => ?_, fun differs => ?_⟩⟩⟩
    · refine exec_writeSpeedConfig_of_bad_field ht idle store (index := 1) ?_
      rw [lowestFailing_speedConfigChecks, if_pos (mt known_iff.mpr (by rintro (h | h | h) <;> contradiction))]
    · refine exec_writeSpeedConfig_of_bad_field ht idle store (index := 2) ?_
      rw [lowestFailing_speedConfigChecks, if_neg (not_not.mpr (known_iff.mp known)), if_pos (by dsimp only; omega)]
    all_goals
      have good : lowestFailing (speedConfigChecks ⟨gate.toNat, restSpeed.toInt⟩) = none := by
        rw [lowestFailing_speedConfigChecks, if_neg (not_not.mpr (known_iff.mp known)),
          if_neg (not_not.mpr ⟨low, high⟩)]
      rw [exec_writeSpeedConfig_of_passes ht idle store good]
    · rw [if_pos same]
    · rw [if_neg differs, SpeedMeter.restart_eq]

end Sys2Proof.Machine
end

section
/-! PROOFS. The configuration store and the supply (R191 to R193). -/

namespace Sys2Proof.Machine

/-! ## The image and its check (R191, R192) -/

theorem ConfigImage.written_passes (items : ConfigItems) : (ConfigImage.written items).passes = true := by
  rw [ConfigImage.passes, ConfigImage.written, beq_self_eq_true]

/-- The check of an image a store did not finish is the complement of the one that passes. -/
theorem ConfigImage.broken_passes (items : ConfigItems) : (ConfigImage.broken items).passes = false := by
  have differs : ~~~ crc16 (imageOctets items) ≠ crc16 (imageOctets items) := by bv_omega
  exact beq_eq_false_iff_ne.mpr differs

theorem ConfigStore.afterLoss_of_none {c : ConfigStore} (h : c.inFlight = none) : c.afterLoss = c.image := by
  rw [ConfigStore.afterLoss, h]

theorem ConfigStore.afterLoss_of_store {c : ConfigStore} (h : c.inFlight.isSome = true) : c.afterLoss.passes = false := by
  obtain ⟨items, hi⟩ := Option.isSome_iff_exists.mp h
  rw [ConfigStore.afterLoss, hi]
  exact ConfigImage.broken_passes items

/-! ## STORE_CONFIG and the end of a store (R192) -/

section
variable {s : State} (ht : s.takes .console = true)
include ht

theorem storeConfig_reaches_store (own : State → State) : s.request .console .storeConfig own = own s :=
  State.request_of_takes .storeConfig own ht (by decide)

theorem exec_storeConfig_of_not_idle (state : s.seq.state ≠ .idle) :
    exec (.storeConfig .console) s = .next (s.answer .console .storeConfig .wrongState []) := by
  rw [exec, execStoreConfig, storeConfig_reaches_store ht, if_pos state, State.refuse]

theorem exec_storeConfig_of_store (idle : s.seq.state = .idle) (store : s.config.inFlight.isSome = true) :
    exec (.storeConfig .console) s = .next (s.answer .console .storeConfig .busy []) := by
  rw [exec, execStoreConfig, storeConfig_reaches_store ht, if_neg (by simp [idle]), if_pos store, State.refuse]

theorem exec_storeConfig_of_idle (idle : s.seq.state = .idle) (store : s.config.inFlight = none) :
    exec (.storeConfig .console) s = .next (State.answer { s with
      config := { s.config with inFlight := some s.configItems } } .console .storeConfig .accepted []) := by
  rw [exec, execStoreConfig, storeConfig_reaches_store ht, if_neg (by simp [idle]), if_neg (by simp [store])]

end

section
variable {s : State} {items : ConfigItems} (hp : s.power = .running) (hi : s.config.inFlight = some items)
include hp hi

theorem exec_configStoreCompletion_of_success : exec (.configStoreCompletion true) s = .next (State.addNotice { s with
    config := { image := .written items, inFlight := none } } .console .storeDone) := by
  rw [exec, execConfigStoreCompletion, State.whenRunning_of_running hp]
  simp only [hi, if_true]

theorem exec_configStoreCompletion_of_fault : exec (.configStoreCompletion false) s = .next (State.addNotice { s with
    config := { image := .broken items, inFlight := none } } .console .storeFailed) := by
  rw [exec, execConfigStoreCompletion, State.whenRunning_of_running hp]
  simp [hi]

end

/-! ## The end of the load (R193) -/

section
variable {s : State} (hp : s.power = .loading)
include hp

theorem exec_configImageLoadDone_of_loading : exec .configImageLoadDone s = .next
    (s.started (if s.config.image.passes then s.config.image.items else ConfigItems.defaults)
      (loadNotices s.config.image.passes)) := by
  rw [exec, execConfigImageLoadDone, if_pos hp]
  cases s.config.image.passes <;> rfl

omit hp in
theorem State.started_get (items : ConfigItems) (notices : BitVec 32) (p : Role) :
    (s.started items notices).ports.get p = (s.ports.get p).loaded notices := by
  cases p <;> rfl

end

/-- Settles O53: each event by its equation, and the image by its check. -/
theorem configurationSurvivesTheSupply : Obligations.ConfigurationSurvivesTheSupply := by
  intro s
  refine ⟨fun ht => ⟨exec_storeConfig_of_not_idle ht, fun idle => ⟨exec_storeConfig_of_store ht idle,
    exec_storeConfig_of_idle ht idle⟩⟩, fun hp items hi => ⟨⟨_, exec_configStoreCompletion_of_success hp hi, ?_⟩,
      ⟨_, exec_configStoreCompletion_of_fault hp hi, ?_⟩⟩, fun c power hc => ⟨s.blank power, ?_⟩, fun hp =>
        ⟨_, _, exec_configImageLoadDone_of_loading hp, rfl, rfl, fun p => ?_⟩⟩
  · exact ⟨rfl, ConfigImage.written_passes items, by rw [State.addNotice_notices, if_pos rfl]⟩
  · exact ⟨rfl, ConfigImage.broken_passes items, by rw [State.addNotice_notices, if_pos rfl]⟩
  · refine ⟨?_, rfl, rfl, ConfigStore.afterLoss_of_none, ConfigStore.afterLoss_of_store, fun p => ?_, rfl, rfl, rfl, rfl⟩
    · obtain ⟨rfl, rfl⟩ | ⟨rfl, rfl⟩ := hc <;> rfl
    · cases p <;> rfl
  · rw [State.started_get]
    refine ⟨?_, rfl⟩
    cases s.config.image.passes <;> rfl

end Sys2Proof.Machine
end

section
/-! PROOFS. The controller reset (R190): the record of the test in progress, what each block keeps, and the notices of
the reset. -/

namespace Sys2Proof.Machine

/-! ## A reset keeps the replies of the ports (R190) -/

/-- No pending reply and no message being clocked out differs. -/
def RepliesStay (s t : State) : Prop :=
  ∀ p, (t.ports.get p).pendingReply = (s.ports.get p).pendingReply
    ∧ (t.ports.get p).clockingOut = (s.ports.get p).clockingOut

section
variable {s t u : State}

theorem RepliesStay.refl : RepliesStay s s := fun _ => ⟨rfl, rfl⟩

theorem RepliesStay.trans (h : RepliesStay s t) (h' : RepliesStay t u) : RepliesStay s u := fun p =>
  ⟨(h' p).1.trans (h p).1, (h' p).2.trans (h p).2⟩

theorem RepliesStay.of_ports (h : t.ports = s.ports) : RepliesStay s t := fun p => by rw [h]; exact ⟨rfl, rfl⟩

theorem State.addNotice_replies (p : Role) (n : Notice) : RepliesStay s (s.addNotice p n) := by
  intro q
  rw [State.addNotice, State.onPort_get]
  split
  next h => rw [h]; exact ⟨rfl, rfl⟩
  next => exact ⟨rfl, rfl⟩

theorem State.addNoticeIf_replies (b : Bool) (p : Role) (n : Notice) :
    RepliesStay s (if b then s.addNotice p n else s) := by
  cases b
  · exact .refl
  · exact State.addNotice_replies p n

theorem State.addNoticeTo_replies (roles : RoleSet) (n : Notice) : RepliesStay s (s.addNoticeTo roles n) :=
  (State.addNoticeIf_replies _ _ _).trans ((State.addNoticeIf_replies _ _ _).trans (State.addNoticeIf_replies _ _ _))

theorem State.fileRecord_replies (r : ResultRecord) : RepliesStay s (s.fileRecord r) := by
  have stored : RepliesStay s { s with
      results := { s.results with records := s.results.records ++ [r], reserved := false } } := .of_ports rfl
  exact stored.trans (State.addNoticeTo_replies _ _)

theorem State.removeHead_replies : RepliesStay s s.removeHead := by
  cases hq : s.queue with
  | nil => rw [State.removeHead, hq]; exact .refl
  | cons e rest =>
    rw [State.removeHead_of_cons hq]
    exact .trans (.of_ports rfl) (State.addNotice_replies _ _)

theorem State.noticeTestEnd_replies : RepliesStay s s.noticeTestEnd :=
  (State.addNotice_replies _ _).trans (State.addNotice_replies _ _)

theorem State.dropHolder_replies (cause : MoveEndCause) : RepliesStay s (s.dropHolder cause) := by
  intro p
  rw [State.dropHolder_ports]
  split
  · exact ⟨rfl, rfl⟩
  · exact State.addNotice_replies _ _ p

theorem State.noticeRevoked_replies (holder : Option Party) : RepliesStay s (s.noticeRevoked holder) := by
  rw [State.noticeRevoked]
  split
  · exact State.addNotice_replies _ _
  · exact .refl

theorem State.denyWaiting_replies : RepliesStay s s.denyWaiting := by
  have emptied : RepliesStay s { s with arbiter := { s.arbiter with waiting := [] } } := .of_ports rfl
  rw [State.denyWaiting]
  dsimp only
  exact emptied.trans ((State.addNoticeIf_replies _ _ _).trans (State.addNoticeIf_replies _ _ _))

theorem State.addNoticeAll_replies (n : Notice) : RepliesStay s (s.addNoticeAll n) :=
  (State.addNotice_replies _ _).trans ((State.addNotice_replies _ _).trans (State.addNotice_replies _ _))

end

/-! ## The test in progress at a reset (R10, R23, R50) -/

section
variable {s : State} {e : SpecimenEntry} {rest : List SpecimenEntry}

/-- The record that a reset writes for the test of the head `e`. -/
def State.resetRecord (s : State) (e : SpecimenEntry) : ResultRecord :=
  s.assembleRecord e (if s.seq.state = .ending then s.seq.outcome.getD .aborted else .aborted)
    (if s.seq.state = .ending then s.seq.cause else some .controllerReset)
    (if s.seq.state = .ending then s.seq.note.or (some .controllerReset) else s.seq.note)

theorem State.resetTest_of_test (test : s.seq.state.inTest = true) (hq : s.queue = e :: rest) :
    s.resetTest = ((s.fileRecord (s.resetRecord e)).removeHead).noticeTestEnd := by
  have recorded (outcome : TestOutcome) (cause note : Option Cause) : s.recordAtReset outcome cause note
      = ((s.fileRecord (s.assembleRecord e outcome cause note)).removeHead).noticeTestEnd := by
    simp [State.recordAtReset, hq]
  cases state : s.seq.state with
  | idle | armed => rw [state] at test; cases test
  | preload | attach | run | hold | ending => simp [State.resetTest, State.resetRecord, state, recorded]

theorem State.resetTest_of_idle (idle : s.seq.state = .idle) : s.resetTest = s := by
  rw [State.resetTest, idle]

theorem State.resetTest_of_armed (armed : s.seq.state = .armed) (hq : s.queue = e :: rest) : s.resetTest = { s with
    queue := { e with state := .waiting } :: rest, results := { s.results with reserved := false } } := by
  rw [State.resetTest, armed]
  dsimp only
  rw [State.setHeadState_of_cons hq]

theorem State.resetTest_replies : RepliesStay s s.resetTest := by
  have recorded (outcome : TestOutcome) (cause note : Option Cause) :
      RepliesStay s (s.recordAtReset outcome cause note) := by
    rw [State.recordAtReset]
    split
    · exact (State.fileRecord_replies _).trans (State.removeHead_replies.trans State.noticeTestEnd_replies)
    · exact .refl
  rw [State.resetTest]
  split
  · exact .refl
  · exact .of_ports (by simp)
  · exact recorded _ _ _
  · exact recorded _ _ _

theorem State.resetTest_autoArm : s.resetTest.seq.autoArm = s.seq.autoArm := by
  have removed (t : State) : t.removeHead.seq.autoArm = t.seq.autoArm := by
    cases hq : t.queue with
    | nil => rw [State.removeHead, hq]
    | cons e rest => rw [State.removeHead_of_cons hq]; simp
  have recorded (outcome : TestOutcome) (cause note : Option Cause) :
      (s.recordAtReset outcome cause note).seq.autoArm = s.seq.autoArm := by
    rw [State.recordAtReset]
    split
    · simp [removed]
    · rfl
  rw [State.resetTest]
  split
  · rfl
  · simp
  · exact recorded _ _ _
  · exact recorded _ _ _

variable (test : s.seq.state.inTest = true) (hq : s.queue = e :: rest)
include test hq

theorem State.resetTest_queue_of_test : s.resetTest.queue = rest := by
  rw [State.resetTest_of_test test hq, State.removeHead_of_cons (by simpa using hq)]
  simp

theorem State.resetTest_programs_of_test {q : ProgramSlot} (hs : s.programs[e.slot]? = some q) :
    s.resetTest.programs = s.programs.set e.slot { q with inUse := q.inUse - 1 } := by
  have removed := State.removeHead_programs (s := s.fileRecord (s.resetRecord e)) (by simpa using hq) (q := q)
    (by simpa using hs)
  rw [State.resetTest_of_test test hq]
  simpa using removed

theorem State.resetTest_results_of_test : s.resetTest.results = { s.results with
    records := s.results.records ++ [s.resetRecord e], reserved := false } := by
  rw [State.resetTest_of_test test hq]
  simp [State.fileRecord_results]

theorem State.resetTest_notices_of_test :
    (s.resetTest.ports.get .console).hasNotice .testEnded = true
      ∧ (s.resetTest.ports.get .console).hasNotice .queueChanged = true
      ∧ (s.resetTest.ports.get .cell).hasNotice .specimenDone = true
      ∧ ∀ p, s.results.readers.mem p = true → (s.resetTest.ports.get p).hasNotice .resultReady = true := by
  rw [State.resetTest_of_test test hq]
  refine ⟨State.noticeTestEnd_hasNotice.1, State.noticeTestEnd_stay _ _ ?_, State.noticeTestEnd_hasNotice.2,
    fun p reader => State.noticeTestEnd_stay _ _ (State.removeHead_stay _ _ (State.addNoticeTo_hasNotice _ reader))⟩
  rw [State.removeHead_of_cons (by simpa using hq)]
  exact State.addNotice_hasNotice _ _ _

omit test hq in
/-- The record of a reset with each field from the entry and from the blocks (R18). -/
theorem State.resetRecord_eq {outcome : TestOutcome} {parallel k : Int}
    (hp : s.strain.parallel = some parallel)
    (ending : s.seq.state = .ending → s.seq.outcome = some outcome) (other : s.seq.state ≠ .ending → outcome = .aborted)
    (hk : s.modulusAtAssembly = some k) : s.resetRecord e =
      { id := e.id, slot := e.slot, outcome := outcome
        cause := if s.seq.state = .ending then s.seq.cause else some .controllerReset
        note := if s.seq.state = .ending then s.seq.note.or (some .controllerReset) else s.seq.note
        area := e.area, gauge := e.gauge, parallel := parallel, modulus := s.eval.modulus
        reh := s.eval.reh.map fun m => m.sigma
        rel := s.eval.rel, ae := s.eval.ae, rp := s.eval.rp
        fmRm := s.eval.maximum.map fun m => (m.force, roundDiv (m.force * 10000) e.area)
        ag := s.eval.maximum.map fun m => m.epsilon - roundDiv (m.sigma * 10000) k
        elongation :=
          if outcome = .complete then s.eval.breakSample.map fun m => m.epsilon - roundDiv (m.sigma * 10000) k
          else none
        source := s.strain.source, rangeSwitches := s.seq.rangeSwitches, holds := s.seq.holds
        flags := ⟨s.seq.extLost, s.seq.extAttachFailed, s.seq.extRangeEnd, s.eval.extAtBreak,
          s.strain.lengthSubstituted, s.eval.modulusSubstituted, s.eval.yieldNotFound⟩
        duration := s.seq.duration, required := s.results.readers
        takenBy := ⟨false, false, false⟩ } := by
  have ends : (if s.seq.state = .ending then s.seq.outcome.getD .aborted else .aborted) = outcome := by
    split
    next h => rw [ending h]; rfl
    next h => exact (other h).symm
  rw [State.resetRecord, ends, State.assembleRecord, hk, hp]
  simp [elasticStrain, Option.map_eq_bind, RoleSet.empty]

end

/-! ## The drive, the arbiter and the link at a reset (R142, R146, R159) -/

section
variable {s : State}

theorem State.resetMotion_eq :
    s.resetMotion = ((s.dropHolder .released).noticeRevoked s.arbiter.holder).denyWaiting := by
  cases h : s.arbiter.holder.bind Party.port <;> simp [State.resetMotion, State.noticeRevoked, h]

theorem State.resetMotion_drive : s.resetMotion.drive = s.drive.dropped .released := by
  rw [State.resetMotion_eq]
  simp [State.dropHolder_drive_eq]

theorem State.resetMotion_replies : RepliesStay s s.resetMotion := by
  rw [State.resetMotion_eq]
  exact (State.dropHolder_replies _).trans ((State.noticeRevoked_replies _).trans State.denyWaiting_replies)

theorem State.resetMotion_stay : NoticesStay s s.resetMotion := by
  rw [State.resetMotion_eq]
  exact (State.dropHolder_stay _ _).trans ((State.noticeRevoked_stay _).trans State.denyWaiting_stay)

theorem State.resetMotion_notices {q : Party} {p : Role} (hq : q.port = some p) :
    (s.arbiter.holder = some q → (s.resetMotion.ports.get p).hasNotice .authorityRevoked = true)
      ∧ (q ∈ s.arbiter.waiting → (s.resetMotion.ports.get p).hasNotice .authorityDenied = true) := by
  rw [State.resetMotion_eq]
  refine ⟨fun holds => ?_, fun waits => ?_⟩
  · exact State.denyWaiting_stay _ _ (State.noticeRevoked_hasNotice holds hq)
  · exact State.denyWaiting_hasNotice hq (by simpa using waits)

theorem State.resetLink_of_rested (h : s.link.state = .ready ∨ s.link.state = .asleep) :
    s.resetLink = { s with link := { s.link with
      holding := none, waiting := [], attachPending := false, streamRequested := false
      operationTimer := none, staleness := 0 } } :=
  if_pos h

theorem State.resetLink_of_other (ready : s.link.state ≠ .ready) (asleep : s.link.state ≠ .asleep) :
    s.resetLink = { s with link := s.link.fallen }.addNotice .console .extState := by
  rw [State.resetLink, if_neg (by simp [ready, asleep]), State.enterLost_eq]

theorem State.resetLink_replies : RepliesStay s s.resetLink := by
  rw [State.resetLink]
  split
  · exact .of_ports rfl
  · rw [State.enterLost_eq]
    exact .trans (.of_ports rfl) (State.addNotice_replies _ _)

theorem State.resetLink_stay : NoticesStay s s.resetLink := by
  rw [State.resetLink]
  split
  · exact .of_ports rfl
  · rw [State.enterLost_eq]
    exact .trans (.of_ports rfl) (State.addNotice_stay _ _ _)

theorem LoadUnit.abandonTare_of_none {l : LoadUnit} (h : l.tare = none) : l.abandonTare = l := by
  rw [LoadUnit.abandonTare, h]

theorem LoadUnit.abandonTare_of_walk {l : LoadUnit} {w : TareWalk} (h : l.tare = some w) :
    l.abandonTare.tare = none ∧ l.abandonTare.offsets = l.offsets ∧ l.abandonTare.activeRange = w.returnRange := by
  rw [LoadUnit.abandonTare, h]
  dsimp only [LoadUnit.endTare]
  rw [LoadUnit.setRange]
  split
  next same => exact ⟨rfl, rfl, same.symm⟩
  next => exact ⟨rfl, rfl, rfl⟩

end

/-! ## The reset (R190) -/

section
variable {s : State}

/-- The state of a controller reset, before auto-arm examines the head. -/
def State.resetTold (s : State) : State := s.blocksReset.addNoticeAll .controllerReset

theorem State.controllerReset_eq : s.controllerReset = s.resetTold.examineHead := rfl

theorem State.blocksReset_ports : s.blocksReset.ports = s.resetTest.resetMotion.resetLink.ports := rfl

theorem State.resetTold_replies : RepliesStay s s.resetTold :=
  (State.resetTest_replies.trans (State.resetMotion_replies.trans State.resetLink_replies)).trans
    (.trans (.of_ports State.blocksReset_ports) (State.addNoticeAll_replies _))

/-- A notice present once the drive and the arbiter are reset is present after the reset. -/
theorem State.resetMotion_told : NoticesStay s.resetTest.resetMotion s.resetTold :=
  State.resetLink_stay.trans (.trans (.of_ports State.blocksReset_ports) (State.addNoticeAll_stay _))

end

section
variable {s : State}

theorem exec_resetController_of_takes (ht : s.takes .console = true) :
    exec (.resetController .console) s = .next (s.answer .console .resetController .ok []).controllerReset := by
  rw [exec, execResetController, State.request_of_takes .resetController _ ht (by decide)]

theorem exec_resetPin (hp : s.power = .running) : exec .resetPin s = .next s.controllerReset :=
  congrArg Host.Outcome.next (State.whenRunning_of_running hp _)

end

/-- Settles O54: each block of `resetTold` by the reset rule of its block, and each notice from the operation that set
it. -/
theorem controllerResetKeepsAndClears : Obligations.ControllerResetKeepsAndClears := by
  intro s
  have link : s.resetTold.link = s.resetTest.resetMotion.resetLink.link := by
    simp [State.resetTold, State.blocksReset, State.clearTest]
  have told : NoticesStay s.resetTest s.resetTold := State.resetMotion_stay.trans State.resetMotion_told
  have queue : s.resetTold.queue = s.resetTest.queue := by simp [State.resetTold, State.blocksReset]
  have results : s.resetTold.results = s.resetTest.results := by simp [State.resetTold, State.blocksReset]
  have programs : s.resetTold.programs = s.resetTest.programs := by simp [State.resetTold, State.blocksReset]
  have load : s.resetTold.load = s.load.abandonTare := by simp [State.resetTold, State.blocksReset]
  refine ⟨exec_resetController_of_takes, exec_resetPin, s.resetTold, State.controllerReset_eq, ?_, ?_, ?_, ?_, ?_, ?_, ?_,
    fun tare => ?_, fun w tare => ?_, ?_, ?_, ?_, fun rested => ?_, fun ready asleep => ?_, fun p => ?_,
    fun q p hq => ?_, fun idle => ?_, fun e rest hq => ⟨fun armed => ?_, fun test => ?_⟩⟩
  · simp [State.resetTold, State.blocksReset, State.resetTest_autoArm]
  · simp [State.resetTold, State.blocksReset, State.clearTest]
  · simp [State.resetTold, State.blocksReset, State.clearTest]
  · simp [State.resetTold, State.blocksReset, State.clearTest]
  · simp [State.resetTold, State.blocksReset, State.resetMotion_motion]
  · simp [State.resetTold, State.blocksReset, State.resetMotion_drive, Drive.dropped, Drive.outcomeAfter]
    rfl
  · simp [State.resetTold, State.blocksReset, SpeedMeter.reset, SpeedMeter.restart_eq]
  · rw [load, LoadUnit.abandonTare_of_none tare]
  · rw [load]
    exact LoadUnit.abandonTare_of_walk tare
  · simp [State.resetTold, State.blocksReset]
  · simp [State.resetTold, State.blocksReset]
  · simp [State.resetTold, State.blocksReset]
  · rw [link, State.resetLink_of_rested (by simpa using rested)]
    simp
  · rw [link, State.resetLink_of_other (by simpa using ready) (by simpa using asleep)]
    simp [ExtLink.fallen, ExtLink.unknownOnLoss]
  · exact ⟨State.addNoticeAll_hasNotice _ p, State.resetTold_replies p⟩
  · have notices := State.resetMotion_notices (s := s.resetTest) hq
    simp only [State.resetTest_frame] at notices
    exact ⟨fun holds => State.resetMotion_told _ _ (notices.1 holds),
      fun waits => State.resetMotion_told _ _ (notices.2 waits)⟩
  · rw [queue, results, programs, State.resetTest_of_idle idle]
    exact ⟨rfl, rfl, rfl⟩
  · rw [queue, results, programs, State.resetTest_of_armed armed hq]
    exact ⟨rfl, rfl, rfl⟩
  · obtain ⟨testEnded, queueChanged, specimenDone, resultReady⟩ := State.resetTest_notices_of_test test hq
    rw [queue, results, programs]
    refine ⟨State.resetTest_queue_of_test test hq, fun q hs => State.resetTest_programs_of_test test hq hs,
      told _ _ testEnded, told _ _ queueChanged, told _ _ specimenDone, fun p reader => told _ _ (resultReady p reader),
      s.resetRecord e, State.resetTest_results_of_test test hq, rfl, rfl, fun other => ?_, fun ending => ?_,
      fun b outcome parallel k hb hp ending other hk => ?_⟩
    · simp [State.resetRecord, State.assembleRecord, other]
    · refine ⟨by simp [State.resetRecord, State.assembleRecord, ending], fun o ho => ?_,
        by simp [State.resetRecord, State.assembleRecord, ending]⟩
      simp [State.resetRecord, State.assembleRecord, ending, ho]
    · have modulus : s.modulusAtAssembly = some k := by
        rw [State.modulusAtAssembly, State.headProgram_of_cons hq, hb, hk]
        cases s.eval.modulus <;> rfl
      exact State.resetRecord_eq hp ending other modulus

end Sys2Proof.Machine
end

section
/-! PROOFS. A conversion slot's sample in a test (R36 to R41, R47): what the sequencer makes of it in each state. -/

namespace Sys2Proof.Machine

/-! ## The slot's order and its counts (R24, R133) -/

section
variable {s : State}

theorem State.afterLoadEvent_of_event {before : LoadUnit} (h : (before.tare.isSome = true ∧ s.load.tare = none)
    ∨ (before.referenceFault = true ∧ s.load.referenceFault = false)) :
    s.afterLoadEvent before = s.examineHead.testGripsStart :=
  if_pos (h.imp (And.imp_right Option.isNone_iff_eq_none.mpr) (And.imp_right (by simp)))

theorem State.countDuration_of_test (h : s.seq.state.underTest = true) :
    s.countDuration = { s with seq := { s.seq with duration := min (s.seq.duration + 1) 4294967295 } } :=
  if_pos h

theorem State.countStaleness_of_other (h : s.link.state ≠ .streaming) : s.countStaleness = s :=
  if_neg h

theorem State.countStaleness_of_counting (h : s.link.state = .streaming) (below : s.link.staleness + 1 < 8) :
    s.countStaleness = { s with link := { s.link with staleness := s.link.staleness + 1 } } := by
  rw [State.countStaleness, if_pos h]
  exact if_neg (not_le.mpr below)

theorem State.countStaleness_of_limit (h : s.link.state = .streaming) (limit : 8 ≤ s.link.staleness + 1) :
    s.countStaleness = s.enterLost := by
  rw [State.countStaleness, if_pos h]
  exact if_pos limit

end

/-! ## The sample at the units (R69, R82) -/

section
variable {s u : State} {b : ProgramBody} {f : Int} {x : TestSample} {fractured : Bool}

/-- The strain and stress unit computes the sample, then the evaluator takes it. -/
theorem State.measure_eq
    (hx : x = ⟨f, (s.strain.compute f s.drive.encoder).sigma.getD 0, (s.strain.compute f s.drive.encoder).epsilon.getD 0⟩)
    (he : s.eval.sample b s.strain.source x = (u.eval, fractured))
    (hu : u = { s with
      strain := s.strain.compute f s.drive.encoder, eval := u.eval
      seq := { s.seq with yieldEndSeen := s.seq.yieldEndSeen || u.eval.yieldEndRaised } }) :
    s.measure b f = (u, fractured) := by
  have source : (s.strain.compute f s.drive.encoder).source = s.strain.source := (StrainUnit.compute_origins _ _ _).1
  generalize hv : u.eval = v at he hu
  subst hx hu
  simp only [State.measure, source, he]

variable (hm : s.measure b f = (u, fractured))
include hm

theorem State.attachSample_of_fracture (h : fractured = true) :
    s.attachSample b f = u.enterEnding .complete none := by
  rw [State.attachSample, hm]
  exact if_pos h

theorem State.attachSample_of_no_fracture (h : fractured = false) : s.attachSample b f = u.seqWrite 0 := by
  rw [State.attachSample, hm]
  exact if_neg (by simp [h])

theorem State.runSample_of_fracture (h : fractured = true) : s.runSample b f = u.enterEnding .complete none := by
  rw [State.runSample, hm]
  exact if_pos h

theorem State.runSample_of_no_fracture (h : fractured = false) :
    s.runSample b f = ((u.extensometerStep b f).endEventStep).commandStep := by
  rw [State.runSample, hm]
  exact if_neg (by simp [h])

theorem State.endingSample_of_origins (h : s.strain.p0.isSome = true) : s.endingSample b f = u.seqWrite 0 := by
  rw [State.endingSample, if_pos h, hm]

omit hm in
theorem State.endingSample_of_no_origins (h : s.strain.p0 = none) : s.endingSample b f = s.seqWrite 0 := by
  rw [State.endingSample, if_neg (by simp [h])]

end

/-! ## The sample by the state of the sequencer (R25, R38) -/

section
variable {s : State} {b : ProgramBody} (program : s.headProgram = some b)
include program

section
variable {f : Int} (force : s.load.last.force = some f)
include force

theorem State.sampleTest_of_preload (h : s.seq.state = .preload) : s.sampleTest = s.preloadSample b f := by
  simp only [State.sampleTest, h, force, program]

theorem State.sampleTest_of_attach (h : s.seq.state = .attach) : s.sampleTest = s.attachSample b f := by
  simp only [State.sampleTest, h, force, program]

theorem State.sampleTest_of_run (h : s.seq.state = .run ∨ s.seq.state = .hold) : s.sampleTest = s.runSample b f := by
  obtain h | h := h
  · simp only [State.sampleTest, h, force, program]
  · simp only [State.sampleTest, h, force, program]

theorem State.sampleTest_of_ending (h : s.seq.state = .ending) : s.sampleTest = s.endingSample b f := by
  simp only [State.sampleTest, h, force, program]

end

variable (force : s.load.last.force = none)
include force

theorem State.sampleTest_of_no_force (h : s.seq.state ≠ .armed) : s.sampleTest = s.absentSample b := by
  cases state : s.seq.state with
  | armed => exact absurd state h
  | idle | preload | attach | run | hold | ending => simp only [State.sampleTest, state, force, program]

theorem State.sampleTest_of_no_force_resting
    (h : s.seq.state = .attach ∨ s.seq.state = .hold ∨ s.seq.state = .ending) : s.sampleTest = s.seqWrite 0 := by
  rw [State.sampleTest_of_no_force program force (by rcases h with h | h | h <;> simp [h]), State.absentSample]
  rcases h with h | h | h
  · simp only [h]
  · simp only [h]
  · simp only [h]

end

/-! ## The extensometer and the end events in RUN and HOLD (R39 to R41) -/

section
variable {u : State} {b : ProgramBody} {f : Int}

/-- `u` with the strain handed off to the crosshead, the release seen (R77). -/
theorem State.handOff_eq :
    u.handOff = { u with strain := u.strain.handOff, seq := { u.seq with releaseSeen := true } } := rfl

theorem State.releases_iff : u.releases b f = true ↔ (∃ e, u.strain.epsilon = some e ∧ b.releaseStrain ≤ e)
    ∨ ∃ m, u.eval.maximum = some m ∧ b.releaseDrop ≠ 0
      ∧ f ≤ m.force - roundDiv (m.force * b.releaseDrop) 1000 := by
  rw [State.releases, Bool.or_eq_true]
  cases u.strain.epsilon <;> cases u.eval.maximum <;> simp

theorem ExtLink.overrangeReading_of_some {l : ExtLink} {r : Reading} (h : l.latest = some r) :
    l.overrangeReading = r.overrange := by
  rw [ExtLink.overrangeReading, h]

theorem ExtLink.overrangeReading_of_clear {l : ExtLink} (h : ∀ r, l.latest = some r → r.overrange = false) :
    l.overrangeReading = false := by
  cases latest : l.latest with
  | none => rw [ExtLink.overrangeReading, latest]
  | some r => rw [ExtLink.overrangeReading_of_some latest, h r latest]

theorem State.extensometerStep_of_other (h : u.strain.source ≠ some .extensometer) : u.extensometerStep b f = u :=
  if_neg h

variable (source : u.strain.source = some .extensometer)
include source

/-- The loss is judged before the overrange reading (R39). -/
theorem State.extensometerStep_of_loss (h : u.link.state ≠ .streaming) :
    u.extensometerStep b f = { u.handOff with seq := { u.handOff.seq with extLost := true } } := by
  rw [State.extensometerStep, if_pos source, if_pos h]

variable (streaming : u.link.state = .streaming)
include streaming

theorem State.extensometerStep_of_overrange (h : u.link.overrangeReading = true) :
    u.extensometerStep b f
      = State.requestDetach { u.handOff with seq := { u.handOff.seq with extRangeEnd := true } } .sequencer := by
  rw [State.extensometerStep, if_pos source, if_neg (by simp [streaming]), if_pos h]

theorem State.extensometerStep_of_release (clear : u.link.overrangeReading = false) (h : u.releases b f = true) :
    u.extensometerStep b f = u.handOff.requestDetach .sequencer := by
  rw [State.extensometerStep, if_pos source, if_neg (by simp [streaming]), if_neg (by simp [clear]), if_pos h]

theorem State.extensometerStep_of_clear (clear : u.link.overrangeReading = false) (h : ¬ u.releases b f = true) :
    u.extensometerStep b f = u := by
  rw [State.extensometerStep, if_pos source, if_neg (by simp [streaming]), if_neg (by simp [clear]), if_neg h]

end

section
variable {u : State} {g : Segment}

theorem State.endEventHolds_iff : u.endEventHolds g = true ↔
    (g.endEvent = .strain ∧ ∃ e, u.strain.epsilon = some e ∧ g.endStrain ≤ e)
      ∨ (g.endEvent = .yieldEnd ∧ u.seq.yieldEndSeen = true)
      ∨ (g.endEvent = .extReleased ∧ u.seq.releaseSeen = true) := by
  cases event : g.endEvent with
  | strain => cases strain : u.strain.epsilon <;> simp [State.endEventHolds, event, strain]
  | yieldEnd | extReleased | fracture => simp [State.endEventHolds, event]

variable (active : u.activeSegment = some g)
include active

theorem State.endEventStep_of_holds (h : u.endEventHolds g = true) : u.endEventStep = { u with
    seq := { u.seq with segment := u.seq.segment + 1 }, rate := { u.rate with initPending := true } } := by
  rw [State.endEventStep, active]
  exact if_pos h

theorem State.endEventStep_of_not_holds (h : ¬ u.endEventHolds g = true) : u.endEventStep = u := by
  rw [State.endEventStep, active]
  exact if_neg h

end

/-- Settles O4: a lemma for each branch of the sample's way; the velocity of ATTACH, HOLD and ENDING is 0. -/
theorem samplesMoveTheTest : Obligations.SamplesMoveTheTest := by
  refine ⟨fun s t r hp ht => ?_, fun s => ⟨State.countDuration_of_test, State.countDuration_of_no_test,
      State.countStaleness_of_other, State.countStaleness_of_counting, State.countStaleness_of_limit⟩,
    fun s u stopped b f x fractured program force holder hv hx he hu hs => ?_, fun u handed b f released hh hr => ?_,
    fun u g holds active hh => ?_, fun u hold holder hv => ?_, fun s b program force holder hv state => ?_,
    fun s attach ending => s.linkChanged_of_not_waiting attach ending, fun s attach => ⟨fun l streaming latest =>
      State.linkChanged_of_attach_streaming attach streaming latest, State.linkChanged_of_attach_lost attach,
      State.linkChanged_of_not_ending (by simp [attach])⟩⟩
  · have slot : exec (.conversionSlot r) s = .next (t.afterLoadEvent s.load) := by
      rw [exec_conversionSlot hp, ht]
      rfl
    refine ⟨fun event => ?_, fun quiet => ?_⟩
    · rw [slot, State.afterLoadEvent_of_event event]
    · obtain ⟨tare, fault⟩ := quiet
      rw [slot, State.afterLoadEvent_of_none (tare.imp_right (by rintro on off; simp [off] at on))
        (fun was => fault.resolve_left (by simp [was]))]
  · have measured := State.measure_eq hx he hu
    have rests : u.seqWrite 0 = stopped := by
      rw [hs, State.seqWrite_zero (by rw [hu]; exact holder) (by rw [hu]; exact hv), hu]
    have rested := State.seqWrite_zero holder hv
    refine ⟨fun state broken => ?_, fun attach whole => ?_, fun state whole => ?_, fun ending origins => ?_,
      fun ending none => ?_⟩
    · obtain attach | course := state
      · rw [State.sampleTest_of_attach program force attach, State.attachSample_of_fracture measured broken]
      · rw [State.sampleTest_of_run program force course, State.runSample_of_fracture measured broken]
    · rw [State.sampleTest_of_attach program force attach, State.attachSample_of_no_fracture measured whole, rests]
    · rw [State.sampleTest_of_run program force state, State.runSample_of_no_fracture measured whole]
    · rw [State.sampleTest_of_ending program force ending, State.endingSample_of_origins measured origins, rests]
    · rw [State.sampleTest_of_ending program force ending, State.endingSample_of_no_origins none, rested, hs]
  · rw [← State.handOff_eq] at hh
    rw [hh, hr, ← State.releases_iff]
    refine ⟨State.extensometerStep_of_other, fun source => ⟨State.extensometerStep_of_loss source,
      fun streaming => ⟨fun l latest flagged => ?_, fun clear => ⟨?_, ?_⟩⟩⟩⟩
    · exact State.extensometerStep_of_overrange source streaming
        ((ExtLink.overrangeReading_of_some latest).trans flagged)
    · exact State.extensometerStep_of_release source streaming (ExtLink.overrangeReading_of_clear clear)
    · exact State.extensometerStep_of_clear source streaming (ExtLink.overrangeReading_of_clear clear)
  · rw [hh, ← State.endEventHolds_iff]
    exact ⟨State.endEventStep_of_holds active, State.endEventStep_of_not_holds active⟩
  · rw [State.commandStep, if_neg (by simp [hold]), State.seqWrite_zero holder hv]
  · rw [State.sampleTest_of_no_force_resting program force state, State.seqWrite_zero holder hv]

end Sys2Proof.Machine
end

section
/-! PROOFS. One sample at the result evaluator (R82 to R98): the maximum, the fracture, the modulus, the yield search and
the plateau, a lemma for each branch. -/

namespace Sys2Proof.Machine

/-! ## The maximum and the ring (R83, R96) -/

section
variable {e : Evaluator} {b : ProgramBody} {x : TestSample} {y : StressStrain}

/-- The greater of the maximum and the sample; a tie keeps the maximum. -/
def Evaluator.maximumWith (e : Evaluator) (x : TestSample) : TestSample :=
  match e.maximum with
  | none => x
  | some k => if k.force < x.force then x else k

theorem Evaluator.track_eq : e.track x = { e with maximum := some (e.maximumWith x) } := by
  rw [Evaluator.track, Evaluator.maximumWith]
  cases h : e.maximum with
  | none => rfl
  | some k =>
    dsimp only
    split
    · rfl
    · rw [← h]

/-- The modulus and the yield search leave the ring and the detectors to the other steps. -/
theorem Evaluator.modulusStep_frame :
    (e.modulusStep b y).ring = e.ring ∧ (e.modulusStep b y).detectors = e.detectors := by
  unfold Evaluator.modulusStep
  dsimp only
  split
  · split
    · split
      · simp only [Evaluator.settleSecant]; split <;> split <;> exact ⟨rfl, rfl⟩
      · split <;> exact ⟨rfl, rfl⟩
    · split <;> exact ⟨rfl, rfl⟩
  · exact ⟨rfl, rfl⟩

theorem Evaluator.substitute_frame :
    (e.substitute b).ring = e.ring ∧ (e.substitute b).detectors = e.detectors := by
  rw [Evaluator.substitute]
  split <;> exact ⟨rfl, rfl⟩

theorem Evaluator.updatePeak_frame :
    (e.updatePeak y).ring = e.ring ∧ (e.updatePeak y).detectors = e.detectors := by
  rw [Evaluator.updatePeak]
  split
  · exact ⟨rfl, rfl⟩
  · split <;> exact ⟨rfl, rfl⟩

theorem Evaluator.yieldStep_frame :
    (e.yieldStep b y).ring = e.ring ∧ (e.yieldStep b y).detectors = e.detectors := by
  rw [Evaluator.yieldStep]
  split
  · rw [Evaluator.searchStep]
    split
    · exact Evaluator.substitute_frame (e := { e with search := .ended, yieldNotFound := true })
    · split
      · exact e.substitute_frame
      · split
        · exact Evaluator.updatePeak_frame
            (e := { e with search := .foundRp, rp := some y.sigma, yieldEndRaised := true })
        · exact e.updatePeak_frame
  · split
    · rw [Evaluator.plateauStep]
      split
      · split <;> exact ⟨rfl, rfl⟩
      · exact ⟨rfl, rfl⟩
    · exact ⟨rfl, rfl⟩

theorem Evaluator.pushRing_eq {ring : List TestSample}
    (h : ring = (if e.ring.length < 8 then e.ring else e.ring.tail) ++ [x]) : e.pushRing x = { e with ring := ring } := by
  have kept : (if 8 ≤ e.ring.length then e.ring.tail else e.ring) = if e.ring.length < 8 then e.ring else e.ring.tail := by
    rw [← ite_not]
    simp only [not_le]
  rw [h, ← kept]
  rfl

end

/-! ## The sample and the fracture (R82, R97, R98) -/

section
variable {e : Evaluator} {b : ProgramBody} {source : Option StrainSource} {x m : TestSample}

theorem Evaluator.fractures_iff (hm : e.maximum = some m) : e.fractures b x = true ↔
    b.fractureArm ≤ m.force ∧ e.ring.length = 8 ∧ ∃ o, e.ring.head? = some o
      ∧ (x.force ≤ o.force - roundDiv (m.force * b.fractureDrop) 1000 ∨ x.force * 1000 ≤ m.force * b.lowCut) := by
  rw [Evaluator.fractures, hm]
  cases ring : e.ring with
  | nil => simp
  | cons o rest => simp [fractureArmed, fractureHolds, Config.ringSize, and_assoc]

theorem Evaluator.sample_of_detectors_off (h : e.detectors = false) : e.sample b source x = (e.track x, false) := by
  have off : (e.track x).detectors = false := by rw [Evaluator.track_eq]; exact h
  simp [Evaluator.sample, off]

variable (h : e.detectors = true)
include h

theorem Evaluator.sample_of_fracture (broken : (e.track x).fractures b x = true) :
    e.sample b source x = ((e.track x).takeBreak source, true) := by
  have on : (e.track x).detectors = true := by rw [Evaluator.track_eq]; exact h
  simp [Evaluator.sample, on, broken]

/-- The second component of a sample's work is the judgement of the fracture. -/
theorem Evaluator.sample_fractured {e' : Evaluator} {fractured : Bool} (hs : e.sample b source x = (e', fractured)) :
    fractured = (e.track x).fractures b x := by
  have on : (e.track x).detectors = true := by rw [Evaluator.track_eq]; exact h
  have second : (e.sample b source x).2 = (e.track x).fractures b x := by
    cases broken : (e.track x).fractures b x <;> simp [Evaluator.sample, on, broken]
  rw [← second, hs]

theorem Evaluator.sample_of_no_source (whole : (e.track x).fractures b x = false) :
    e.sample b none x = ((e.track x).pushRing x, false) := by
  have on : (e.track x).detectors = true := by rw [Evaluator.track_eq]; exact h
  simp [Evaluator.sample, on, whole]

theorem Evaluator.sample_of_source (whole : (e.track x).fractures b x = false) (present : source.isSome = true) :
    e.sample b source x = ((((e.track x).modulusStep b ⟨x.sigma, x.epsilon⟩).yieldStep b
      ⟨x.sigma, x.epsilon⟩).pushRing x, false) := by
  have on : (e.track x).detectors = true := by rw [Evaluator.track_eq]; exact h
  simp [Evaluator.sample, on, whole, present]

end

/-! ## The modulus (R85 to R87) -/

section
variable {g : Evaluator} {b : ProgramBody} {y : StressStrain}

theorem Evaluator.modulusStep_of_settled (h : b.modulusMode = .nominal ∨ g.modulus.isSome = true) :
    g.modulusStep b y = g := by
  refine if_neg ?_
  rintro ⟨mode, unsettled⟩
  simp [mode, unsettled] at h

variable (mode : b.modulusMode = .secant) (unsettled : g.modulus = none)
include mode unsettled

/-- No secant point is taken below the lower stress. -/
theorem Evaluator.modulusStep_of_low (first : g.secant1 = none) (low : y.sigma < b.sigmaLo) : g.modulusStep b y = g := by
  rw [Evaluator.modulusStep, if_pos ⟨mode, unsettled⟩]
  simp [first, not_le.mpr low]

variable {a : StressStrain} (first : g.secant1 = some a ∨ (g.secant1 = none ∧ b.sigmaLo ≤ y.sigma ∧ a = y))
include first

omit mode unsettled in
/-- The first point is the one before, or else the sample. -/
theorem Evaluator.firstPoint_eq :
    (if g.secant1 = none ∧ b.sigmaLo ≤ y.sigma then { g with secant1 := some y } else g)
      = { g with secant1 := some a } := by
  obtain before | ⟨none, high, rfl⟩ := first
  · rw [if_neg (by simp [before]), ← before]
  · rw [if_pos ⟨none, high⟩]

theorem Evaluator.modulusStep_of_first (below : y.sigma < b.sigmaHi) :
    g.modulusStep b y = { g with secant1 := some a } := by
  rw [Evaluator.modulusStep, if_pos ⟨mode, unsettled⟩, Evaluator.firstPoint_eq first]
  cases g.secant2 <;> simp [not_le.mpr below]

variable (above : b.sigmaHi ≤ y.sigma) (second : g.secant2 = none)
include above second

theorem Evaluator.modulusStep_of_second : g.modulusStep b y
    = Evaluator.settleSecant { g with secant1 := some a, secant2 := some y } b a y := by
  rw [Evaluator.modulusStep, if_pos ⟨mode, unsettled⟩, Evaluator.firstPoint_eq first]
  simp [second, above]

end

theorem secantAccepted_iff {nominal : Int} {a c : StressStrain} : secantAccepted nominal a c = true ↔
    0 < c.epsilon - a.epsilon
      ∧ roundDiv nominal 2 ≤ roundDiv ((c.sigma - a.sigma) * 10000) (c.epsilon - a.epsilon)
      ∧ roundDiv ((c.sigma - a.sigma) * 10000) (c.epsilon - a.epsilon) ≤ roundDiv (3 * nominal) 2 := by
  rw [secantAccepted]
  simp only [Bool.and_eq_true, decide_eq_true_eq, within_eq_true_iff, mul_comm nominal 3]

/-! ## The yield search (R89 to R92) -/

section
variable {g : Evaluator} {b : ProgramBody} {y : StressStrain}

/-- The running maximum with the sample. -/
def Evaluator.peakWith (g : Evaluator) (y : StressStrain) : StressStrain :=
  match g.peak with
  | none => y
  | some p => if p.sigma < y.sigma then y else p

theorem Evaluator.updatePeak_eq : g.updatePeak y = { g with peak := some (g.peakWith y) } := by
  rw [Evaluator.updatePeak, Evaluator.peakWith]
  cases h : g.peak with
  | none => rfl
  | some p =>
    dsimp only
    split
    · rfl
    · rw [← h]

theorem Evaluator.proofReached_iff :
    g.proofReached b y = true ↔ ∃ k, g.modulus = some k ∧ b.proofOffset ≤ y.epsilon - roundDiv (y.sigma * 10000) k.e := by
  cases h : g.modulus with
  | none => simp [Evaluator.proofReached, h]
  | some k =>
    simp only [Evaluator.proofReached, h, elasticStrain, Option.some.injEq, exists_eq_left']
    exact decide_eq_true_iff

variable (active : g.search = .active)
include active

theorem Evaluator.yieldStep_of_limit (limit : b.searchLimit ≤ y.epsilon) : g.yieldStep b y = { g.substitute b with
    search := .ended, yieldNotFound := true, yieldEndRaised := true } := by
  rw [Evaluator.yieldStep, if_pos active, Evaluator.searchStep, if_pos limit, Evaluator.raiseYieldEnd,
    Evaluator.substitute, Evaluator.substitute]
  split_ifs <;> rfl

variable (within : y.epsilon < b.searchLimit)
include within

theorem Evaluator.yieldStep_of_drop {p : StressStrain} (peak : g.peak = some p) (high : b.sigmaLo ≤ p.sigma)
    (drop : y.sigma ≤ p.sigma - b.yieldDrop) : g.yieldStep b y = { g.substitute b with
      reh := some p, search := .foundReh, plateau := .opened, plateauMin := some y.sigma
      rel := if p.epsilon + b.transient ≤ y.epsilon then some y.sigma else none } := by
  have drops : g.dropFrom b y = some p := by simp [Evaluator.dropFrom, peak, high, drop]
  rw [Evaluator.yieldStep, if_pos active, Evaluator.searchStep, if_neg (not_le.mpr within), drops]
  simp [Evaluator.openPlateau, qualifies]

variable (holds : ∀ p, g.peak = some p → p.sigma < b.sigmaLo ∨ p.sigma - b.yieldDrop < y.sigma)
include holds

omit active within in
theorem Evaluator.dropFrom_eq_none : g.dropFrom b y = none := by
  rw [Evaluator.dropFrom]
  split
  next p peak =>
    refine if_neg ?_
    have := holds p peak
    omega
  next => rfl

theorem Evaluator.yieldStep_of_proof (proof : g.proofReached b y = true) : g.yieldStep b y = { g.updatePeak y with
    search := .foundRp, rp := some y.sigma, yieldEndRaised := true } := by
  rw [Evaluator.yieldStep, if_pos active, Evaluator.searchStep, if_neg (not_le.mpr within),
    Evaluator.dropFrom_eq_none holds, Evaluator.updatePeak_eq]
  simp only [proof, if_true]
  rw [Evaluator.updatePeak_eq]
  rfl

theorem Evaluator.yieldStep_of_search (proof : ¬ g.proofReached b y = true) : g.yieldStep b y = g.updatePeak y := by
  rw [Evaluator.yieldStep, if_pos active, Evaluator.searchStep, if_neg (not_le.mpr within),
    Evaluator.dropFrom_eq_none holds]
  exact if_neg proof

end

/-! ## The plateau (R93, R94) -/

section
variable {g : Evaluator} {b : ProgramBody} {y : StressStrain} (ended : g.search ≠ .active)
include ended

theorem Evaluator.yieldStep_of_no_plateau (h : g.plateau ≠ .opened) : g.yieldStep b y = g := by
  rw [Evaluator.yieldStep, if_neg ended, if_neg h]

variable (opened : g.plateau = .opened) {reh : StressStrain} {low : Int} (hr : g.reh = some reh)
  (hl : g.plateauMin = some low)
include opened hr hl

theorem Evaluator.yieldStep_of_rise (qualifying : reh.epsilon + b.transient ≤ y.epsilon)
    (rises : low + b.rise ≤ y.sigma) : g.yieldStep b y = { g with
      plateau := .closed, ae := some (y.epsilon - reh.epsilon), yieldEndRaised := true } := by
  rw [Evaluator.yieldStep, if_neg ended, if_pos opened, Evaluator.plateauStep, hr, hl]
  exact if_pos ⟨decide_eq_true qualifying, rises⟩

theorem Evaluator.yieldStep_of_plateau (h : y.epsilon < reh.epsilon + b.transient ∨ y.sigma < low + b.rise) :
    g.yieldStep b y = { g with
      plateauMin := some (min low y.sigma)
      rel := if reh.epsilon + b.transient ≤ y.epsilon then some ((g.rel.map (min · y.sigma)).getD y.sigma)
        else g.rel } := by
  rw [Evaluator.yieldStep, if_neg ended, if_pos opened, Evaluator.plateauStep, hr, hl]
  have stays : ¬ (qualifies b reh y = true ∧ low + b.rise ≤ y.sigma) := by
    simp only [qualifies, decide_eq_true_eq]
    omega
  refine (if_neg stays).trans ?_
  simp only [qualifies, decide_eq_true_eq]
  cases rel : g.rel <;> rfl

end
/-- Settles O3: each branch of the sample by its lemma; the ring is that of the evaluator before the sample. -/
theorem evaluatorWorksOneSample : Obligations.EvaluatorWorksOneSample := by
  refine ⟨fun e e' g b source x m fractured hs hm hg => ?_, fun g b y => ⟨Evaluator.modulusStep_of_settled,
      fun mode unsettled => ⟨Evaluator.modulusStep_of_low mode unsettled, fun a first =>
        ⟨Evaluator.modulusStep_of_first mode unsettled first, fun above second secant hq => ?_⟩⟩⟩,
    fun g settled peaked b y active hs hp => ?_, fun g b y ended => ⟨Evaluator.yieldStep_of_no_plateau ended,
      fun opened reh low hr hl => ⟨Evaluator.yieldStep_of_rise ended opened hr hl, fun h => ?_⟩⟩⟩
  · have greatest : m = e.maximumWith x := by
      cases h : e.maximum <;> simp [hm, Evaluator.maximumWith, h]
    have tracked : e.track x = g := by rw [Evaluator.track_eq, hg, greatest]
    have maximum : g.maximum = some m := by rw [hg]
    have ring : g.ring = e.ring := by rw [hg]
    have judged := Evaluator.fractures_iff (b := b) (x := x) maximum
    rw [ring] at judged
    refine ⟨fun off => ?_, fun on => ⟨?_, fun broken => ?_, fun whole kept hk => ⟨fun none => ?_, fun present => ?_⟩⟩⟩
    · rw [Evaluator.sample_of_detectors_off off, tracked] at hs
      obtain ⟨rfl, rfl⟩ := Prod.mk.inj hs
      exact ⟨rfl, rfl⟩
    · rw [← judged, ← tracked, Evaluator.sample_fractured on hs]
    · have breaks : (e.track x).fractures b x = true := by rw [← Evaluator.sample_fractured on hs]; exact broken
      rw [Evaluator.sample_of_fracture on breaks, tracked] at hs
      rw [← (Prod.mk.inj hs).1, Evaluator.takeBreak, ring, hg]
    · have stays : (e.track x).fractures b x = false := by rw [← Evaluator.sample_fractured on hs]; exact whole
      rw [none, Evaluator.sample_of_no_source on stays, tracked] at hs
      rw [← (Prod.mk.inj hs).1]
      exact Evaluator.pushRing_eq (by rw [ring]; exact hk)
    · have stays : (e.track x).fractures b x = false := by rw [← Evaluator.sample_fractured on hs]; exact whole
      rw [Evaluator.sample_of_source on stays present, tracked] at hs
      rw [← (Prod.mk.inj hs).1]
      exact Evaluator.pushRing_eq
        (by rw [Evaluator.yieldStep_frame.1, Evaluator.modulusStep_frame.1, ring]; exact hk)
  · have settles := Evaluator.modulusStep_of_second mode unsettled first above second
    have accepted_iff := secantAccepted_iff (nominal := b.nominal) (a := a) (c := y)
    rw [Evaluator.settleSecant] at settles
    rw [← hq] at settles accepted_iff
    rw [settles]
    refine ⟨fun rises low high => if_pos (accepted_iff.mpr ⟨rises, low, high⟩), fun bad => if_neg fun accepted => ?_⟩
    obtain ⟨rises, low, high⟩ := accepted_iff.mp accepted
    omega
  · have substituted : settled = g.substitute b := hs
    have peaks : peaked = g.updatePeak y := by
      cases h : g.peak <;> simp [hp, Evaluator.updatePeak_eq, Evaluator.peakWith, h]
    rw [substituted, peaks]
    refine ⟨Evaluator.yieldStep_of_limit active, fun within => ⟨fun p peak high drop =>
      Evaluator.yieldStep_of_drop active within peak high drop, fun holds => ⟨fun k hk proof => ?_, fun proof => ?_⟩⟩⟩
    · exact Evaluator.yieldStep_of_proof active within holds (Evaluator.proofReached_iff.mpr ⟨k, hk, proof⟩)
    · refine Evaluator.yieldStep_of_search active within holds fun reached => ?_
      obtain ⟨k, hk, offset⟩ := Evaluator.proofReached_iff.mp reached
      exact absurd offset (not_le.mpr (proof k hk))
  · rw [Evaluator.yieldStep_of_plateau ended opened hr hl h]
    cases g.rel <;> rfl

end Sys2Proof.Machine
end

section
/-! PROOFS. A force sample in PRELOAD (R36, R37): the approach, the origins, and the way to RUN or to ATTACH by the link's
state. -/

namespace Sys2Proof.Machine

/-! ## Below the preload force (R36) -/

section
variable {s : State} {b : ProgramBody}

theorem State.approachSample_of_beyond (h : b.travelLimit * 10 < s.drive.encoder.toInt - s.seq.startPosition.toInt) :
    s.approachSample b = s.enterEnding .aborted (some .noPreload) :=
  if_pos (decide_eq_true h)

theorem State.approachSample_of_within (holder : s.arbiter.holder = some .sequencer)
    (h : s.drive.encoder.toInt - s.seq.startPosition.toInt ≤ b.travelLimit * 10) :
    s.approachSample b = s.writeVelocity .sequencer (min b.approach s.drive.config.vmax) := by
  rw [State.approachSample, if_neg (by simpa [State.travelExceeded] using h), State.seqWrite, if_pos holder]

end

/-! ## The preload reached (R36, R37, R70) -/

/-- The state with the origins set and the evaluator begun. -/
def State.preloaded (s : State) (b : ProgramBody) (f : Int) : State :=
  { s with strain := s.strain.setOrigins f s.drive.encoder, eval := s.eval.begin b }

section
variable {s : State} {b : ProgramBody} {f : Int} (program : s.headProgram = some b) (state : s.seq.state = .preload)
  (force : s.load.last.force = some f) (reached : b.preload ≤ f)
include program state force reached

theorem State.sampleTest_of_reached_none (ext : b.extUse = .none) :
    s.sampleTest = ((s.preloaded b f).enterRun .crosshead).runSample b f := by
  rw [State.sampleTest_of_preload program force state, State.preloadSample, if_pos reached, State.reachPreload]
  exact if_pos ext

theorem State.sampleTest_of_reached_auto (ext : b.extUse = .auto) :
    s.sampleTest = ((s.preloaded b f).measure b f).1.enterAttach := by
  rw [State.sampleTest_of_preload program force state, State.preloadSample, if_pos reached, State.reachPreload]
  exact if_neg (by simp [ext])

end

/-! ## What the sample keeps of the origins and of the detectors (R70, R82) -/

section
variable {s : State} {b : ProgramBody} {f : Int}

/-- The origins of a state: p0 and the preload force. -/
def StrainUnit.origins (u : StrainUnit) : Option Word32 × Option Int := (u.p0, u.fPre)

theorem State.measure_origins : (s.measure b f).1.strain.origins = s.strain.origins := by
  simp [State.measure, StrainUnit.origins]

theorem State.extensometerStep_origins : (s.extensometerStep b f).strain.origins = s.strain.origins := by
  have handed : s.handOff.strain.origins = s.strain.origins := by
    rw [State.handOff_eq, StrainUnit.handOff]
    dsimp only
    split <;> rfl
  rw [State.extensometerStep]
  split
  · split
    · exact handed
    · split
      · simpa using handed
      · split
        · simpa using handed
        · rfl
  · rfl

theorem State.runSample_origins : (s.runSample b f).strain.origins = s.strain.origins := by
  have measured := State.measure_origins (s := s) (b := b) (f := f)
  rw [← measured]
  cases hm : s.measure b f with
  | mk u fractured =>
    cases fractured with
    | true => simp [State.runSample_of_fracture hm rfl]
    | false => simp [State.runSample_of_no_fracture hm rfl, State.extensometerStep_origins]

theorem State.testAttach_origins : s.testAttach.strain.origins = s.strain.origins := by
  rw [State.testAttach]
  split_ifs
  · rw [State.enterRun, State.takeZero]
    dsimp only
    split <;> rfl
  · rfl
  · rfl
  · rfl

theorem State.enterAttach_origins : s.enterAttach.strain.origins = s.strain.origins := by
  rw [State.enterAttach, State.testAttach_origins]
  simp

theorem Evaluator.sample_detectors {e : Evaluator} {source : Option StrainSource} {x : TestSample} :
    (e.sample b source x).1.detectors = e.detectors := by
  have tracked : (e.track x).detectors = e.detectors := by rw [Evaluator.track_eq]
  rw [← tracked, Evaluator.sample]
  dsimp only
  split
  · rfl
  · split
    · rfl
    · split
      · exact Evaluator.yieldStep_frame.2.trans Evaluator.modulusStep_frame.2
      · rfl

theorem State.measure_detectors : (s.measure b f).1.eval.detectors = s.eval.detectors :=
  Evaluator.sample_detectors

/-- A sample on the crosshead that is not the fracture leaves the state, the release and the source (R38). -/
theorem State.runSample_of_whole_crosshead (whole : (s.measure b f).2 = false)
    (source : s.strain.source = some .crosshead) :
    (s.runSample b f).seq.state = s.seq.state ∧ (s.runSample b f).strain.source = some .crosshead
      ∧ (s.runSample b f).seq.releaseSeen = s.seq.releaseSeen
      ∧ (s.runSample b f).eval.detectors = s.eval.detectors := by
  have crosshead : (s.measure b f).1.strain.source = some .crosshead :=
    ((StrainUnit.compute_origins _ _ _).1).trans source
  have seq : (s.measure b f).1.endEventStep.seq.state = s.seq.state
      ∧ (s.measure b f).1.endEventStep.seq.releaseSeen = s.seq.releaseSeen := by
    rw [State.endEventStep]
    split
    · split <;> exact ⟨rfl, rfl⟩
    · exact ⟨rfl, rfl⟩
  have run : s.runSample b f = (s.measure b f).1.endEventStep.commandStep := by
    rw [State.runSample_of_no_fracture (u := (s.measure b f).1) (fractured := (s.measure b f).2) rfl whole,
      State.extensometerStep_of_other (by rw [crosshead]; simp)]
  rw [run]
  refine ⟨by simpa using seq.1, by simpa using crosshead, by simpa using seq.2, ?_⟩
  simpa using State.measure_detectors

/-- With an empty ring no sample is a fracture (R97). -/
theorem State.measure_of_empty_ring (h : s.eval.ring = []) : (s.measure b f).2 = false := by
  have whole (x : TestSample) : (s.eval.track x).fractures b x = false := by
    rw [Evaluator.track_eq, Evaluator.fractures]
    simp [h]
  rw [State.measure]
  simp only [Evaluator.sample, whole]
  split <;> rfl

end

/-! ## The entry to ATTACH by the link's state (R37, R130) -/

section
variable {s : State} {owner : CommandOwner}

/-- An attach asked for leads to no link that ends ATTACH at once but STREAMING. -/
theorem State.requestAttach_not_ended (h : s.link.state ≠ .streaming) :
    (s.requestAttach owner).link.state ≠ .streaming ∧ (s.requestAttach owner).link.state ≠ .lost := by
  cases state : s.link.state with
  | streaming => exact absurd state h
  | asleep => rw [State.requestAttach_of_down (.inl state)]; simp [ExtLink.woken]
  | lost => rw [State.requestAttach_of_down (.inr state)]; simp [ExtLink.woken]
  | waking => rw [State.requestAttach_of_waking state]; simp [state]
  | opening => rw [State.requestAttach_of_opening state]; simp [ExtLink.attaching, state]
  | closing => rw [State.requestAttach_of_attached (.inl state)]; simp [state]
  | ready =>
    by_cases hands : s.link.attachHands = true
    · rw [State.requestAttach_of_hands state hands, State.continueAttach]
      dsimp only
      split
      · simp [ExtLink.attaching, ExtLink.hand_eq, state]
      · simp [State.enterClosing, State.toLinkState]
    · rw [State.requestAttach, state]
      dsimp only
      rw [if_neg hands]
      split <;> simp [state]

/-- Behind a full path CLOSE_ARMS waits its turn, and the link stays READY (R127, R130). -/
theorem State.requestAttach_of_hands_full (ready : s.link.state = .ready) (hands : s.link.attachHands = true)
    (waiting : s.link.waiting = []) (busy : s.link.shifter ≠ .empty) (full : s.link.holding ≠ none) :
    s.requestAttach owner = { s with link := { s.link with
      waiting := [⟨.closeArms, owner⟩], attachPending := true, operationTimer := some 0
      streamRequested := false } } := by
  rw [State.requestAttach_of_hands ready hands, State.continueAttach]
  dsimp only
  rw [ExtLink.hand_of_full (l := s.link.attaching) busy full, if_pos (by simp)]
  simp [ExtLink.attaching, waiting]

theorem State.requestAttach_testAttach (h : s.link.state ≠ .streaming) :
    (s.requestAttach owner).testAttach = s.requestAttach owner :=
  State.testAttach_of_other (State.requestAttach_not_ended h).1 (State.requestAttach_not_ended h).2

/-- STREAMING ends ATTACH at once, with the zero taken and RUN on the extensometer (R37, R71). -/
theorem State.requestAttach_testAttach_of_streaming {r : Reading} (attach : s.seq.state = .attach)
    (streaming : s.link.state = .streaming) (latest : s.link.latest = some r) :
    (s.requestAttach owner).testAttach = { s with
      strain := { s.strain with
        zero := some r.elongation, lastUsable := some r.elongation, source := some .extensometer, delta := 0 }
      seq := { s.seq with state := .run }
      rate := { s.rate with initPending := true } } := by
  rw [State.requestAttach_of_attached (.inr streaming), ← State.linkChanged_of_attach attach,
    State.linkChanged_of_attach_streaming attach streaming latest]

end

section
variable {s : State}

/-- The state after an entry to ATTACH, by what the attach asked for makes of it. -/
theorem State.enterAttach_state : s.enterAttach.seq.state = .attach ∨ s.enterAttach.seq.state = .run := by
  rw [State.enterAttach, State.testAttach]
  split_ifs
  · exact .inr rfl
  · exact .inr rfl
  · exact .inl (by simp)
  · exact .inl (by simp)

theorem State.enterAttach_of_not_streaming (h : s.link.state ≠ .streaming) :
    s.enterAttach.seq = { s.seq with state := .attach } ∧ s.enterAttach.eval = s.eval
      ∧ s.enterAttach.strain = s.strain := by
  rw [State.enterAttach, State.requestAttach_testAttach (by simpa using h)]
  simp

variable {b : ProgramBody} {f : Int} {strain : StrainUnit} {x : TestSample} {u : State} {fractured : Bool}

/-- With extensometer use AUTO the sample is computed without a source, velocity 0 is written and the link is asked to
attach. -/
theorem State.sampleTest_of_reached_attach (program : s.headProgram = some b) (state : s.seq.state = .preload)
    (force : s.load.last.force = some f) (reached : b.preload ≤ f) (ext : b.extUse = .auto)
    (holder : s.arbiter.holder = some .sequencer) (hv : 0 ≤ s.drive.config.vmax)
    (hstrain : strain = (s.preloaded b f).strain.compute f s.drive.encoder)
    (hx : x = ⟨f, strain.sigma.getD 0, strain.epsilon.getD 0⟩)
    (hs : (s.preloaded b f).eval.sample b s.strain.source x = (u.eval, fractured))
    (hu : u = { s with
      strain := strain
      eval := u.eval
      seq := { s.seq with state := .attach, yieldEndSeen := s.seq.yieldEndSeen || u.eval.yieldEndRaised }
      drive := { s.drive with generator := none, buffer := none, velocity := 0, source := .sequencer } }) :
    s.sampleTest = (u.requestAttach .sequencer).testAttach := by
  obtain ⟨w, hw⟩ : ∃ w : State, w = { s with
    strain := strain, eval := u.eval
    seq := { s.seq with yieldEndSeen := s.seq.yieldEndSeen || u.eval.yieldEndRaised } } := ⟨_, rfl⟩
  have eval : w.eval = u.eval := by rw [hw]
  have measured : (s.preloaded b f).measure b f = (w, fractured) := by
    refine State.measure_eq (x := x) ?_ ?_ ?_
    · rw [hx, hstrain]
      rfl
    · rw [eval]
      exact hs
    · rw [eval, hw, hstrain]
      rfl
  have rested : State.seqWrite { w with seq := { w.seq with state := .attach } } 0 = u := by
    rw [State.seqWrite_zero (by rw [hw]; exact holder) (by rw [hw]; exact hv), hu, hw]
  rw [State.sampleTest_of_reached_auto program state force reached ext, measured, State.enterAttach]
  exact congrArg (fun t => (State.requestAttach t .sequencer).testAttach) rested

end

/-- Settles O37: below the preload force the approach; above it RUN by the sample's lemma, or ATTACH by the lemmas of
the attach request. -/
theorem preloadIsReachedOrAborts : Obligations.PreloadIsReachedOrAborts := by
  refine ⟨fun s b program state force holder => ?_, fun s b f program state force holder => ⟨fun reached begun hb => ?_,
    fun below => ?_⟩⟩
  · have approach : s.sampleTest = s.approachSample b := by
      rw [State.sampleTest_of_no_force program force (by simp [state]), State.absentSample]
      simp only [state]
    rw [approach]
    exact ⟨State.approachSample_of_beyond, State.approachSample_of_within holder⟩
  · have evaluator : (s.preloaded b f).eval = begun := hb.symm
    have origins : (s.preloaded b f).strain.origins = (some s.drive.encoder, some f) := rfl
    refine ⟨fun ext => ?_, fun ext hv strain x u fractured hstrain hx hs hu => ?_, ?_⟩
    · rw [State.sampleTest_of_reached_none program state force reached ext,
        State.sampleTest_of_run (b := b) (f := f) (by exact program) (by exact force) (.inl rfl), hb]
      simp [State.enterRun, State.preloaded, StrainUnit.setOrigins, Evaluator.begin]
    · have entered := State.sampleTest_of_reached_attach program state force reached ext holder hv
        (hstrain.trans rfl) hx (by rw [evaluator]; exact hs) hu
      have link : u.link = s.link := by rw [hu]
      have attach : u.seq.state = .attach := by rw [hu]
      rw [entered]
      have stays (h : s.link.state ≠ .streaming) :
          (u.requestAttach .sequencer).testAttach = u.requestAttach .sequencer :=
        State.requestAttach_testAttach (by rw [link]; exact h)
      refine ⟨fun down => ?_, fun ready => ⟨fun sleep => ?_, fun sleep pending waiting => ⟨fun empty => ?_,
        fun busy free => ?_, fun busy full => ?_⟩⟩, fun opening => ?_, fun waking => ?_, fun attached => ?_,
        fun streaming l latest => ?_⟩
      · rw [stays (by rcases down with h | h <;> simp [h]), State.requestAttach_of_down (by rw [link]; exact down), link]
        rfl
      · rw [stays (by simp [ready]), State.requestAttach_of_sleep (by rw [link]; exact ready) (by rw [link]; exact sleep),
          link]
        rfl
      · have hands := ExtLink.attachHands_of_ready ready sleep pending
        rw [stays (by simp [ready])]
        rw [← link] at ready hands waiting empty ⊢
        exact State.requestAttach_of_hands_empty ready hands waiting empty
      · have hands := ExtLink.attachHands_of_ready ready sleep pending
        rw [stays (by simp [ready])]
        rw [← link] at ready hands waiting busy free ⊢
        exact State.requestAttach_of_hands_busy ready hands waiting busy free
      · have hands := ExtLink.attachHands_of_ready ready sleep pending
        rw [stays (by simp [ready])]
        rw [← link] at ready hands waiting busy full ⊢
        exact State.requestAttach_of_hands_full ready hands waiting busy (Option.isSome_iff_ne_none.mp full)
      · rw [stays (by simp [opening]), State.requestAttach_of_opening (by rw [link]; exact opening), link]
        rfl
      · rw [stays (by simp [waking]), State.requestAttach_of_waking (by rw [link]; exact waking), link]
      · rw [stays (by rcases attached with h | ⟨h, -⟩ <;> simp [h])]
        rw [← link] at attached
        obtain closing | ⟨ready, pending, sleep, queued⟩ := attached
        · exact State.requestAttach_of_attached (.inl closing)
        · exact State.requestAttach_of_queued ready sleep pending queued
      · rw [State.requestAttach_testAttach_of_streaming attach (by rw [link]; exact streaming)
          (by rw [link]; exact latest), hu]
    · have kept : s.sampleTest.strain.origins = (some s.drive.encoder, some f) := by
        cases ext : b.extUse with
        | none =>
          rw [State.sampleTest_of_reached_none program state force reached ext, State.runSample_origins]
          exact origins
        | auto =>
          rw [State.sampleTest_of_reached_auto program state force reached ext, State.enterAttach_origins,
            State.measure_origins, origins]
      refine ⟨congrArg Prod.fst kept, congrArg Prod.snd kept, fun ext => ?_, fun ext streaming => ?_,
        fun ext ring => ?_⟩
      · rw [State.sampleTest_of_reached_auto program state force reached ext]
        exact State.enterAttach_state
      · have entered := State.enterAttach_of_not_streaming (s := ((s.preloaded b f).measure b f).1) streaming
        rw [State.sampleTest_of_reached_auto program state force reached ext, entered.1, entered.2.1, entered.2.2,
          State.measure_detectors, evaluator, hb]
        exact ⟨rfl, rfl, (StrainUnit.compute_origins _ _ _).1⟩
      · rw [State.sampleTest_of_reached_none program state force reached ext]
        have course := State.runSample_of_whole_crosshead (s := (s.preloaded b f).enterRun .crosshead) (b := b) (f := f)
          (State.measure_of_empty_ring ring) rfl
        rw [course.1, course.2.1, course.2.2.1, course.2.2.2]
        exact ⟨rfl, rfl, by simp [State.enterRun], rfl⟩
  · have approach : s.sampleTest = s.approachSample b := by
      rw [State.sampleTest_of_preload program force state, State.preloadSample, if_neg (not_le.mpr below)]
    rw [approach]
    exact ⟨State.approachSample_of_beyond, State.approachSample_of_within holder⟩

end Sys2Proof.Machine
end
